-- ==== Sys2Proof/Word.lean ====
section
/-! DEFINITION. The byte of the Floor Link and of the flash image; everything wider is a number (R176). -/

namespace Sys2Proof

/-- One byte on the Floor Link (R159) or in the stored image (R179). -/
abbrev Byte := BitVec 8

end Sys2Proof
end

