-- ==== Sys2Proof/Syntax.lean ====
section
/-! DEFINITION. The commands of the MV3K: one constructor for each row of the table of operations and events.
An event names the pin, channel, burner, section or point it happens at by a type that has no other values.
A request carries the raw numbers of its payload (R176), because its owner judges them and answers RANGE. -/

namespace Sys2Proof

/-- The two burners, 1 MAIN and 2 CALC (R176). -/
inductive Burner where
  | main | calciner
deriving DecidableEq, Repr

/-- A1 to A22; the value is the input's number less 1 (R1). -/
abbrev AnalogIn := Fin 22
/-- E1 to E6 (R1). -/
abbrev PulseIn := Fin 6
/-- D1 to D5 (R1). -/
abbrev DiscreteIn := Fin 5
/-- C1 to C6 (R40). -/
abbrev Channel := Fin 6
/-- Grate sections G1 to G3 (R86). -/
abbrev Grate := Fin 3
/-- Compartment fans F1 to F8 (R99). -/
abbrev Fan := Fin 8
/-- Alarm points 1 to 96; the value is the point's number less 1 (R109). -/
abbrev Point := Fin 96

/-- The commands. The rule named is the table's. -/
inductive Instr where
  /-- R3: a sample of the 12-bit converter arrives at an analog input. -/
  | analogSampleArrival (input : AnalogIn) (sample : Nat)
  /-- R116: the trip cause of a trip-class point reaches a burner. -/
  | alarmPoint (b : Burner) (p : Point)
  /-- R10: the signals A and B of an encoder take these levels. -/
  | quadratureEdge (e : PulseIn) (levelA levelB : Bool)
  /-- R12: a discrete pin takes this level (closed or high is `true`). -/
  | discretePinChange (d : DiscreteIn) (level : Bool)
  /-- R12: the debounce timer of a discrete input expires. -/
  | debounceExpiry (d : DiscreteIn)
  /-- R83: the cause EMERGENCY_STOP reaches a burner. -/
  | emergencyStopTrip (b : Burner)
  /-- R80: the cause MAIN_LOST reaches CALC. -/
  | mainLost
  /-- R21: the plan-cycle timer expires. -/
  | planCycleExpiry
  /-- R48: a channel's hold timer expires. -/
  | holdTimerExpiry (c : Channel)
  /-- R61: a channel's calibration stage completes. -/
  | stageTimerExpiry (c : Channel)
  /-- R70: a burner's purge timer expires. -/
  | purgeTimerExpiry (b : Burner)
  /-- R71: a burner's trial timer expires. -/
  | trialTimerExpiry (b : Burner)
  /-- R72: a burner's stabilise timer expires. -/
  | stabiliseTimerExpiry (b : Burner)
  /-- R91: a section's FORWARD ends. -/
  | forwardExpiry (g : Grate)
  /-- R90: a section's DEAD_A ends. -/
  | deadAExpiry (g : Grate)
  /-- R95: a section's RETURN ends. -/
  | returnExpiry (g : Grate)
  /-- R90: a section's REST ends. -/
  | restExpiry (g : Grate)
  /-- R90: a section's return guard ends. -/
  | returnGuardEnd (g : Grate)
  /-- R133: the shift clock's second timer expires. -/
  | secondTimerExpiry
  /-- R119: a point's shelve expires. -/
  | shelveExpiry (p : Point)
  /-- R151: the supervision timer expires. -/
  | supervisionExpiry
  /-- R152: the grace timer expires. -/
  | graceExpiry
  /-- R156: the settle timer expires. -/
  | settleExpiry
  /-- R160: a byte arrives on the Floor Link; `stopBit` is false where its stop bit is found at space (R161). -/
  | linkByteArrival (byte : Byte) (stopBit : Bool)
  /-- R161: the gap timer expires. -/
  | gapExpiry
  /-- R164: the reply in transmission has been sent. -/
  | transmissionCompletion
  /-- R167: 50 ms of unbroken space have passed on the receive line. -/
  | linkBreak
  /-- R174: the supply rises from nothing. -/
  | powerOn
  /-- R174: the supply falls below the dip threshold. -/
  | supplyDip
  /-- R174: the reset pin goes low. -/
  | resetPin
  /-- R174: the cause of the reset ends. -/
  | resetRelease
  /-- R175: the image load ends. -/
  | loadCompletion
  /-- R173: a save ends. `none`: the flash holds the copy as it was given to it; `some bs`: it holds `bs` instead. -/
  | saveCompletion (readBack : Option (List Byte))
  /-- R149. -/
  | statusRead
  /-- R174. -/
  | identRead
  /-- R169: with the clear option's code. -/
  | linkRead (clear : Nat)
  /-- R169: with the bytes to return. -/
  | linkEcho (bytes : List Byte)
  /-- R134. -/
  | clockSet (seconds day : Nat)
  /-- R23. -/
  | heatSet (burner demand : Nat)
  /-- R64. -/
  | channelRead (channel clear : Nat)
  /-- R44. -/
  | channelServiceIn (channel : Nat)
  /-- R45. -/
  | channelServiceOut (channel : Nat)
  /-- R50. -/
  | channelReset (channel : Nat)
  /-- R59. -/
  | calibrateZero (channel duration : Nat)
  /-- R59. -/
  | calibrateSpan (channel testLoad duration : Nat)
  /-- R62. -/
  | calibrateAbort (channel : Nat)
  /-- R84. -/
  | burnerRead (burner : Nat)
  /-- R69. -/
  | burnerLight (burner : Nat)
  /-- R75. -/
  | burnerStop (burner : Nat)
  /-- R82. -/
  | burnerResetTrip (burner : Nat)
  /-- R107: item 0 section, 1 fan, 2 cooler (R176). -/
  | coolerRead (item number : Nat)
  /-- R88. -/
  | coolerSet (grate mode manualRate forward ret dead : Nat)
  /-- R93. -/
  | grateRun (grate : Nat)
  /-- R94. -/
  | grateSingle (grate : Nat)
  /-- R95. -/
  | grateStop (grate : Nat)
  /-- R96. -/
  | grateReset (grate : Nat)
  /-- R102: `on` is the on-or-off code. -/
  | fanSet (fan on target : Nat)
  /-- R19: class 0 analog, 1 pulse, 2 discrete (R176). -/
  | inputRead (cls number : Nat)
  /-- R16, R17. -/
  | inputForce (cls number : Nat) (value : Int)
  /-- R18. -/
  | inputRelease (cls number : Nat)
  /-- R130. -/
  | alarmRead (point : Nat)
  /-- R130: part 0 LIST, 1 WAITING (R176). -/
  | listRead (part start : Nat)
  /-- R126. -/
  | alarmAckTop
  /-- R127. -/
  | alarmAckPoint (point : Nat)
  /-- R128. -/
  | alarmAckAll
  /-- R118. -/
  | alarmShelve (point duration : Nat)
  /-- R119. -/
  | alarmUnshelve (point : Nat)
  /-- R120. -/
  | alarmDisable (point : Nat)
  /-- R121. -/
  | alarmEnable (point : Nat)
  /-- R129. -/
  | alarmRaise (point : Nat)
  /-- R129. -/
  | alarmClear (point : Nat)
  /-- R125. -/
  | hornSilence
  /-- R136. -/
  | shiftClose
  /-- R144: source 0 to 3 or 0x10, form 0 FULL, 1 DELTA, 2 COMPARE (R176). -/
  | reportOpen (source form : Nat)
  /-- R146. -/
  | reportPart (part : Nat)
  /-- R154. -/
  | enterStandby
  /-- R156. -/
  | leaveStandby
  /-- R171. -/
  | settingsRead (item index : Nat)
  /-- R172: index 0xFF is ALL (R176). -/
  | settingsWrite (item index : Nat) (value : Int)
  /-- R173. -/
  | settingsSave
  /-- R170: `seq` is the sequence of its frame, which its reply carries. -/
  | restart (seq : Byte)
  /-- R167: the receive line returns to mark. -/
  | breakEnd
deriving DecidableEq, Repr

end Sys2Proof
end

