-- ==== Sys2Proof/Config.lean ====
section
/-! DEFINITION. The free values: constants and functions without a body, for what the spec leaves open. A function of a
number is applied to the count of draws that State holds, so that each draw is a value of its own. -/

namespace Sys2Proof

/-- Vendor code of IDENT READ (R174 names it and gives no value). -/
opaque Config.vendorCode : Byte
/-- Family code of IDENT READ (R174). -/
opaque Config.familyCode : Byte
/-- Part code of IDENT READ (R174). -/
opaque Config.partCode : Byte

/-- Which of several events that are due together is taken first: the manual fixes no order (R21, R83, R133). -/
opaque Config.firstTaken : Nat → Nat

/-- Where a save stands when a full reset stops it: "unchanged, erased, partly written or whole" (R173). -/
opaque Config.saveStop : Nat → Nat

/-- The mean of no samples: R61 forms floor(sample sum / sample count) and states no result for a count of 0. -/
opaque Config.meanOfNone : Nat → Nat

/-- The sequence number after the highest 32-bit one (R141 states none). -/
opaque Config.sequenceAfterTop : Nat

/-- The high part of a section's stroke counter after its highest value (R86 says it cannot be reached and states none). -/
opaque Config.strokesAfterTop : Nat

/-- Is COOLER READ of the cooler record refused for a number byte other than 0? R107 and R176 give that item no number. -/
opaque Config.coolerNumberChecked : Nat → Bool

end Sys2Proof
end

