-- ==== Sys2Proof/Machine/Settings.lean ====
section
/-! DEFINITION. The settings set: every settings item with its default (R2, R4, R9, R22, R40, R67, R87, R99, R109, R118,
R135, R149), its range, its number and index (R171, R179). The live set, the copy a save takes and the set an image
holds are all of this type. -/

namespace Sys2Proof.Machine

/-- A channel's assignment (R40). -/
inductive Assign where
  | unassigned | main | calciner
deriving DecidableEq, Repr

/-- A point's trip target (R110): NONE, MAIN, CALC, BOTH. -/
inductive TripTarget where
  | noTrip | main | calciner | both
deriving DecidableEq, Repr

/-- A point's start state (R110). -/
inductive StartState where
  | enabled | disabled
deriving DecidableEq, Repr

/-- A grate section's mode (R87). -/
inductive GrateMode where
  | auto | manual
deriving DecidableEq, Repr

/-- One value for each of the two burners. -/
structure PerBurner (α : Type) where
  main : α
  calciner : α
deriving DecidableEq, Repr

/-- The value of one burner. -/
def PerBurner.get {α : Type} (v : PerBurner α) : Burner → α
  | .main => v.main
  | .calciner => v.calciner

/-- `v` with one burner's value changed by `f`. -/
def PerBurner.upd {α : Type} (v : PerBurner α) (b : Burner) (f : α → α) : PerBurner α :=
  match b with
  | .main => { v with main := f v.main }
  | .calciner => { v with calciner := f v.calciner }

/-- The vector `v` with entry `i` changed by `f`. -/
def upd {α : Type} {n : Nat} (v : Vector α n) (i : Fin n) (f : α → α) : Vector α n :=
  v.set i.val (f v[i.val]) i.isLt

/-- The unit range of an analog input's role (R4, R9). -/
def unitRange (i : AnalogIn) : Int × Int :=
  if i.val < 8 then (0, 4095) else if i.val < 11 then (0, 10000) else if i.val < 19 then (0, 1200)
  else if i.val < 21 then (0, 1600) else (-500, 100)

/-- The default hysteresis of an analog input's role (R9). -/
def defaultHysteresis (i : AnalogIn) : Nat :=
  if i.val < 6 then 20 else if i.val < 8 then 50 else if i.val < 11 then 100 else if i.val < 19 then 20 else 10

/-- Settings of one analog input (R2). -/
structure InputSet where
  scaleLow : Int
  scaleHigh : Int
  lowLimit : Int
  highLimit : Int
  hysteresis : Nat
deriving DecidableEq, Repr

/-- The defaults of R4 and R9. -/
def defaultInput (i : AnalogIn) : InputSet :=
  { scaleLow := (unitRange i).1, scaleHigh := (unitRange i).2, lowLimit := (unitRange i).1,
    highLimit := (unitRange i).2, hysteresis := defaultHysteresis i }

/-- Settings of one burner (R22, R67, R149). -/
structure BurnerSet where
  maxHeat : Nat := 250000
  rampRate : Nat := 500
  shortfallLimit : Nat := 2000
  purgeTime : Nat := 120
  purgeLow : Int := -300
  purgeHigh : Int := -50
  trialTime : Nat := 10
  flameOn : Nat := 1600
  flameOff : Nat := 1200
  failSamples : Nat := 20
  permit : Nat := 850
  fallbackHeat : Nat
deriving DecidableEq, Repr

/-- Settings of one channel (R40). -/
structure ChanSet where
  assign : Assign := .unassigned
  cv : Nat := 25000
  share : Nat := 0
  minRate : Nat := 0
  maxRate : Nat := 0
  fullRate : Nat := 10000
  tare : Nat := 0
  span : Nat := 10000
  ppm : Nat := 1000
  trimGain : Nat := 100
  trimLimit : Nat := 1000
  tolerance : Nat := 200
  devTime : Nat := 30
  holdTime : Nat := 10
  calDrive : Nat := 3000
deriving DecidableEq, Repr

/-- Settings of one grate section (R87). -/
structure GrateSet where
  mode : GrateMode := .manual
  manualRate : Nat := 100
  forward : Nat := 2000
  ret : Nat := 2000
  dead : Nat := 250
  rateMin : Nat := 40
  rateMax : Nat := 250
  ratio : Nat := 1000
  setpoint : Nat := 5000
  rateGain : Nat := 20
  clinkerFactor : Nat := 50
deriving DecidableEq, Repr

/-- The cooler-wide settings (R87). -/
structure CoolerSet where
  overloadPressure : Nat := 8000
  overloadTime : Nat := 60
  clearTime : Nat := 120
  capPercent : Nat := 90
  boost : Nat := 100
deriving DecidableEq, Repr

/-- Settings of one fan (R99). -/
structure FanSet where
  table : Vector Nat 9 := #v[0, 125, 250, 375, 500, 625, 750, 875, 1000]
  gain : Nat := 50
  failLevel : Nat := 150
  failTime : Nat := 10
  standby : Nat := 200
deriving DecidableEq, Repr

/-- Settings of one alarm point (R110). -/
structure PointSet where
  priority : Nat
  target : TripTarget
  start : StartState := .enabled
deriving DecidableEq, Repr

/-- The default priority of a point (R109). -/
def defaultPriority (p : Point) : Nat :=
  let n := p.val + 1
  if n = 63 ∨ n = 64 ∨ n = 79 then 1
  else if (51 ≤ n ∧ n ≤ 56) ∨ (67 ≤ n ∧ n ≤ 70) ∨ n = 80 ∨ n = 81 then 2
  else if n = 82 then 4 else 3

/-- Is the trip target of the point a setting (points 1 to 44 and 84 to 96, R109)? -/
def targetIsSetting (p : Point) : Bool := decide (p.val + 1 ≤ 44 ∨ 84 ≤ p.val + 1)

/-- The fixed trip target (R109), which is also the default of a settable one: BOTH for point 79, NONE for the rest. -/
def fixedTarget (p : Point) : TripTarget := if p.val + 1 = 79 then .both else .noTrip

/-- The whole settings set. -/
structure Settings where
  inputs : Vector InputSet 22
  burners : PerBurner BurnerSet
  chans : Vector ChanSet 6
  grates : Vector GrateSet 3
  cooler : CoolerSet
  fans : Vector FanSet 8
  points : Vector PointSet 96
  shelveDefault : Nat
  shiftStart : Nat
  shiftLength : Nat
  supervisionTime : Nat
  graceTime : Nat
deriving DecidableEq, Repr

/-- Every item at its default (R175). -/
def defaultSettings : Settings :=
  { inputs := Vector.ofFn defaultInput
    burners := ⟨{ fallbackHeat := 30000 }, { fallbackHeat := 15000 }⟩
    chans := Vector.replicate 6 {}
    grates := Vector.replicate 3 {}
    cooler := {}
    fans := Vector.replicate 8 {}
    points := Vector.ofFn fun p => { priority := defaultPriority p, target := fixedTarget p }
    shelveDefault := 60
    shiftStart := 360
    shiftLength := 480
    supervisionTime := 5
    graceTime := 120 }

/-! ## Items -/

/-- Items of an analog input, in number order (R179). -/
inductive InputItem where
  | scaleLow | scaleHigh | lowLimit | highLimit | hysteresis
deriving DecidableEq, Repr

/-- The demand items of a burner, in number order (R179). -/
inductive HeatItem where
  | maxHeat | rampRate | shortfallLimit
deriving DecidableEq, Repr

/-- Items of a channel, in number order (R40, R179). -/
inductive ChanItem where
  | assign | cv | share | minRate | maxRate | fullRate | tare | span | ppm | trimGain | trimLimit | tolerance
  | devTime | holdTime | calDrive
deriving DecidableEq, Repr

/-- Items of a burner sequencer, in number order (R67, R179). -/
inductive BurnerItem where
  | purgeTime | purgeLow | purgeHigh | trialTime | flameOn | flameOff | failSamples | permit
deriving DecidableEq, Repr

/-- Items of a grate section, in number order (R179). -/
inductive GrateItem where
  | mode | manualRate | forward | ret | dead | rateMin | rateMax | ratio | setpoint | rateGain | clinkerFactor
deriving DecidableEq, Repr

/-- The cooler-wide items, in number order (R179). -/
inductive CoolerItem where
  | overloadPressure | overloadTime | clearTime | capPercent | boost
deriving DecidableEq, Repr

/-- Items of a fan: the nine table points and then four more, in number order (R179). -/
inductive FanItem where
  | table (k : Fin 9)
  | gain | failLevel | failTime | standby
deriving DecidableEq, Repr

/-- Items of an alarm point, in number order (R179). -/
inductive PointItem where
  | priority | target | start
deriving DecidableEq, Repr

/-- One settings item of one instance: what a SETTINGS READ names (R171). -/
inductive Ref where
  | input (i : AnalogIn) (k : InputItem)
  | heat (b : Burner) (k : HeatItem)
  | chan (c : Channel) (k : ChanItem)
  | burner (b : Burner) (k : BurnerItem)
  | grate (g : Grate) (k : GrateItem)
  | cooler (k : CoolerItem)
  | fan (f : Fan) (k : FanItem)
  | point (p : Point) (k : PointItem)
  | shelveDefault
  | shiftStart
  | shiftLength
  | supervisionTime
  | graceTime
  | fallbackHeat (b : Burner)
deriving DecidableEq, Repr

def inputItems : List InputItem := [.scaleLow, .scaleHigh, .lowLimit, .highLimit, .hysteresis]
def heatItems : List HeatItem := [.maxHeat, .rampRate, .shortfallLimit]
def chanItems : List ChanItem :=
  [.assign, .cv, .share, .minRate, .maxRate, .fullRate, .tare, .span, .ppm, .trimGain, .trimLimit, .tolerance,
   .devTime, .holdTime, .calDrive]
def burnerItems : List BurnerItem :=
  [.purgeTime, .purgeLow, .purgeHigh, .trialTime, .flameOn, .flameOff, .failSamples, .permit]
def grateItems : List GrateItem :=
  [.mode, .manualRate, .forward, .ret, .dead, .rateMin, .rateMax, .ratio, .setpoint, .rateGain, .clinkerFactor]
def coolerItems : List CoolerItem := [.overloadPressure, .overloadTime, .clearTime, .capPercent, .boost]
def fanItems : List FanItem :=
  ((List.finRange 9).map FanItem.table) ++ [.gain, .failLevel, .failTime, .standby]
def pointItems : List PointItem := [.priority, .target, .start]
def bothBurners : List Burner := [.main, .calciner]

/-- The entry numbered `k`, counting from 1. -/
def nth {α : Type} (l : List α) (k : Nat) : Option α := if k = 0 then none else l[k - 1]?

/-- The instance numbered `k`, from 1 to `n` (R171). -/
def instNo (n k : Nat) : Option (Fin n) := if h : 1 ≤ k ∧ k ≤ n then some ⟨k - 1, by omega⟩ else none

/-- The burner coded `k`: 1 MAIN, 2 CALC (R176). -/
def burnerNo (k : Nat) : Option Burner := if k = 1 then some .main else if k = 2 then some .calciner else none

/-- How an item is indexed (R171, R179): by `n` instances, or with no instance and index 0. -/
inductive IndexKind where
  | instances (n : Nat)
  | single
deriving DecidableEq, Repr

/-- The index kind of an item number, or none where no item has it (R179). -/
def indexKind (item : Nat) : Option IndexKind :=
  let k := item % 256
  match item / 256 with
  | 1 => if 1 ≤ k ∧ k ≤ 5 then some (.instances 22) else none
  | 2 => if 1 ≤ k ∧ k ≤ 3 then some (.instances 2) else none
  | 3 => if 1 ≤ k ∧ k ≤ 15 then some (.instances 6) else none
  | 4 => if 1 ≤ k ∧ k ≤ 8 then some (.instances 2) else none
  | 5 => if 1 ≤ k ∧ k ≤ 11 then some (.instances 3) else none
  | 6 => if 1 ≤ k ∧ k ≤ 5 then some .single else none
  | 7 => if 1 ≤ k ∧ k ≤ 13 then some (.instances 8) else none
  | 8 => if 1 ≤ k ∧ k ≤ 3 then some (.instances 96) else if k = 4 then some .single else none
  | 9 => if 1 ≤ k ∧ k ≤ 2 then some .single else none
  | 10 => if 1 ≤ k ∧ k ≤ 2 then some .single else if k = 3 then some (.instances 2) else none
  | _ => none

/-- The item of one instance that a number and an index name; none where the number is unknown, the index lies outside
the item's kind, or an item without instances is given an index other than 0 (R171). -/
def refOf (item index : Nat) : Option Ref :=
  let k := item % 256
  match item / 256 with
  | 1 => (nth inputItems k).bind fun it => (instNo 22 index).map fun i => .input i it
  | 2 => (nth heatItems k).bind fun it => (burnerNo index).map fun b => .heat b it
  | 3 => (nth chanItems k).bind fun it => (instNo 6 index).map fun c => .chan c it
  | 4 => (nth burnerItems k).bind fun it => (burnerNo index).map fun b => .burner b it
  | 5 => (nth grateItems k).bind fun it => (instNo 3 index).map fun g => .grate g it
  | 6 => if index = 0 then (nth coolerItems k).map .cooler else none
  | 7 => (nth fanItems k).bind fun it => (instNo 8 index).map fun f => .fan f it
  | 8 => if k = 4 then (if index = 0 then some .shelveDefault else none)
         else (nth pointItems k).bind fun it => (instNo 96 index).map fun p => .point p it
  | 9 => if index = 0 then nth [.shiftStart, .shiftLength] k else none
  | 10 => if k = 3 then (burnerNo index).map .fallbackHeat
          else if index = 0 then nth [.supervisionTime, .graceTime] k else none
  | _ => none

/-- Every item of every instance in the image's order: number order, instance by instance (R179). -/
def allRefs : List Ref :=
  (inputItems.flatMap fun k => (List.finRange 22).map fun i => Ref.input i k)
  ++ (heatItems.flatMap fun k => bothBurners.map fun b => Ref.heat b k)
  ++ (chanItems.flatMap fun k => (List.finRange 6).map fun c => Ref.chan c k)
  ++ (burnerItems.flatMap fun k => bothBurners.map fun b => Ref.burner b k)
  ++ (grateItems.flatMap fun k => (List.finRange 3).map fun g => Ref.grate g k)
  ++ coolerItems.map Ref.cooler
  ++ (fanItems.flatMap fun k => (List.finRange 8).map fun f => Ref.fan f k)
  ++ (pointItems.flatMap fun k => (List.finRange 96).map fun p => Ref.point p k)
  ++ [.shelveDefault, .shiftStart, .shiftLength, .supervisionTime, .graceTime]
  ++ bothBurners.map Ref.fallbackHeat

/-! ## Codes of the enumerated items (R176) -/

def Assign.code : Assign → Nat
  | .unassigned => 0 | .main => 1 | .calciner => 2
def assignOf (k : Int) : Assign := if k = 1 then .main else if k = 2 then .calciner else .unassigned
def TripTarget.code : TripTarget → Nat
  | .noTrip => 0 | .main => 1 | .calciner => 2 | .both => 3
def targetOf (k : Int) : TripTarget :=
  if k = 1 then .main else if k = 2 then .calciner else if k = 3 then .both else .noTrip
def StartState.code : StartState → Nat
  | .enabled => 0 | .disabled => 1
def startOf (k : Int) : StartState := if k = 1 then .disabled else .enabled
def GrateMode.code : GrateMode → Nat
  | .auto => 0 | .manual => 1
def modeOf (k : Int) : GrateMode := if k = 0 then .auto else .manual

/-! ## Reading and storing one item -/

def InputSet.item (x : InputSet) : InputItem → Int
  | .scaleLow => x.scaleLow | .scaleHigh => x.scaleHigh | .lowLimit => x.lowLimit
  | .highLimit => x.highLimit | .hysteresis => x.hysteresis

def InputSet.withItem (x : InputSet) (k : InputItem) (v : Int) : InputSet :=
  match k with
  | .scaleLow => { x with scaleLow := v } | .scaleHigh => { x with scaleHigh := v }
  | .lowLimit => { x with lowLimit := v } | .highLimit => { x with highLimit := v }
  | .hysteresis => { x with hysteresis := v.toNat }

def BurnerSet.heatItem (x : BurnerSet) : HeatItem → Int
  | .maxHeat => x.maxHeat | .rampRate => x.rampRate | .shortfallLimit => x.shortfallLimit

def BurnerSet.withHeatItem (x : BurnerSet) (k : HeatItem) (v : Int) : BurnerSet :=
  match k with
  | .maxHeat => { x with maxHeat := v.toNat } | .rampRate => { x with rampRate := v.toNat }
  | .shortfallLimit => { x with shortfallLimit := v.toNat }

def ChanSet.item (x : ChanSet) : ChanItem → Int
  | .assign => x.assign.code | .cv => x.cv | .share => x.share | .minRate => x.minRate | .maxRate => x.maxRate
  | .fullRate => x.fullRate | .tare => x.tare | .span => x.span | .ppm => x.ppm | .trimGain => x.trimGain
  | .trimLimit => x.trimLimit | .tolerance => x.tolerance | .devTime => x.devTime | .holdTime => x.holdTime
  | .calDrive => x.calDrive

def ChanSet.withItem (x : ChanSet) (k : ChanItem) (v : Int) : ChanSet :=
  match k with
  | .assign => { x with assign := assignOf v } | .cv => { x with cv := v.toNat }
  | .share => { x with share := v.toNat } | .minRate => { x with minRate := v.toNat }
  | .maxRate => { x with maxRate := v.toNat } | .fullRate => { x with fullRate := v.toNat }
  | .tare => { x with tare := v.toNat } | .span => { x with span := v.toNat } | .ppm => { x with ppm := v.toNat }
  | .trimGain => { x with trimGain := v.toNat } | .trimLimit => { x with trimLimit := v.toNat }
  | .tolerance => { x with tolerance := v.toNat } | .devTime => { x with devTime := v.toNat }
  | .holdTime => { x with holdTime := v.toNat } | .calDrive => { x with calDrive := v.toNat }

def BurnerSet.item (x : BurnerSet) : BurnerItem → Int
  | .purgeTime => x.purgeTime | .purgeLow => x.purgeLow | .purgeHigh => x.purgeHigh | .trialTime => x.trialTime
  | .flameOn => x.flameOn | .flameOff => x.flameOff | .failSamples => x.failSamples | .permit => x.permit

def BurnerSet.withItem (x : BurnerSet) (k : BurnerItem) (v : Int) : BurnerSet :=
  match k with
  | .purgeTime => { x with purgeTime := v.toNat } | .purgeLow => { x with purgeLow := v }
  | .purgeHigh => { x with purgeHigh := v } | .trialTime => { x with trialTime := v.toNat }
  | .flameOn => { x with flameOn := v.toNat } | .flameOff => { x with flameOff := v.toNat }
  | .failSamples => { x with failSamples := v.toNat } | .permit => { x with permit := v.toNat }

def GrateSet.item (x : GrateSet) : GrateItem → Int
  | .mode => x.mode.code | .manualRate => x.manualRate | .forward => x.forward | .ret => x.ret | .dead => x.dead
  | .rateMin => x.rateMin | .rateMax => x.rateMax | .ratio => x.ratio | .setpoint => x.setpoint
  | .rateGain => x.rateGain | .clinkerFactor => x.clinkerFactor

def GrateSet.withItem (x : GrateSet) (k : GrateItem) (v : Int) : GrateSet :=
  match k with
  | .mode => { x with mode := modeOf v } | .manualRate => { x with manualRate := v.toNat }
  | .forward => { x with forward := v.toNat } | .ret => { x with ret := v.toNat }
  | .dead => { x with dead := v.toNat } | .rateMin => { x with rateMin := v.toNat }
  | .rateMax => { x with rateMax := v.toNat } | .ratio => { x with ratio := v.toNat }
  | .setpoint => { x with setpoint := v.toNat } | .rateGain => { x with rateGain := v.toNat }
  | .clinkerFactor => { x with clinkerFactor := v.toNat }

def CoolerSet.item (x : CoolerSet) : CoolerItem → Int
  | .overloadPressure => x.overloadPressure | .overloadTime => x.overloadTime | .clearTime => x.clearTime
  | .capPercent => x.capPercent | .boost => x.boost

def CoolerSet.withItem (x : CoolerSet) (k : CoolerItem) (v : Int) : CoolerSet :=
  match k with
  | .overloadPressure => { x with overloadPressure := v.toNat } | .overloadTime => { x with overloadTime := v.toNat }
  | .clearTime => { x with clearTime := v.toNat } | .capPercent => { x with capPercent := v.toNat }
  | .boost => { x with boost := v.toNat }

def FanSet.item (x : FanSet) : FanItem → Int
  | .table k => x.table[k] | .gain => x.gain | .failLevel => x.failLevel | .failTime => x.failTime
  | .standby => x.standby

def FanSet.withItem (x : FanSet) (k : FanItem) (v : Int) : FanSet :=
  match k with
  | .table j => { x with table := upd x.table j fun _ => v.toNat } | .gain => { x with gain := v.toNat }
  | .failLevel => { x with failLevel := v.toNat } | .failTime => { x with failTime := v.toNat }
  | .standby => { x with standby := v.toNat }

def PointSet.item (x : PointSet) : PointItem → Int
  | .priority => x.priority | .target => x.target.code | .start => x.start.code

def PointSet.withItem (x : PointSet) (k : PointItem) (v : Int) : PointSet :=
  match k with
  | .priority => { x with priority := v.toNat } | .target => { x with target := targetOf v }
  | .start => { x with start := startOf v }

/-- The value of an item, as SETTINGS READ and the image carry it (R171, R179). -/
def Settings.get (s : Settings) : Ref → Int
  | .input i k => s.inputs[i].item k
  | .heat b k => (s.burners.get b).heatItem k
  | .chan c k => s.chans[c].item k
  | .burner b k => (s.burners.get b).item k
  | .grate g k => s.grates[g].item k
  | .cooler k => s.cooler.item k
  | .fan f k => s.fans[f].item k
  | .point p k => s.points[p].item k
  | .shelveDefault => s.shelveDefault
  | .shiftStart => s.shiftStart
  | .shiftLength => s.shiftLength
  | .supervisionTime => s.supervisionTime
  | .graceTime => s.graceTime
  | .fallbackHeat b => (s.burners.get b).fallbackHeat

/-- `s` with an item stored. -/
def Settings.put (s : Settings) (r : Ref) (v : Int) : Settings :=
  match r with
  | .input i k => { s with inputs := upd s.inputs i fun x => x.withItem k v }
  | .heat b k => { s with burners := s.burners.upd b fun x => x.withHeatItem k v }
  | .chan c k => { s with chans := upd s.chans c fun x => x.withItem k v }
  | .burner b k => { s with burners := s.burners.upd b fun x => x.withItem k v }
  | .grate g k => { s with grates := upd s.grates g fun x => x.withItem k v }
  | .cooler k => { s with cooler := s.cooler.withItem k v }
  | .fan f k => { s with fans := upd s.fans f fun x => x.withItem k v }
  | .point p k => { s with points := upd s.points p fun x => x.withItem k v }
  | .shelveDefault => { s with shelveDefault := v.toNat }
  | .shiftStart => { s with shiftStart := v.toNat }
  | .shiftLength => { s with shiftLength := v.toNat }
  | .supervisionTime => { s with supervisionTime := v.toNat }
  | .graceTime => { s with graceTime := v.toNat }
  | .fallbackHeat b => { s with burners := s.burners.upd b fun x => { x with fallbackHeat := v.toNat } }

/-- Is the value within the bounds, both included? -/
def within (lo hi v : Int) : Bool := decide (lo ≤ v ∧ v ≤ hi)

/-- Does the value lie in the item's range (R4, R9, R22, R40, R67, R87, R99, R109 to R111, R118, R135, R149)? -/
def inRange (r : Ref) (v : Int) : Bool :=
  match r with
  | .input _ .hysteresis => within 0 1000 v
  | .input i _ => within (unitRange i).1 (unitRange i).2 v
  | .heat _ .maxHeat => within 0 250000 v
  | .heat _ .rampRate => within 10 10000 v
  | .heat _ .shortfallLimit => within 0 50000 v
  | .chan _ .assign => within 0 2 v
  | .chan _ .cv => within 1000 40000 v
  | .chan _ .share => within 0 1000 v
  | .chan _ .minRate => within 0 60000 v
  | .chan _ .maxRate => within 0 60000 v
  | .chan _ .fullRate => within 1 60000 v
  | .chan _ .tare => within 0 4095 v
  | .chan _ .span => within 1 65535 v
  | .chan _ .ppm => within 1 10000 v
  | .chan _ .trimGain => within 0 1000 v
  | .chan _ .trimLimit => within 0 3000 v
  | .chan _ .tolerance => within 1 5000 v
  | .chan _ .devTime => within 1 120 v
  | .chan _ .holdTime => within 5 60 v
  | .chan _ .calDrive => within 500 10000 v
  | .burner _ .purgeTime => within 30 600 v
  | .burner _ .purgeLow => within (-500) 100 v
  | .burner _ .purgeHigh => within (-500) 100 v
  | .burner _ .trialTime => within 3 15 v
  | .burner _ .flameOn => within 1 4094 v
  | .burner _ .flameOff => within 1 4094 v
  | .burner _ .failSamples => within 10 40 v
  | .burner _ .permit => within 0 1600 v
  | .grate _ .mode => within 0 1 v
  | .grate _ .manualRate => within 20 300 v
  | .grate _ .forward => within 200 20000 v
  | .grate _ .ret => within 200 20000 v
  | .grate _ .dead => within 50 2000 v
  | .grate _ .rateMin => within 20 300 v
  | .grate _ .rateMax => within 20 300 v
  | .grate _ .ratio => within 100 3000 v
  | .grate _ .setpoint => within 0 10000 v
  | .grate _ .rateGain => within 0 1000 v
  | .grate _ .clinkerFactor => within 0 10000 v
  | .cooler .overloadPressure => within 0 10000 v
  | .cooler .overloadTime => within 10 600 v
  | .cooler .clearTime => within 10 600 v
  | .cooler .capPercent => within 50 100 v
  | .cooler .boost => within 0 300 v
  | .fan _ (.table _) => within 0 1000 v
  | .fan _ .gain => within 0 1000 v
  | .fan _ .failLevel => within 0 1200 v
  | .fan _ .failTime => within 1 60 v
  | .fan _ .standby => within 0 1000 v
  | .point _ .priority => within 1 4 v
  | .point _ .target => within 0 3 v
  | .point _ .start => within 0 1 v
  | .shelveDefault => within 1 480 v
  | .shiftStart => within 0 1439 v
  | .shiftLength => decide (v = 240 ∨ v = 360 ∨ v = 480 ∨ v = 720)
  | .supervisionTime => within 1 60 v
  | .graceTime => within 10 3600 v
  | .fallbackHeat _ => within 0 250000 v

/-- Does the load take this instance of the item from the image? The scales of A1 to A8 (R4), the ratio of G1 and the loop
items of G2 and G3 (R87) get their default whatever the image holds (log entry 24). -/
def isLoaded (r : Ref) : Bool :=
  match r with
  | .input i .scaleLow => decide (8 ≤ i.val)
  | .input i .scaleHigh => decide (8 ≤ i.val)
  | .grate g .ratio => decide (g.val ≠ 0)
  | .grate g .setpoint => decide (g.val = 0)
  | .grate g .rateGain => decide (g.val = 0)
  | .grate g .clinkerFactor => decide (g.val = 0)
  | _ => true

/-- May this instance of the item be written at all? Those that the load gives their default, the permit of MAIN (R67) and
the fixed trip targets (R111) may not: a write of one is refused RANGE. -/
def isSettable (r : Ref) : Bool :=
  match r with
  | .burner b .permit => decide (b = .calciner)
  | .point p .target => targetIsSetting p
  | r => isLoaded r

/-- The items constrained against each other, low one first (R175). -/
def pairs : List (Ref × Ref) :=
  ((List.finRange 6).map fun c => (Ref.chan c .minRate, Ref.chan c .maxRate))
  ++ (bothBurners.map fun b => (Ref.burner b .flameOff, Ref.burner b .flameOn))
  ++ ((List.finRange 22).map fun i => (Ref.input i .scaleLow, Ref.input i .scaleHigh))
  ++ (bothBurners.map fun b => (Ref.burner b .purgeLow, Ref.burner b .purgeHigh))
  ++ ((List.finRange 3).map fun g => (Ref.grate g .rateMin, Ref.grate g .rateMax))

/-- Does a pair stand as its owner requires? A scale (R4) and a purge window (R67) may not be empty; the others may. -/
def pairHolds (low : Ref) (lo hi : Int) : Bool :=
  match low with
  | .input _ _ => decide (lo < hi)
  | .burner _ .purgeLow => decide (lo < hi)
  | _ => decide (lo ≤ hi)

end Sys2Proof.Machine
end

