-- ==== Sys2Proof/Machine/Records.lean ====
section
/-! DEFINITION. The records of the ten blocks as plain data, and each record as its start-up rule sets it. -/

namespace Sys2Proof.Machine

/-- A timer: stopped, or running with its remaining time in ms. -/
abbrev Timer := Option Nat

/-- A clock as it is stored: seconds of day, day count, and whether it was SET (R133, R176). -/
structure Clock where
  seconds : Nat
  day : Nat
  isSet : Bool
deriving DecidableEq, Repr

/-! ## Input Scanner (R2, R10, R12) -/

/-- Quality of an analog input (R2). -/
inductive Quality where
  | good | bad | unsettled | forced
deriving DecidableEq, Repr

/-- The judgement of an arrival while UNSETTLED (R2). -/
inductive Judged where
  | good | bad
deriving DecidableEq, Repr

/-- Analog input record, its settings apart (R2). -/
structure AnalogRec where
  raw : Option Nat
  lastGood : Nat
  value : Int
  quality : Quality
  judged : Option Judged
  lowCond : Bool
  highCond : Bool
  force : Option Nat
deriving DecidableEq, Repr

/-- Pulse input record (R10, R11, R17); `levelA`, `levelB` are the last observed pair. -/
structure PulseRec where
  levelA : Bool
  levelB : Bool
  count : Int
  lastTaken : Int
  errors : Nat
  force : Option Int
deriving DecidableEq, Repr

/-- Discrete input record (R12); closed or high is `true`. -/
structure DiscreteRec where
  pin : Bool
  debounced : Bool
  timer : Timer
deriving DecidableEq, Repr

/-- The Input Scanner. The force set of R15 is the inputs whose `force` is present. -/
structure Scanner where
  analog : Vector AnalogRec 22
  pulse : Vector PulseRec 6
  discrete : Vector DiscreteRec 5
deriving DecidableEq, Repr

/-! ## Firing Planner (R22, R28) -/

/-- How the plan treated a channel (R28). -/
inductive Role where
  | noRole | zeroShare | split | atMax | atMin | held
deriving DecidableEq, Repr

/-- Plan entry of a channel (R28). -/
structure PlanEntry where
  rate : Nat
  heat : Nat
  role : Role
deriving DecidableEq, Repr

/-- The empty plan entry (R28). -/
def emptyEntry : PlanEntry := ⟨0, 0, .noRole⟩

/-- Demand record of a burner, its settings and MAIN's cap apart (R22). -/
structure Demand where
  hReq : Nat
  hApp : Nat
  shortfall : Nat
  surplus : Nat
  shortfallCount : Nat
  shortfallCond : Bool
deriving DecidableEq, Repr

/-- A channel as the split takes it: its number and the fuel parameters the split reads (R30). -/
structure Fuel where
  chan : Channel
  cv : Nat
  share : Nat
  minRate : Nat
  maxRate : Nat
deriving DecidableEq, Repr

/-- The Firing Planner. `excesses` holds the excess of each channel in the plan that its entry shows, which the surplus sums
(R33). `fuels` holds the fuel parameters that the last plan cycle read: a written one is used from the next plan cycle, and so
not in a replan before it (R38, R42; log entry 44). -/
structure Planner where
  demand : PerBurner Demand
  hCap : Nat
  entries : Vector PlanEntry 6
  excesses : Vector Nat 6
  fuels : Vector Fuel 6
  planTimer : Timer
deriving DecidableEq, Repr

/-! ## Channel Dosing Units (R41, R60, R63) -/

inductive ChanState where
  | out | idle | dosing | hold | fault | calib
deriving DecidableEq, Repr

/-- Fault causes, in the order of R41. -/
inductive FaultCause where
  | holdExpired | deviation | encoder | reverse
deriving DecidableEq, Repr

inductive StageKind where
  | zero | span
deriving DecidableEq, Repr

/-- Calibration stage (R60). -/
structure Stage where
  kind : StageKind
  testLoad : Option Nat
  duration : Nat
  timer : Timer
  drive : Nat
  sum : Nat
  count : Nat
deriving DecidableEq, Repr

inductive CalOutcome where
  | ok | failed | aborted
deriving DecidableEq, Repr

/-- Reasons of a FAILED or ABORTED outcome, in the order of R63. -/
inductive CalReason where
  | noSamples | zeroHigh | spanLow | spanRange | command | loadCellBad | linkLost | emergencyStop
deriving DecidableEq, Repr

/-- Calibration result (R63). -/
structure CalResult where
  kind : StageKind
  outcome : CalOutcome
  reason : Option CalReason
  count : Option Nat
  mean : Option Nat
  newValue : Option Nat
deriving DecidableEq, Repr

/-- Running state of a channel (R41). Its hold and fault conditions are its states HOLD and FAULT (R43). `awaitsPlan`: the
channel has entered DOSING since the last plan-cycle hand-over, and the planner takes notice of it at the next (R29, R38, R44,
R46; log entry 44). -/
structure Chan where
  state : ChanState
  awaitsPlan : Bool
  r : Nat
  m : Nat
  trim : Int
  u : Nat
  gramResidue : Nat
  kjResidue : Nat
  locked : Bool
  lockLost : Bool
  cause : Option FaultCause
  holdTimer : Timer
  inTol : Nat
  devCount : Nat
  devTrip : Nat
  stallCount : Nat
  reverseCount : Nat
  devCond : Bool
  tareConfirmed : Bool
  stage : Option Stage
  result : Option CalResult
deriving DecidableEq, Repr

/-! ## Burner Sequencers (R66, R79) -/

inductive BurnState where
  | off | purge | ignition | proven | firing | tripped
deriving DecidableEq, Repr

/-- A trip cause, in the order of R79; ALARM_POINT names its point. -/
inductive Cause where
  | ignitionFailed | flameLost
  | alarmPoint (p : Point)
  | emergencyStop | mainLost | inletCold
deriving DecidableEq, Repr

/-- First-out record (R79). -/
structure FirstOut where
  cause : Cause
  tripFrom : BurnState
  clock : Option Clock
  later : Nat
deriving DecidableEq, Repr

/-- Burner record (R66). Its two outputs follow its state (R68). -/
structure Burn where
  state : BurnState
  purgeTimer : Timer
  trialTimer : Timer
  stabTimer : Timer
  proof : Nat
  failure : Nat
  firstOut : Option FirstOut
deriving DecidableEq, Repr

/-! ## Cooler Unit (R86, R99, R103) -/

inductive GrateState where
  | stopped | running | single | stalled
deriving DecidableEq, Repr

inductive Phase where
  | forward | deadA | ret | rest
deriving DecidableEq, Repr

/-- A stroke's timing in ms (R89). -/
structure Timing where
  forward : Nat
  ret : Nat
  dead : Nat
  period : Nat
deriving DecidableEq, Repr

/-- Section record (R86). The effective rate is computed from the active period, the stall condition is the state
STALLED, and the return guard holds the ms since the return valve closed (R90). -/
structure GrateRec where
  state : GrateState
  runOut : Bool
  phase : Option Phase
  phaseTimer : Timer
  guard : Option Nat
  active : Timing
  staged : Option Timing
  rate : Nat
  confirmed : Bool
  miss : Nat
  strokePressure : Option Int
  strokesLow : Nat
  strokesHigh : Nat
deriving DecidableEq, Repr

/-- Fan record, its settings apart (R99). `table` is the characterisation table in use: the setting as the last plan cycle
found it, since a written table is used from the next plan cycle (log entry 49). -/
structure FanRec where
  on : Bool
  target : Nat
  effTarget : Nat
  trim : Int
  damper : Nat
  failCount : Nat
  failCond : Bool
  table : Vector Nat 9
deriving DecidableEq, Repr

/-- The Cooler Unit; the overload condition of R103 is `overload`. `window` is G1's bed-pressure window, oldest first (R97). -/
structure Cooler where
  grates : Vector GrateRec 3
  window : List Int
  fans : Vector FanRec 8
  overload : Bool
  pressureCount : Nat
  pressureCond : Bool
  clearCount : Option Nat
  cap : Nat
deriving DecidableEq, Repr

/-! ## Alarm Table (R110, R122, R125) -/

inductive PointState where
  | normal | activeUnack | activeAck | clearedUnack | shelved | disabled
deriving DecidableEq, Repr

/-- Point record, its settings and its placement apart (R110). -/
structure PointRec where
  state : PointState
  cond : Bool
  shelve : Option Nat
  count : Nat
  last : Option Clock
deriving DecidableEq, Repr

/-- The Alarm Table: the list top first, the queue head first. -/
structure AlarmTable where
  points : Vector PointRec 96
  list : List Point
  queue : List Point
  silenced : Bool
deriving DecidableEq, Repr

/-! ## Shift Totaliser (R133, R137, R142, R144) -/

structure ChanTotal where
  mark : Bool := false
  grams : Nat := 0
  kj : Nat := 0
  dosing : Nat := 0
  deviations : Nat := 0
deriving DecidableEq, Repr

structure BurnTotal where
  kj : Nat := 0
  firing : Nat := 0
  trips : Nat := 0
  shortfall : Nat := 0
  surplus : Nat := 0
deriving DecidableEq, Repr

/-- Strokes of a section: a 16-bit low part under a 32-bit high part (R137). -/
structure Strokes where
  low : Nat := 0
  high : Nat := 0
deriving DecidableEq, Repr

/-- The running totals (R137). -/
structure Totals where
  chans : Vector ChanTotal 6 := Vector.replicate 6 {}
  burns : PerBurner BurnTotal := ⟨{}, {}⟩
  strokes : Vector Strokes 3 := Vector.replicate 3 {}
  clinker : Nat := 0
  overload : Nat := 0
  prio : Vector Nat 4 := Vector.replicate 4 0
  suppressed : Nat := 0
  maxWaiting : Nat := 0
  forced : Nat := 0
  fallback : Nat := 0
  standby : Nat := 0
deriving DecidableEq, Repr

/-- Why a record was composed (R142, R177). -/
inductive CloseReason where
  | boundary | command | running
deriving DecidableEq, Repr

/-- A closed report (R139), or the snapshot of the running shift (R144). -/
structure Report where
  seq : Nat
  reason : CloseReason
  startClock : Clock
  endClock : Clock
  duration : Nat
  totals : Totals
deriving DecidableEq, Repr

/-- Forms of a record (R144). -/
inductive Form where
  | full | delta | compare
deriving DecidableEq, Repr

/-- The open transfer (R144); its record's length and part count follow from `record`. -/
structure Transfer where
  closed : Bool
  seq : Nat
  form : Form
  fallback : Bool
  older : Option Nat
  record : List Byte
deriving DecidableEq, Repr

/-- The Shift Totaliser; the ring is oldest first (R141). -/
structure Shift where
  seconds : Nat
  day : Nat
  isSet : Bool
  shiftSeconds : Nat
  secondTimer : Timer
  startClock : Clock
  totals : Totals
  ring : List Report
  nextSeq : Nat
  transfer : Option Transfer
  unopened : Bool
deriving DecidableEq, Repr

/-! ## Floor Supervisor (R149) -/

inductive FloorMode where
  | normal | fallback | standby | settle
deriving DecidableEq, Repr

inductive FallbackStage where
  | frozen | lowered
deriving DecidableEq, Repr

/-- Floor record, its settings apart (R149). -/
structure Floor where
  mode : FloorMode
  supervision : Timer
  linkLost : Bool
  stage : Option FallbackStage
  grace : Timer
  settle : Timer
deriving DecidableEq, Repr

/-! ## Floor Link Controller (R160 to R168) -/

/-- Reply statuses, in the order of R165 and of their codes (R176). -/
inductive Status where
  | done | clamped | notEntered | busy | refused | unknownKind | badLength | range | gone | noTransfer
deriving DecidableEq, Repr

/-- Refusal reasons, in the order of their codes (R176). -/
inductive Reason where
  | notAssigned | unsettled | notOut | burnerActive | causePresent | noTare | tripPointInhibited | standby
  | emergencyStop | mainNotFiring | inletCold | flamePresent | unacknowledged | tripped | stalled
  | crusherStopped | tripPoint | disabled | notExternal
deriving DecidableEq, Repr

/-- The attention summary (R166). -/
structure Summary where
  listLength : Nat
  waiting : Nat
  horn : Bool
  mainTripped : Bool
  calcinerTripped : Bool
  mode : FloorMode
  unopened : Bool
  causeUnread : Bool
  overrun : Bool
deriving DecidableEq, Repr

/-- The payload of a reply (R165): its head and the bytes that follow it. -/
structure Answered where
  status : Status
  reason : Option Reason
  summary : Summary
  data : List Byte
deriving DecidableEq, Repr

/-- A reply as the transmitter holds it: the sequence and the kind of its request with what it carries (R165). -/
structure Reply where
  seq : Byte
  kind : Byte
  body : Answered
deriving DecidableEq, Repr

/-- The assembly machine's state (R160). -/
inductive Assembly where
  | hunt | length | sequence | kind | payload | crcHigh | crcLow
deriving DecidableEq, Repr

/-- The six link counters, in the order of R168. -/
structure LinkCounters where
  crc : Nat := 0
  gap : Nat := 0
  length : Nat := 0
  framing : Nat := 0
  overruns : Nat := 0
  breaks : Nat := 0
deriving DecidableEq, Repr

/-- The Floor Link Controller: the frame in assembly, the pending reply, the reply in transmission, the counters.
`payload` holds the payload bytes so far, first byte first. `broken`: the receive line is in a break (R167). -/
structure Link where
  asm : Assembly
  length : Nat
  seq : Byte
  kind : Byte
  payload : List Byte
  crcHigh : Byte
  gapTimer : Timer
  waiting : Option Reply
  sending : Option Reply
  overrun : Bool
  counters : LinkCounters
  broken : Bool
deriving DecidableEq, Repr

/-! ## Settings Store (R173 to R175) -/

inductive SaveOutcome where
  | nothing | ok | failed
deriving DecidableEq, Repr

/-- The state of the stored image, in the order of R175's table. -/
inductive ImageState where
  | blank | invalid | valid
deriving DecidableEq, Repr

/-- Causes of a full reset, in the order of R174. -/
inductive ResetCause where
  | noCause | powerOn | supplyDip | resetPin | restart
deriving DecidableEq, Repr

/-- The Settings Store. `image` holds the bytes of the flash's image area from its start; every byte of the area after
them is erased. `job` is the copy of the live set that a save in flight writes. -/
structure Store where
  live : Settings
  image : List Byte
  marker : Bool
  job : Option Settings
  lastSave : SaveOutcome
  imageState : ImageState
  cause : ResetCause
  duringSave : Bool
  causeUnread : Bool
deriving DecidableEq, Repr

/-! ## The part -/

/-- Where the part stands between full resets (R174, R175): the reset is held, the image load is in progress, or the
blocks run. -/
inductive RunPhase where
  | held | loading | running
deriving DecidableEq, Repr

/-! ## The records at start-up -/

/-- R20, with the value at scale low. -/
def startAnalog (x : InputSet) : AnalogRec :=
  { raw := none, lastGood := 0, value := x.scaleLow, quality := .unsettled, judged := none, lowCond := false,
    highCond := false, force := none }

/-- R20. The observed pair is that of the pins, which no reset moves. -/
def startPulse (levelA levelB : Bool) : PulseRec :=
  { levelA := levelA, levelB := levelB, count := 0, lastTaken := 0, errors := 0, force := none }

/-- R20. -/
def startDiscrete (pin : Bool) : DiscreteRec := { pin := pin, debounced := pin, timer := none }

/-- R39. -/
def startDemand : Demand :=
  { hReq := 0, hApp := 0, shortfall := 0, surplus := 0, shortfallCount := 0, shortfallCond := false }

/-- R39. No plan cycle has read a fuel parameter yet (DESIGN CHOICE, log entry 44). -/
def startPlanner : Planner :=
  { demand := ⟨startDemand, startDemand⟩, hCap := 250000, entries := Vector.replicate 6 emptyEntry,
    excesses := Vector.replicate 6 0, fuels := Vector.ofFn fun c => ⟨c, 0, 0, 0, 0⟩, planTimer := some 1000 }

/-- R65. -/
def startChan (tareConfirmed : Bool) : Chan :=
  { state := .out, awaitsPlan := false, r := 0, m := 0, trim := 0, u := 0, gramResidue := 0, kjResidue := 0, locked := false,
    lockLost := false, cause := none, holdTimer := none, inTol := 0, devCount := 0, devTrip := 0, stallCount := 0,
    reverseCount := 0, devCond := false, tareConfirmed := tareConfirmed, stage := none, result := none }

/-- R85. -/
def startBurn : Burn :=
  { state := .off, purgeTimer := none, trialTimer := none, stabTimer := none, proof := 0, failure := 0,
    firstOut := none }

/-- R108, with the active timing that R89 computes from the manual rate and the times. -/
def startGrate (rate : Nat) (active : Timing) : GrateRec :=
  { state := .stopped, runOut := false, phase := none, phaseTimer := none, guard := some 0, active := active,
    staged := none, rate := rate, confirmed := false, miss := 0, strokePressure := none, strokesLow := 0,
    strokesHigh := 0 }

/-- R108. -/
def startFan (set : FanSet) : FanRec :=
  { on := false, target := 0, effTarget := 0, trim := 0, damper := 0, failCount := 0, failCond := false,
    table := set.table }

/-- R108, around the three sections and the eight fans. -/
def startCooler (grates : Vector GrateRec 3) (fans : Vector FanRec 8) : Cooler :=
  { grates := grates, window := [], fans := fans, overload := false, pressureCount := 0,
    pressureCond := false, clearCount := none, cap := 250000 }

/-- R132. -/
def startPoint (x : PointSet) : PointRec :=
  { state := if x.start = .disabled then .disabled else .normal, cond := false, shelve := none, count := 0,
    last := none }

/-- R132. -/
def startAlarm (set : Settings) : AlarmTable :=
  { points := Vector.ofFn fun p => startPoint set.points[p], list := [], queue := [], silenced := false }

/-- R148. -/
def startShift : Shift :=
  { seconds := 0, day := 0, isSet := false, shiftSeconds := 0, secondTimer := some 1000,
    startClock := ⟨0, 0, false⟩, totals := {}, ring := [], nextSeq := 1, transfer := none, unopened := false }

/-- R158. -/
def startFloor (supervisionTime : Nat) : Floor :=
  { mode := .normal, supervision := some (supervisionTime * 1000), linkLost := false, stage := none, grace := none,
    settle := none }

/-- R170. `broken` is the line's own state, which no reset moves. -/
def startLink (broken : Bool) : Link :=
  { asm := .hunt, length := 0, seq := 0, kind := 0, payload := [], crcHigh := 0, gapTimer := none, waiting := none,
    sending := none, overrun := false, counters := {}, broken := broken }

/-- The pins before any command: no encoder signal high, D1 to D3 open, D4 closed and D5 high, the healthy levels of R1
(DESIGN CHOICE, log entry 2). -/
def restPin (d : DiscreteIn) : Bool := decide (3 ≤ d.val)

/-- Point 83 as the report of a blank image leaves it (R113, R175): one activation at the UNSET clock. -/
def resetPoint83 : PointRec :=
  { state := .activeUnack, cond := true, shelve := none, count := 1, last := some ⟨0, 0, false⟩ }

end Sys2Proof.Machine
end

