-- ==== Sys2Proof/Machine/State.lean ====
section
/-! DEFINITION. The whole state of the MV3K as plain data: one record for each of the ten blocks, the part's own run
phase, the trip causes handed and not yet taken, the answer to the last request, the count of free values drawn, and
the queue of commands that wait. -/

namespace Sys2Proof.Machine

/-- No command of this block stops it: every row of the table has its effect in every state, so no constructor. -/
inductive Fault where
deriving DecidableEq, Repr

/-- Why a command is given no meaning. -/
inductive Refusal where
  /-- Raised by an arm of `exec` whose command has no meaning yet; safe, since nothing is claimed of it. No arm raises it. -/
  | notModelled (mnemonic : String)
deriving DecidableEq, Repr

/-- The state of the MV3K. -/
structure State where
  phase : RunPhase
  scan : Scanner
  planner : Planner
  chans : Vector Chan 6
  burns : PerBurner Burn
  cooler : Cooler
  alarm : AlarmTable
  shift : Shift
  floor : Floor
  link : Link
  store : Store
  /-- Trip causes handed to a burner and not yet taken by it (R76, R83, R116). -/
  handed : List (Burner × Cause)
  /-- What the owner answered to the last request taken (R163): the model's own field. -/
  answer : Option Answered
  /-- How many free values have been drawn: the model's own field. -/
  draws : Nat
  /-- The commands that wait, first in, first out: the model's own field. -/
  pending : List Instr
deriving DecidableEq, Repr

/-- The floor after start-up (section 10.5 of the spec): the first power-on with an erased flash has been loaded
(R175), so every item is at its default, the image is BLANK, and point 83 stands on the annunciation list, counted as
one activation of its priority 3. -/
def State.reset : State :=
  { phase := .running
    scan := { analog := Vector.ofFn fun i => startAnalog (defaultInput i)
              pulse := Vector.replicate 6 (startPulse false false)
              discrete := Vector.ofFn fun d => startDiscrete (restPin d) }
    planner := startPlanner
    chans := Vector.replicate 6 (startChan false)
    burns := ⟨startBurn, startBurn⟩
    cooler := startCooler (Vector.replicate 3 (startGrate 100 ⟨2000, 2000, 250, 6000⟩)) (Vector.replicate 8 (startFan {}))
    alarm := { points := upd (startAlarm defaultSettings).points 82 fun _ => resetPoint83
               list := [82], queue := [], silenced := false }
    shift := { startShift with totals := { prio := #v[0, 0, 1, 0] } }
    floor := startFloor 5
    link := startLink false
    store := { live := defaultSettings, image := [], marker := false, job := none, lastSave := .nothing,
               imageState := .blank, cause := .powerOn, duringSave := false, causeUnread := true }
    handed := []
    answer := none
    draws := 0
    pending := [] }

end Sys2Proof.Machine
end

