-- ==== Sys2Proof/Machine/Ops.lean ====
section
/-! DEFINITION. What every block's operations are built of: arithmetic as the spec's conventions give it, one update for
each record of the state, and the guards of the part's run phase. -/

namespace Sys2Proof.Machine

/-! ## Arithmetic -/

/-- A count that stops at `top`. -/
def satInc (top n : Nat) : Nat := min (n + 1) top

/-- A sum that stops at `top` (R137). -/
def satAdd (top a b : Nat) : Nat := min (a + b) top

/-- The value clamped to a range, its low end first (00_scope, Arithmetic). -/
def clampInt (lo hi v : Int) : Int := if v < lo then lo else if hi < v then hi else v

/-- The value clamped to a range of naturals. -/
def clampNat (lo hi n : Nat) : Nat := if n < lo then lo else if hi < n then hi else n

/-- Division truncated toward zero, where a rule says so. -/
def truncDiv (a b : Int) : Int := Int.tdiv a b

def top16 : Nat := 65535
def top32 : Nat := 4294967295
def top64 : Nat := 18446744073709551615

/-! ## One update for each record -/

def State.onScan (f : Scanner → Scanner) (s : State) : State := { s with scan := f s.scan }
def State.onPlanner (f : Planner → Planner) (s : State) : State := { s with planner := f s.planner }
def State.onChan (c : Channel) (f : Chan → Chan) (s : State) : State := { s with chans := upd s.chans c f }
def State.onBurn (b : Burner) (f : Burn → Burn) (s : State) : State := { s with burns := s.burns.upd b f }
def State.onCooler (f : Cooler → Cooler) (s : State) : State := { s with cooler := f s.cooler }
def State.onAlarm (f : AlarmTable → AlarmTable) (s : State) : State := { s with alarm := f s.alarm }
def State.onShift (f : Shift → Shift) (s : State) : State := { s with shift := f s.shift }
def State.onFloor (f : Floor → Floor) (s : State) : State := { s with floor := f s.floor }
def State.onLink (f : Link → Link) (s : State) : State := { s with link := f s.link }
def State.onStore (f : Store → Store) (s : State) : State := { s with store := f s.store }
def State.onHanded (f : List (Burner × Cause) → List (Burner × Cause)) (s : State) : State :=
  { s with handed := f s.handed }

/-- One record of a vector inside a block. -/
def State.onAnalog (i : AnalogIn) (f : AnalogRec → AnalogRec) (s : State) : State :=
  s.onScan fun x => { x with analog := upd x.analog i f }
def State.onPulse (e : PulseIn) (f : PulseRec → PulseRec) (s : State) : State :=
  s.onScan fun x => { x with pulse := upd x.pulse e f }
def State.onDiscrete (d : DiscreteIn) (f : DiscreteRec → DiscreteRec) (s : State) : State :=
  s.onScan fun x => { x with discrete := upd x.discrete d f }
def State.onDemand (b : Burner) (f : Demand → Demand) (s : State) : State :=
  s.onPlanner fun x => { x with demand := x.demand.upd b f }
def State.onEntry (c : Channel) (f : PlanEntry → PlanEntry) (s : State) : State :=
  s.onPlanner fun x => { x with entries := upd x.entries c f }
def State.onGrate (g : Grate) (f : GrateRec → GrateRec) (s : State) : State :=
  s.onCooler fun x => { x with grates := upd x.grates g f }
def State.onFan (n : Fan) (f : FanRec → FanRec) (s : State) : State :=
  s.onCooler fun x => { x with fans := upd x.fans n f }
def State.onPoint (p : Point) (f : PointRec → PointRec) (s : State) : State :=
  s.onAlarm fun x => { x with points := upd x.points p f }
def State.onTotals (f : Totals → Totals) (s : State) : State :=
  s.onShift fun x => { x with totals := f x.totals }
def State.onLive (f : Settings → Settings) (s : State) : State :=
  s.onStore fun x => { x with live := f x.live }

/-- The live settings set (R171). -/
def State.live (s : State) : Settings := s.store.live

/-- `f` done for each entry of `l`, in its order. -/
def forEach {α : Type} (l : List α) (f : α → State → State) (s : State) : State :=
  l.foldl (fun t a => f a t) s

/-- A free value has been drawn. -/
def State.drawn (s : State) : State := { s with draws := s.draws + 1 }

/-! ## The run phase -/

/-- An event of a block: taken only while the blocks run. In a held reset and during the image load every block but the
link is stopped (R20, R174). -/
def whenRunning (f : State → State) (s : State) : State := if s.phase = .running then f s else s

/-- An event of the Floor Link Controller, which starts when the reset event ends (R170). -/
def whenLinked (f : State → State) (s : State) : State := if s.phase = .held then s else f s

/-- The level of D4: closed is healthy (R1, R13). -/
def stopLoopClosed (s : State) : Bool := s.scan.discrete[3].debounced
/-- The level of D5: high is running (R1, R14). -/
def crusherRuns (s : State) : Bool := s.scan.discrete[4].debounced

/-- Is the channel assigned to the burner (R40)? -/
def feeds (s : State) (c : Channel) (b : Burner) : Bool :=
  match b with
  | .main => decide (s.live.chans[c].assign = .main)
  | .calciner => decide (s.live.chans[c].assign = .calciner)

/-- The burner a channel is assigned to. -/
def burnerOf (s : State) (c : Channel) : Option Burner :=
  match s.live.chans[c].assign with
  | .unassigned => none
  | .main => some .main
  | .calciner => some .calciner

/-- Is the burner FIRING? -/
def fires (s : State) (b : Burner) : Bool := decide ((s.burns.get b).state = .firing)

/-- Is the channel's burner FIRING? -/
def burnerFires (s : State) (c : Channel) : Bool :=
  match burnerOf s c with
  | none => false
  | some b => fires s b

/-- The number of a point, as the spec writes it: 1 to 96. -/
def pointNo (p : Point) : Nat := p.val + 1

/-- The point numbered `n`, for a number known to lie in 1 to 96. -/
def pt (n : Nat) (h : 1 ≤ n ∧ n ≤ 96 := by decide) : Point := ⟨n - 1, by omega⟩

/-- Point `base + c` of a channel: 45 + n − 1 deviation, 51 + n − 1 fault, 57 + n − 1 hold (R109). -/
def deviationPoint (c : Channel) : Point := ⟨44 + c.val, by omega⟩
def faultPoint (c : Channel) : Point := ⟨50 + c.val, by omega⟩
def holdPoint (c : Channel) : Point := ⟨56 + c.val, by omega⟩
/-- Points 2n − 1 and 2n of input An (R8). -/
def lowPoint (i : AnalogIn) : Point := ⟨2 * i.val, by omega⟩
def highPoint (i : AnalogIn) : Point := ⟨2 * i.val + 1, by omega⟩
/-- Point 67, 68 or 69 (R86). -/
def stallPoint (g : Grate) : Point := ⟨66 + g.val, by omega⟩
/-- Point 70 + n (R99). -/
def fanPoint (f : Fan) : Point := ⟨70 + f.val, by omega⟩
/-- Point 63 or 64 (R78). -/
def tripPointOf : Burner → Point
  | .main => pt 63
  | .calciner => pt 64
/-- Point 65 or 66 (R35). -/
def shortfallPoint : Burner → Point
  | .main => pt 65
  | .calciner => pt 66

end Sys2Proof.Machine
end

