-- ==== Sys2Proof/Machine/Totals.lean ====
section
/-! DEFINITION. The increments of the running totals (R137, R138). Each total stops at the top of its width. -/

namespace Sys2Proof.Machine

/-- The shift clock as it stands (R133). -/
def shiftClock (s : State) : Clock := ⟨s.shift.seconds, s.shift.day, s.shift.isSet⟩

/-- The in-service mark (R52, R138). -/
def markInService (c : Channel) (s : State) : State :=
  s.onTotals fun t => { t with chans := upd t.chans c fun x => { x with mark := true } }

/-- Grams and kJ dosed, the kJ for the channel's burner too (R54). -/
def addDosed (c : Channel) (b : Option Burner) (grams kj : Nat) (s : State) : State :=
  let s := s.onTotals fun t =>
    { t with chans := upd t.chans c fun x => { x with grams := satAdd top64 x.grams grams, kj := satAdd top64 x.kj kj } }
  match b with
  | none => s
  | some b => s.onTotals fun t => { t with burns := t.burns.upd b fun x => { x with kj := satAdd top64 x.kj kj } }

/-- One DOSING second (R54). -/
def addDosingSecond (c : Channel) (s : State) : State :=
  s.onTotals fun t => { t with chans := upd t.chans c fun x => { x with dosing := satInc top32 x.dosing } }

/-- One deviation activation (R57). -/
def addDeviation (c : Channel) (s : State) : State :=
  s.onTotals fun t => { t with chans := upd t.chans c fun x => { x with deviations := satInc top32 x.deviations } }

/-- One firing second (R74). -/
def addFiringSecond (b : Burner) (s : State) : State :=
  s.onTotals fun t => { t with burns := t.burns.upd b fun x => { x with firing := satInc top32 x.firing } }

/-- One trip (R78). -/
def addTrip (b : Burner) (s : State) : State :=
  s.onTotals fun t => { t with burns := t.burns.upd b fun x => { x with trips := satInc top32 x.trips } }

/-- One shortfall second (R36). -/
def addShortfallSecond (b : Burner) (s : State) : State :=
  s.onTotals fun t => { t with burns := t.burns.upd b fun x => { x with shortfall := satInc top32 x.shortfall } }

/-- Surplus heat in kJ (R36). -/
def addSurplus (b : Burner) (kj : Nat) (s : State) : State :=
  s.onTotals fun t => { t with burns := t.burns.upd b fun x => { x with surplus := satAdd top64 x.surplus kj } }

/-- One stroke more on a 48-bit count that stops at its top (R137). -/
def nextStrokes (x : Strokes) : Strokes :=
  if x.low < top16 then { x with low := x.low + 1 }
  else if x.high < top32 then { low := 0, high := x.high + 1 } else x

/-- One stroke of a section (R92). -/
def addStroke (g : Grate) (s : State) : State := s.onTotals fun t => { t with strokes := upd t.strokes g nextStrokes }

/-- Clinker in kg (R92). -/
def addClinker (kg : Nat) (s : State) : State :=
  s.onTotals fun t => { t with clinker := satAdd top64 t.clinker kg }

/-- One overload second (R106). -/
def addOverloadSecond (s : State) : State := s.onTotals fun t => { t with overload := satInc top32 t.overload }

/-- One activation of a priority (R114). -/
def addActivation (priority : Nat) (s : State) : State :=
  match instNo 4 priority with
  | none => s
  | some k => s.onTotals fun t => { t with prio := upd t.prio k (satInc top32) }

/-- One shelved or disabled transition (R114). -/
def addSuppressed (s : State) : State := s.onTotals fun t => { t with suppressed := satInc top32 t.suppressed }

/-- A waiting length, of which the largest is kept (R137). -/
def reportWaiting (n : Nat) (s : State) : State := s.onTotals fun t => { t with maxWaiting := max t.maxWaiting n }

/-- One forced-input second (R15). -/
def addForcedSecond (s : State) : State := s.onTotals fun t => { t with forced := satInc top32 t.forced }

/-- One fallback second (R157). -/
def addFallbackSecond (s : State) : State := s.onTotals fun t => { t with fallback := satInc top32 t.fallback }

/-- One standby second (R157). -/
def addStandbySecond (s : State) : State := s.onTotals fun t => { t with standby := satInc top32 t.standby }

end Sys2Proof.Machine
end

