-- ==== Sys2Proof/Machine/Alarm.lean ====
section
/-! DEFINITION. The Alarm Table: the state machine of a point, placement, the horn, trips and the questions of the other
blocks (R109 to R131). -/

namespace Sys2Proof.Machine

/-- The priority of a point as it stands (R111). -/
def priorityOf (s : State) (p : Point) : Nat := s.live.points[p].priority

/-- The trip target of a point: its setting, or the fixed one (R109). -/
def tripTarget (s : State) (p : Point) : TripTarget :=
  if targetIsSetting p then s.live.points[p].target else fixedTarget p

/-- Does a trip target include a burner (R117)? -/
def TripTarget.includes (t : TripTarget) (b : Burner) : Bool :=
  match t, b with
  | .both, _ => true
  | .main, .main => true
  | .calciner, .calciner => true
  | _, _ => false

/-- Does the priority of the point sound the horn (R125)? -/
def isUrgent (s : State) (p : Point) : Bool := decide (priorityOf s p ≤ 2)

/-- The horn output (R125). -/
def hornSounds (s : State) : Bool := s.alarm.list.any (isUrgent s) && !s.alarm.silenced

/-- Is the point in ACTIVE_UNACK or CLEARED_UNACK? -/
def isUnacked (s : State) (p : Point) : Bool :=
  decide (s.alarm.points[p].state = .activeUnack ∨ s.alarm.points[p].state = .clearedUnack)

/-! ## Placement -/

/-- A placement on the list: the point goes on top, and one of priority 1 or 2 clears the silenced flag (R123, R125). -/
def placeOnList (p : Point) (s : State) : State :=
  s.onAlarm fun t => { t with list := p :: t.list, silenced := t.silenced && !isUrgent s p }

/-- Placement of a newly active point (R123). -/
def place (p : Point) (s : State) : State :=
  if s.alarm.list.length < 8 then placeOnList p s
  else
    let s := s.onAlarm fun t => { t with queue := t.queue ++ [p] }
    reportWaiting s.alarm.queue.length s

/-- Has the point a place on the list or in the queue (R110)? -/
def isPlaced (s : State) (p : Point) : Bool := s.alarm.list.contains p || s.alarm.queue.contains p

/-- A point leaves its placement; when it was listed, the head of the queue is promoted (R124). -/
def leavePlacement (p : Point) (s : State) : State :=
  if s.alarm.list.contains p then
    let s := s.onAlarm fun t => { t with list := t.list.erase p }
    match s.alarm.queue with
    | [] => s
    | q :: rest => placeOnList q (s.onAlarm fun t => { t with queue := rest })
  else s.onAlarm fun t => { t with queue := t.queue.erase p }

/-! ## The state machine -/

/-- An activation (R114), with the placement of R123 where the point has none. -/
def activate (p : Point) (s : State) : State :=
  let placed := isPlaced s p
  let s := s.onPoint p fun x =>
    { x with state := .activeUnack, count := satInc top16 x.count, last := some (shiftClock s) }
  let s := addActivation (priorityOf s p) s
  if placed then s else place p s

/-- The trips of a point whose condition changes to present (R116): one cause for each burner of its target. -/
def handTrips (p : Point) (s : State) : State :=
  s.onHanded fun l => l ++ (bothBurners.filter (tripTarget s p).includes).map fun b => (b, .alarmPoint p)

/-- The state machine's answer to a condition that has just changed (R113, R114). -/
def conditionChanged (p : Point) (present : Bool) (s : State) : State :=
  match s.alarm.points[p].state, present with
  | .normal, true => activate p s
  | .activeUnack, false => s.onPoint p fun x => { x with state := .clearedUnack }
  | .activeAck, false => s.onPoint p fun x => { x with state := .normal }
  | .clearedUnack, true => activate p s
  | .shelved, true => addSuppressed s
  | .disabled, true => addSuppressed s
  | _, _ => s

/-- A condition report of an owner (R112): a report of the condition held changes nothing, a change is stored, acts on
the point in whatever state it stands, and to present hands the trips of R116. -/
def reportCond (p : Point) (present : Bool) (s : State) : State :=
  if s.alarm.points[p].cond = present then s
  else
    let s := s.onPoint p fun x => { x with cond := present }
    let s := conditionChanged p present s
    if present then handTrips p s else s

/-- An acknowledgement of a point (R113). -/
def ackPoint (p : Point) (s : State) : State :=
  match s.alarm.points[p].state with
  | .activeUnack => leavePlacement p (s.onPoint p fun x => { x with state := .activeAck })
  | .clearedUnack => leavePlacement p (s.onPoint p fun x => { x with state := .normal })
  | _ => s

/-- The state an acknowledgement leaves (R113). -/
def ackedState : PointState → PointState
  | .activeUnack => .activeAck
  | .clearedUnack => .normal
  | .normal => .normal
  | .activeAck => .activeAck
  | .shelved => .shelved
  | .disabled => .disabled

/-- Every unacknowledged point is acknowledged and nothing is placed (R128). -/
def ackAll (s : State) : State :=
  s.onAlarm fun t =>
    { t with points := t.points.map fun x => { x with state := ackedState x.state }, list := [], queue := [] }

/-- How many points ACK ALL acknowledges (R128). -/
def unackedCount (s : State) : Nat := ((List.finRange 96).filter (isUnacked s)).length

/-- A point leaves SHELVED or DISABLED by its condition (R119, R121). -/
def resumePoint (p : Point) (s : State) : State :=
  let s := s.onPoint p fun x => { x with state := .normal, shelve := none }
  if s.alarm.points[p].cond then activate p s else s

/-- The shelve of a point expires (R119). -/
def expireShelve (p : Point) (s : State) : State :=
  if s.alarm.points[p].state = .shelved then resumePoint p s else s

/-- An accepted shelve of `n` minutes (R118). -/
def shelvePoint (p : Point) (n : Nat) (s : State) : State :=
  let placed := isPlaced s p
  let s := s.onPoint p fun x => { x with state := .shelved, shelve := some n }
  if placed then leavePlacement p s else s

/-- An accepted disable (R120). -/
def disablePoint (p : Point) (s : State) : State :=
  let placed := isPlaced s p
  let s := s.onPoint p fun x => { x with state := .disabled, shelve := none }
  if placed then leavePlacement p s else s

/-- The minute event at one point: its shelve counts down, and expires at 0 (R119). -/
def minuteAt (p : Point) (s : State) : State :=
  if s.alarm.points[p].state = .shelved then
    let left := (s.alarm.points[p].shelve.getD 0) - 1
    if left = 0 then expireShelve p s else s.onPoint p fun x => { x with shelve := some left }
  else s

/-- A minute event of the shift clock, point by point (R119). -/
def minuteEvent (s : State) : State := forEach (List.finRange 96) minuteAt s

/-- The Alarm Table's part of a shift close (R131). -/
def closeAlarms (s : State) : State :=
  let s := s.onAlarm fun t => { t with points := t.points.map fun x => { x with count := 0 } }
  reportWaiting s.alarm.queue.length s

/-! ## The questions of R117 -/

/-- Is a point whose trip target includes the burner SHELVED or DISABLED? -/
def tripPointInhibited (s : State) (b : Burner) : Bool :=
  (List.finRange 96).any fun p => (tripTarget s p).includes b
    && decide (s.alarm.points[p].state = .shelved ∨ s.alarm.points[p].state = .disabled)

/-- Is the condition of a point whose trip target includes the burner present? -/
def tripCondPresent (s : State) (b : Burner) : Bool :=
  (List.finRange 96).any fun p => (tripTarget s p).includes b && s.alarm.points[p].cond

/-- Is a point of priority 1 unacknowledged? -/
def urgentUnacked (s : State) : Bool :=
  (List.finRange 96).any fun p => decide (priorityOf s p = 1) && isUnacked s p

end Sys2Proof.Machine
end

