-- ==== Sys2Proof/Machine/Operands.lean ====
section
/-! DEFINITION. The operand forms of payloads (R176): numbers high byte first, signed in two's complement, absent ones,
and the code of each enumerated field. -/

namespace Sys2Proof.Machine

/-- A number in `w` bytes, high byte first. -/
def be (w n : Nat) : List Byte :=
  match w with
  | 0 => []
  | k + 1 => BitVec.ofNat 8 (n / 256 ^ k) :: be k n

/-- A signed number in `w` bytes, two's complement. -/
def beS (w : Nat) (v : Int) : List Byte := be w (v % (256 ^ w : Nat)).toNat

/-- All ones in `w` bytes: an absent number. -/
def ones (w : Nat) : List Byte := List.replicate w 255#8

/-- Zeros in `w` bytes: an absent part. -/
def zeros (w : Nat) : List Byte := List.replicate w 0#8

/-- A number or all ones where it is absent. -/
def beOr1 (w : Nat) : Option Nat → List Byte
  | none => ones w
  | some n => be w n

/-- A number or 0 where it is absent. -/
def beOr0 (w : Nat) : Option Nat → List Byte
  | none => zeros w
  | some n => be w n

/-- The number that bytes spell, high byte first. -/
def ofBe (l : List Byte) : Nat := l.foldl (fun a b => a * 256 + b.toNat) 0

/-- The signed number that bytes spell. -/
def ofBeS (l : List Byte) : Int :=
  let n := ofBe l
  if 2 * n < 256 ^ l.length then n else (n : Int) - (256 ^ l.length : Nat)

/-- The code of a mark that is there, 1, or absent, 0 (R176: 0 means absent), and of a level, 1 for high or closed; the
position of a value in a list that names the other one first (log entry 20). -/
def markCode (b : Bool) : Nat := if b then 1 else 0

/-- The code of a two-valued field whose owner's list names this value first: on, off (R99); set, clear (R144, R166);
sounding, off (R166). By its place in that list, the first is 0 (R176). -/
def firstCode (b : Bool) : Nat := if b then 0 else 1

/-- A two-valued option of a request by its place in its owner's list, on or off (R102), set or clear (R64, R169): is it the
first? None is neither of the two codes (R176). -/
def firstOf (k : Nat) : Option Bool := if k = 0 then some true else if k = 1 then some false else none

def burnerCode : Burner → Nat
  | .main => 1 | .calciner => 2
def Quality.code : Quality → Nat
  | .good => 0 | .bad => 1 | .unsettled => 2 | .forced => 3
def Role.code : Role → Nat
  | .noRole => 0 | .zeroShare => 1 | .split => 2 | .atMax => 3 | .atMin => 4 | .held => 5
def ChanState.code : ChanState → Nat
  | .out => 0 | .idle => 1 | .dosing => 2 | .hold => 3 | .fault => 4 | .calib => 5
/-- May be absent, so coded from 1 (R176). -/
def FaultCause.code : FaultCause → Nat
  | .holdExpired => 1 | .deviation => 2 | .encoder => 3 | .reverse => 4
def StageKind.code : StageKind → Nat
  | .zero => 0 | .span => 1
def CalOutcome.code : CalOutcome → Nat
  | .ok => 0 | .failed => 1 | .aborted => 2
/-- May be absent, so coded from 1 (R176). -/
def CalReason.code : CalReason → Nat
  | .noSamples => 1 | .zeroHigh => 2 | .spanLow => 3 | .spanRange => 4 | .command => 5 | .loadCellBad => 6
  | .linkLost => 7 | .emergencyStop => 8
def BurnState.code : BurnState → Nat
  | .off => 0 | .purge => 1 | .ignition => 2 | .proven => 3 | .firing => 4 | .tripped => 5
/-- The state tripped from, by the list of R79. The cause, coded from 1, is the code that marks an absent first-out record
(R176), so this field is coded from 0 (DESIGN CHOICE, log entry 50). -/
def BurnState.fromCode : BurnState → Nat
  | .purge => 0 | .ignition => 1 | .proven => 2 | .firing => 3 | .off => 0 | .tripped => 0
/-- May be absent, so coded from 1 (R176). -/
def Cause.code : Cause → Nat
  | .ignitionFailed => 1 | .flameLost => 2 | .alarmPoint _ => 3 | .emergencyStop => 4 | .mainLost => 5 | .inletCold => 6
/-- The point of a cause ALARM_POINT (R79). -/
def Cause.point : Cause → Option Nat
  | .alarmPoint p => some (pointNo p)
  | .ignitionFailed => none | .flameLost => none | .emergencyStop => none | .mainLost => none | .inletCold => none
def GrateState.code : GrateState → Nat
  | .stopped => 0 | .running => 1 | .single => 2 | .stalled => 3
/-- May be absent, so coded from 1 (R176). -/
def Phase.code : Phase → Nat
  | .forward => 1 | .deadA => 2 | .ret => 3 | .rest => 4
def PointState.code : PointState → Nat
  | .normal => 0 | .activeUnack => 1 | .activeAck => 2 | .clearedUnack => 3 | .shelved => 4 | .disabled => 5
def CloseReason.code : CloseReason → Nat
  | .boundary => 0 | .command => 1 | .running => 2
def Form.code : Form → Nat
  | .full => 0 | .delta => 1 | .compare => 2
def formOf (k : Nat) : Option Form :=
  if k = 0 then some .full else if k = 1 then some .delta else if k = 2 then some .compare else none
def FloorMode.code : FloorMode → Nat
  | .normal => 0 | .fallback => 1 | .standby => 2 | .settle => 3
/-- May be absent, so coded from 1 (R176). -/
def FallbackStage.code : FallbackStage → Nat
  | .frozen => 1 | .lowered => 2
def Status.code : Status → Nat
  | .done => 0 | .clamped => 1 | .notEntered => 2 | .busy => 3 | .refused => 4 | .unknownKind => 5 | .badLength => 6
  | .range => 7 | .gone => 8 | .noTransfer => 9
def Reason.code : Reason → Nat
  | .notAssigned => 1 | .unsettled => 2 | .notOut => 3 | .burnerActive => 4 | .causePresent => 5 | .noTare => 6
  | .tripPointInhibited => 7 | .standby => 8 | .emergencyStop => 9 | .mainNotFiring => 10 | .inletCold => 11
  | .flamePresent => 12 | .unacknowledged => 13 | .tripped => 14 | .stalled => 15 | .crusherStopped => 16
  | .tripPoint => 17 | .disabled => 18 | .notExternal => 19
def SaveOutcome.code : SaveOutcome → Nat
  | .nothing => 0 | .ok => 1 | .failed => 2
def ImageState.code : ImageState → Nat
  | .blank => 0 | .invalid => 1 | .valid => 2
def ResetCause.code : ResetCause → Nat
  | .noCause => 0 | .powerOn => 1 | .supplyDip => 2 | .resetPin => 3 | .restart => 4

/-- A clock in 7 bytes (R176). -/
def clockBytes (c : Clock) : List Byte := be 4 c.seconds ++ be 2 c.day ++ be 1 (markCode c.isSet)

/-- A clock that may be absent: flag 2, the rest zero (R176). -/
def clockOr : Option Clock → List Byte
  | none => zeros 6 ++ be 1 2
  | some c => clockBytes c

/-- A byte of single-bit marks, bit 0 first. -/
def bits (l : List Bool) : Nat := l.foldr (fun b n => markCode b + 2 * n) 0

/-- Remaining time in tenths of a second. -/
def tenths (t : Timer) : Option Nat := t.map (· / 100)

end Sys2Proof.Machine
end

