-- ==== Sys2Proof/Machine/Flags.lean ====
section
/-! DEFINITION. The attention summary (R166), the head of a reply (R176), and a request taken by its owner: what the
owner answers becomes the payload of the reply (R163, R165). -/

namespace Sys2Proof.Machine

/-- Is the burner TRIPPED? -/
def isTripped (s : State) (b : Burner) : Bool := decide ((s.burns.get b).state = .tripped)

/-- The attention summary, as its owners hold its items (R166). -/
def summaryOf (s : State) : Summary :=
  { listLength := s.alarm.list.length
    waiting := s.alarm.queue.length
    horn := hornSounds s
    mainTripped := isTripped s .main
    calcinerTripped := isTripped s .calciner
    mode := s.floor.mode
    unopened := s.shift.unopened
    causeUnread := s.store.causeUnread
    overrun := s.link.overrun }

/-- Byte 4 of the head (R176). -/
def Summary.flags (x : Summary) : Nat :=
  bits [x.horn, x.mainTripped, x.calcinerTripped, x.unopened, x.causeUnread, x.overrun]

/-- The payload of a reply: the 6-byte head and what follows it (R165, R176). -/
def Answered.bytes (x : Answered) : List Byte :=
  be 1 x.status.code ++ be 1 ((x.reason.map Reason.code).getD 0) ++ be 1 x.summary.listLength ++ be 1 x.summary.waiting
  ++ be 1 x.summary.flags ++ be 1 x.summary.mode.code ++ x.data

/-- What a request changes after its reply has been composed: nothing; the reset-cause record (R174); the link counters
(R169); LOCK_LOST and the calibration result of a channel (R64). -/
inductive After where
  | nothing | clearIdent | clearCounters
  | clearChannel (c : Channel)
deriving DecidableEq, Repr

/-- An owner's answer (R163): status, reason, the bytes of its reply payload, and what follows the composing. -/
structure Ans where
  status : Status
  reason : Option Reason := none
  data : List Byte := []
  after : After := .nothing
deriving DecidableEq, Repr

/-- What an owner does with a request. -/
abbrev Service := State → State × Ans

/-- DONE, with these bytes. -/
def done (data : List Byte) : Ans := { status := .done, data := data }
/-- CLAMPED, with these bytes. -/
def clampedWith (data : List Byte) : Ans := { status := .clamped, data := data }
/-- A status without payload. -/
def plain (st : Status) : Ans := { status := st }
/-- REFUSED for a reason. -/
def refusedFor (r : Reason) : Ans := { status := .refused, reason := some r }

/-- The reply payload composed in the state that the request has left (R163, R165). -/
def compose (s : State) (a : Ans) : Answered :=
  { status := a.status, reason := a.reason, summary := summaryOf s, data := a.data }

/-- What follows the composing of the reply. -/
def applyAfter (a : After) (s : State) : State :=
  match a with
  | .nothing => s
  | .clearIdent => s.onStore fun x => { x with cause := .noCause, duringSave := false, causeUnread := false }
  | .clearCounters => s.onLink fun x => { x with counters := {} }
  | .clearChannel c => s.onChan c fun x => { x with lockLost := false, result := none }

/-- The owner's answer recorded, and then what follows it. -/
def answered (r : State × Ans) : State :=
  applyAfter r.2.after { r.1 with answer := some (compose r.1 r.2) }

/-- A request is taken: passed to its owner while the blocks run, answered BUSY during the image load (R163, check 1), and
not received at all while the reset is held (R170). -/
def takeRequest (f : Service) (s : State) : State :=
  match s.phase with
  | .held => s
  | .loading => answered (s, plain .busy)
  | .running => answered (f s)

end Sys2Proof.Machine
end

