-- ==== Sys2Proof/Machine/Channels.lean ====
section
/-! DEFINITION. The Channel Dosing Units: states, plan-cycle work, drive law, supervision and calibration (R42 to R64). -/

namespace Sys2Proof.Machine

/-- A channel with its five counts at 0 (R46, R49). -/
def Chan.countsCleared (x : Chan) : Chan :=
  { x with inTol := 0, devCount := 0, devTrip := 0, stallCount := 0, reverseCount := 0 }

/-- A channel that loses LOCKED involuntarily (R47, R49, R56). -/
def Chan.lockDropped (x : Chan) : Chan := { x with locked := false, lockLost := x.lockLost || x.locked }

/-! ## Changes of state -/

/-- Entry to DOSING from a state other than HOLD (R46). The target stays 0 until the next plan-cycle hand-over (R44, R46). -/
def enterDosing (c : Channel) (s : State) : State :=
  s.onChan c fun x => { x.countsCleared with state := .dosing, awaitsPlan := true, r := 0, trim := 0, u := 0 }

/-- Entry to HOLD (R47). -/
def enterHold (c : Channel) (s : State) : State :=
  let s := s.onChan c fun x =>
    { x.lockDropped with state := .hold, holdTimer := some (s.live.chans[c].holdTime * 1000), inTol := 0 }
  reportCond (holdPoint c) true s

/-- Return from HOLD to DOSING (R47). The channel goes on at its held target until the next hand-over (R29, R47). -/
def returnFromHold (c : Channel) (s : State) : State :=
  let s := s.onChan c fun x => { x with state := .dosing, awaitsPlan := true, holdTimer := none }
  reportCond (holdPoint c) false s

/-- Entry to FAULT from DOSING or HOLD (R49). -/
def enterFault (c : Channel) (cause : FaultCause) (s : State) : State :=
  let old := s.chans[c]
  let s := s.onChan c fun x =>
    { x.lockDropped.countsCleared with
      state := .fault, u := 0, r := 0, trim := 0, cause := some cause, holdTimer := none, devCond := false }
  let s := reportCond (faultPoint c) true s
  let s := if old.devCond then reportCond (deviationPoint c) false s else s
  if old.state = .hold then reportCond (holdPoint c) false s else s

/-- A channel whose burner leaves FIRING goes from DOSING or HOLD to IDLE (R46). -/
def leaveToIdle (c : Channel) (s : State) : State :=
  let old := s.chans[c]
  if old.state = .dosing ∨ old.state = .hold then
    let s := s.onChan c fun x =>
      { x.countsCleared with
        state := .idle, u := 0, r := 0, trim := 0, locked := false, holdTimer := none, devCond := false }
    let s := if old.state = .hold then reportCond (holdPoint c) false s else s
    if old.devCond then reportCond (deviationPoint c) false s else s
  else s

/-- The channels of a burner that has entered FIRING: those in IDLE enter DOSING (R46). -/
def channelsFollowFiring (b : Burner) (s : State) : State :=
  forEach (List.finRange 6) (fun c t => if feeds t c b && decide (t.chans[c].state = .idle) then enterDosing c t else t) s

/-- The channels of a burner that has left FIRING (R46). -/
def channelsFollowStop (b : Burner) (s : State) : State :=
  forEach (List.finRange 6) (fun c t => if feeds t c b then leaveToIdle c t else t) s

/-- The channels at the entry of the floor to STANDBY: IDLE goes to OUT (R51). -/
def channelsToOut (s : State) : State :=
  forEach (List.finRange 6)
    (fun c t => if t.chans[c].state = .idle then t.onChan c fun x => { x with state := .out, u := 0 } else t) s

/-! ## Calibration -/

/-- A running stage is aborted (R62). -/
def abortStage (c : Channel) (reason : CalReason) (s : State) : State :=
  if s.chans[c].state = .calib then
    s.onChan c fun x =>
      { x with
        state := .out, u := 0, stage := none
        result := some { kind := (x.stage.map Stage.kind).getD .zero, outcome := .aborted, reason := some reason,
                         count := none, mean := none, newValue := none } }
  else s

/-- The stages of all channels are aborted (R13, R152). -/
def abortStages (reason : CalReason) (s : State) : State :=
  forEach (List.finRange 6) (fun c => abortStage c reason) s

/-- An arrival that is not BAD adds its sample to the running stage (R60). -/
def addSample (c : Channel) (sample : Nat) (s : State) : State :=
  s.onChan c fun x => { x with stage := x.stage.map fun g => { g with sum := g.sum + sample, count := g.count + 1 } }

/-- How a stage ends (R61): the outcome, the reason of a failure, and the new tare or span. -/
def judgeStage (g : Stage) (tare mean : Nat) : CalOutcome × Option CalReason × Option Nat :=
  if g.count = 0 then (.failed, some .noSamples, none)
  else
    match g.kind with
    | .zero => if 2048 < mean then (.failed, some .zeroHigh, none) else (.ok, none, some mean)
    | .span =>
      if mean ≤ tare then (.failed, some .spanLow, none)
      else
        let span := (g.testLoad.getD 0) * 4096 / (mean - tare)
        if 65535 < span then (.failed, some .spanRange, none) else (.ok, none, some span)

/-- The mean of a stage; the mean of no samples is a free value (R61, log entry 14). -/
def stageMean (s : State) (g : Stage) : Nat := if g.count = 0 then Config.meanOfNone s.draws else g.sum / g.count

/-- The completion of a stage (R61). -/
def completeStage (c : Channel) (g : Stage) (s : State) : State :=
  let mean := stageMean s g
  let (outcome, reason, value) := judgeStage g s.live.chans[c].tare mean
  let s := if g.count = 0 then s.drawn else s
  let s := s.onChan c fun x =>
    { x with
      state := .out, u := 0, stage := none
      result := some { kind := g.kind, outcome := outcome, reason := reason, count := some g.count, mean := some mean,
                       newValue := value } }
  match value with
  | none => s
  | some v =>
    match g.kind with
    | .zero =>
      (s.onLive fun l => l.put (.chan c .tare) v).onChan c fun x => { x with tareConfirmed := true }
    | .span => s.onLive fun l => l.put (.chan c .span) v

/-! ## The load cell handed (R7, R47, R60, R62) -/

/-- The channel takes its load cell as the record stands; `arrival` is false for a change of quality alone. -/
def handLoadCell (c : Channel) (arrival : Bool) (s : State) : State :=
  let cell := s.scan.analog[(⟨c.val, by omega⟩ : AnalogIn)]
  match s.chans[c].state with
  | .dosing => if cell.quality = .bad then enterHold c s else s
  | .hold => if cell.quality = .bad then s else returnFromHold c s
  | .calib =>
    if cell.quality = .bad then abortStage c .loadCellBad s
    else if arrival then addSample c cell.lastGood s else s
  | .out => s
  | .idle => s
  | .fault => s

/-! ## The plan-cycle work -/

/-- The count that a take returns (R11). -/
def takenCount (s : State) (e : PulseIn) : Int := (s.scan.pulse[e].force).getD s.scan.pulse[e].count

/-- The take: the count is read and set to 0 as one step (R11). -/
def takeCount (e : PulseIn) (s : State) : State :=
  s.onPulse e fun x => { x with count := 0, lastTaken := (x.force).getD x.count }

/-- Load per metre (R53). -/
def loadPerMetre (set : ChanSet) (sample : Nat) : Nat := (sample - set.tare) * set.span / 4096

/-- Grams dosed and the new gram residue (R53). -/
def gramsOf (set : ChanSet) (sample residue : Nat) (p : Int) : Nat × Nat :=
  if p ≤ 0 then (0, residue)
  else
    let q := loadPerMetre set sample * p.toNat + residue
    (q / set.ppm, q - set.ppm * (q / set.ppm))

/-- Measured rate (R53). -/
def rateOf (set : ChanSet) (sample : Nat) (p : Int) : Nat :=
  if p ≤ 0 then 0 else min 65535 (loadPerMetre set sample * p.toNat * 3600 / (set.ppm * 1000))

/-- Measurement and accounting in DOSING and HOLD (R53, R54). -/
def account (c : Channel) (p : Int) (s : State) : State :=
  let set := s.live.chans[c]
  let x := s.chans[c]
  let sample := s.scan.analog[(⟨c.val, by omega⟩ : AnalogIn)].lastGood
  let (grams, residue) := gramsOf set sample x.gramResidue p
  let heat := grams * set.cv + x.kjResidue
  let s := s.onChan c fun x =>
    { x with m := rateOf set sample p, gramResidue := residue, kjResidue := heat % 1000 }
  let s := addDosed c (burnerOf s c) grams (heat / 1000) s
  let s := if x.state = .dosing then addDosingSecond c s else s
  markInService c s

/-- The rate error e = r − m (R55, R56). -/
def rateError (x : Chan) : Int := (x.r : Int) - x.m

/-- The lock after a DOSING cycle (R56). -/
def Chan.lockUpdated (x : Chan) (tolerance : Nat) : Chan :=
  if (rateError x).natAbs ≤ tolerance then
    { x with inTol := satInc 10 x.inTol, locked := x.locked || decide (9 ≤ x.inTol) }
  else { x.lockDropped with inTol := 0 }

/-- The deviation condition after a DOSING cycle (R57). -/
def updateDeviation (c : Channel) (s : State) : State :=
  let x := s.chans[c]
  let set := s.live.chans[c]
  if set.tolerance < (rateError x).natAbs then
    let count := if x.devCount < set.devTime then x.devCount + 1 else x.devCount
    if set.devTime ≤ count ∧ x.devCond = false then
      let s := s.onChan c fun x => { x with devCount := count, devCond := true }
      addDeviation c (reportCond (deviationPoint c) true s)
    else s.onChan c fun x => { x with devCount := count }
  else
    let s := s.onChan c fun x => { x with devCount := 0, devCond := false }
    if x.devCond then reportCond (deviationPoint c) false s else s

/-- The three counts of R58 after a DOSING cycle; `u` in the record is still the last drive. -/
def Chan.countsUpdated (x : Chan) (set : ChanSet) (p : Int) : Chan :=
  { x with
    reverseCount := if p < 0 then x.reverseCount + 1 else 0
    stallCount := if 2000 ≤ x.u ∧ p = 0 then x.stallCount + 1 else 0
    devTrip := if 2 * set.tolerance < (rateError x).natAbs then x.devTrip + 1 else 0 }

/-- The fault that the counts stand for, the first of REVERSE, ENCODER and DEVIATION (R58). -/
def faultFound (x : Chan) (set : ChanSet) : Option FaultCause :=
  if 3 ≤ x.reverseCount then some .reverse
  else if 5 ≤ x.stallCount then some .encoder
  else if 2 * set.devTime ≤ x.devTrip then some .deviation
  else none

/-- Supervision in a DOSING cycle (R56, R57, R58). -/
def supervise (c : Channel) (p : Int) (s : State) : State :=
  let set := s.live.chans[c]
  let s := s.onChan c fun x => x.lockUpdated set.tolerance
  let s := updateDeviation c s
  let s := s.onChan c fun x => x.countsUpdated set p
  match faultFound s.chans[c] set with
  | none => s
  | some cause => enterFault c cause s

/-- The drive law (R55). -/
def Chan.driven (x : Chan) (set : ChanSet) : Chan :=
  if x.r = 0 then { x with u := 0 }
  else
    let e := rateError x
    let step := truncDiv (e * set.trimGain) 1000
    let held := (x.u = 10000 ∧ 0 < e) ∨ (x.u = 0 ∧ e < 0)
    let trim := if held then x.trim else clampInt (-(set.trimLimit : Int)) set.trimLimit (x.trim + step)
    { x with trim := trim, u := (clampInt 0 10000 (((x.r * 10000 / set.fullRate : Nat) : Int) + trim)).toNat }

/-- The plan-cycle work of a channel (R52): the target handed, the take, and the work of its state. -/
def cycleWork (c : Channel) (s : State) : State :=
  let s := s.onChan c fun x => { x with r := s.planner.entries[c].rate, awaitsPlan := false }
  let p := takenCount s c
  let s := takeCount c s
  match s.chans[c].state with
  | .out => s.onChan c fun x => { x with m := 0 }
  | .idle => markInService c (s.onChan c fun x => { x with m := 0 })
  | .fault => markInService c (s.onChan c fun x => { x with m := 0 })
  | .calib => markInService c (s.onChan c fun x => { x with m := 0 })
  | .hold => account c p s
  | .dosing =>
    let s := supervise c p (account c p s)
    if s.chans[c].state = .dosing then s.onChan c fun x => x.driven s.live.chans[c] else s

/-! ## Expiries -/

/-- The hold timer of a channel expires: FAULT with cause HOLD_EXPIRED (R48). -/
def holdExpires (c : Channel) (s : State) : State :=
  if s.chans[c].state = .hold ∧ s.chans[c].holdTimer.isSome then enterFault c .holdExpired s else s

/-- The stage timer of a channel expires (R61). -/
def stageExpires (c : Channel) (s : State) : State :=
  match s.chans[c].stage with
  | none => s
  | some g => if s.chans[c].state = .calib then completeStage c g s else s

def execHoldTimerExpiry (c : Channel) (s : State) : Host.Outcome State Fault Refusal :=
  .next (whenRunning (holdExpires c) s)

def execStageTimerExpiry (c : Channel) (s : State) : Host.Outcome State Fault Refusal :=
  .next (whenRunning (stageExpires c) s)

/-! ## Requests -/

/-- A request that names a channel, 1 to 6; another number is answered RANGE. -/
def forChannel (k : Nat) (f : Channel → Service) : Service := fun s =>
  match instNo 6 k with
  | none => (s, plain .range)
  | some c => f c s

/-- CHANNEL SERVICE IN of a channel (R44). -/
def serviceIn (c : Channel) : Service := fun s =>
  match s.chans[c].state with
  | .out =>
    if burnerOf s c = none then (s, refusedFor .notAssigned)
    else if s.floor.mode = .settle then (s, refusedFor .unsettled)
    else if burnerFires s c then (enterDosing c s, done [])
    else (s.onChan c fun x => { x with state := .idle, u := 0 }, done [])
  | .idle => (s, done [])
  | .dosing => (s, done [])
  | .hold => (s, done [])
  | .fault => (s, refusedFor .notOut)
  | .calib => (s, plain .busy)

/-- CHANNEL SERVICE OUT of a channel (R45). -/
def serviceOut (c : Channel) : Service := fun s =>
  match s.chans[c].state with
  | .idle => (s.onChan c fun x => { x with state := .out, u := 0 }, done [])
  | .fault =>
    (reportCond (faultPoint c) false (s.onChan c fun x => { x with state := .out, u := 0, cause := none }), done [])
  | .dosing => (s, refusedFor .burnerActive)
  | .hold => (s, refusedFor .burnerActive)
  | .out => (s, done [])
  | .calib => (s, plain .busy)

/-- Is the channel's load cell BAD? -/
def cellBad (s : State) (c : Channel) : Bool :=
  decide (s.scan.analog[(⟨c.val, by omega⟩ : AnalogIn)].quality = .bad)

/-- CHANNEL RESET of a channel (R50). -/
def resetChannel (c : Channel) : Service := fun s =>
  match s.chans[c].state with
  | .fault =>
    if cellBad s c then (s, refusedFor .causePresent)
    else
      let s := reportCond (faultPoint c) false (s.onChan c fun x => { x with state := .idle, u := 0, cause := none })
      (if burnerFires s c then enterDosing c s else s, done [])
  | .out => (s, done [])
  | .idle => (s, done [])
  | .dosing => (s, done [])
  | .hold => (s, done [])
  | .calib => (s, done [])

/-- Checks 2 to 6 of R59 and the acceptance. -/
def startStage (kind : StageKind) (c : Channel) (testLoad : Option Nat) (duration : Nat) : Service := fun s =>
  let x := s.chans[c]
  if x.state = .calib then (s, plain .busy)
  else if x.state ≠ .out then (s, refusedFor .notOut)
  else if s.floor.mode = .settle then (s, refusedFor .unsettled)
  else if cellBad s c || !stopLoopClosed s then (s, refusedFor .causePresent)
  else if kind = .span ∧ x.tareConfirmed = false then (s, refusedFor .noTare)
  else
    let drive := s.live.chans[c].calDrive
    (s.onChan c fun x =>
      { x with
        state := .calib, u := drive, result := none
        stage := some { kind := kind, testLoad := testLoad, duration := duration, timer := some (duration * 1000),
                        drive := drive, sum := 0, count := 0 } },
     done [])

/-- CALIBRATE ZERO (R59). -/
def calibrateZero (k duration : Nat) : Service := fun s =>
  if 10 ≤ duration ∧ duration ≤ 600 then forChannel k (fun c => startStage .zero c none duration) s
  else (s, plain .range)

/-- CALIBRATE SPAN (R59). -/
def calibrateSpan (k testLoad duration : Nat) : Service := fun s =>
  if 10 ≤ duration ∧ duration ≤ 600 ∧ 1 ≤ testLoad ∧ testLoad ≤ 65535 then
    forChannel k (fun c => startStage .span c (some testLoad) duration) s
  else (s, plain .range)

/-- CALIBRATE ABORT of a channel (R62). -/
def calibrateAbort (c : Channel) : Service := fun s => (abortStage c .command s, done [])

def execChannelServiceIn (k : Nat) (s : State) : Host.Outcome State Fault Refusal :=
  .next (takeRequest (forChannel k serviceIn) s)
def execChannelServiceOut (k : Nat) (s : State) : Host.Outcome State Fault Refusal :=
  .next (takeRequest (forChannel k serviceOut) s)
def execChannelReset (k : Nat) (s : State) : Host.Outcome State Fault Refusal :=
  .next (takeRequest (forChannel k resetChannel) s)
def execCalibrateZero (k duration : Nat) (s : State) : Host.Outcome State Fault Refusal :=
  .next (takeRequest (calibrateZero k duration) s)
def execCalibrateSpan (k testLoad duration : Nat) (s : State) : Host.Outcome State Fault Refusal :=
  .next (takeRequest (calibrateSpan k testLoad duration) s)
def execCalibrateAbort (k : Nat) (s : State) : Host.Outcome State Fault Refusal :=
  .next (takeRequest (forChannel k calibrateAbort) s)

end Sys2Proof.Machine
end

