-- ==== Sys2Proof/Machine/Planning.lean ====
section
/-! DEFINITION. The Firing Planner: demand and ramp, the cooler cap, the heat split and the hand-over (R21 to R38). -/

namespace Sys2Proof.Machine

/-! ## The split (R29 to R34) -/

/-- What a pass gives an unfixed channel: its pass heat and its pass rate (R31). -/
structure PassShare where
  fuel : Fuel
  heat : Nat
  rate : Nat
deriving DecidableEq, Repr

/-- What the split makes of an eligible channel: its plan entry and the excess of a minimum clamp (R32, R33). -/
structure Planned where
  chan : Channel
  entry : PlanEntry
  excess : Nat
deriving DecidableEq, Repr

def sumOf {α : Type} (f : α → Nat) (l : List α) : Nat := (l.map f).sum

/-- The channel that takes the remainder: the largest share, of several the lowest channel number (R31). The list is in
channel order. -/
def remainderTaker (l : List Fuel) : Option Channel :=
  (l.foldl (fun best f => match best with
    | none => some f
    | some g => if g.share < f.share then some f else some g) (none : Option Fuel)).map Fuel.chan

/-- One pass over the unfixed channels (R31). -/
def splitPass (demand : Nat) (unfixed : List Fuel) : List PassShare :=
  let weight := sumOf Fuel.share unfixed
  let rest := demand - sumOf (fun f => demand * f.share / weight) unfixed
  let taker := remainderTaker unfixed
  unfixed.map fun f =>
    let heat := demand * f.share / weight + (if taker = some f.chan then rest else 0)
    { fuel := f, heat := heat, rate := heat * 3600 / f.cv }

/-- A channel fixed at its maximum (R32). -/
def fixAtMax (f : Fuel) : Planned :=
  { chan := f.chan, entry := ⟨f.maxRate, f.maxRate * f.cv / 3600, .atMax⟩, excess := 0 }

/-- The three cases of a channel left unfixed by the last pass (R33). -/
def settleShare (x : PassShare) : Planned :=
  if x.rate = 0 then { chan := x.fuel.chan, entry := ⟨0, 0, .split⟩, excess := 0 }
  else if x.rate < x.fuel.minRate then
    let heat := x.fuel.minRate * x.fuel.cv / 3600
    { chan := x.fuel.chan, entry := ⟨x.fuel.minRate, heat, .atMin⟩, excess := heat - x.heat }
  else { chan := x.fuel.chan, entry := ⟨x.rate, x.rate * x.fuel.cv / 3600, .split⟩, excess := 0 }

/-- The passes: while a pass fixes a channel and leaves another, a further one is made (R31, R32). Six suffice, since each
that does not end the split fixes at least one of at most six channels. -/
def splitPasses (passes heat fixedHeat : Nat) (unfixed : List Fuel) : List Planned :=
  match passes with
  | 0 => []
  | n + 1 =>
    let shares := splitPass (heat - fixedHeat) unfixed
    let above := shares.filter fun x => decide (x.fuel.maxRate < x.rate)
    let rest := shares.filter fun x => !decide (x.fuel.maxRate < x.rate)
    let fixed := above.map fun x => fixAtMax x.fuel
    if above.isEmpty || rest.isEmpty then fixed ++ rest.map settleShare
    else fixed ++ splitPasses n heat (fixedHeat + sumOf (fun x => x.entry.heat) fixed) (rest.map PassShare.fuel)

/-- The split of a heat among the eligible channels; none where the set is empty (R30, R31). -/
def splitHeat (heat : Nat) (eligible : List Fuel) : List Planned := splitPasses 6 heat 0 eligible

/-- The channels of a burner, in channel order. -/
def channelsOf (s : State) (b : Burner) : List Channel := (List.finRange 6).filter fun c => feeds s c b

/-- The heat held by the burner's HOLD channels (R29). -/
def heldHeat (s : State) (b : Burner) : Nat :=
  sumOf (fun c => s.planner.entries[c].heat) ((channelsOf s b).filter fun c => decide (s.chans[c].state = .hold))

/-- The fuel of a channel as its record stands (section 2.4 of the spec). -/
def fuelOf (s : State) (c : Channel) : Fuel :=
  let x := s.live.chans[c]
  { chan := c, cv := x.cv, share := x.share, minRate := x.minRate, maxRate := x.maxRate }

/-- The eligible set of a burner (R30). -/
def eligible (s : State) (b : Burner) : List Fuel :=
  ((channelsOf s b).filter fun c => decide (s.chans[c].state = .dosing ∧ 0 < s.live.chans[c].share)).map (fuelOf s)

/-- The plan entry of a DOSING channel, given the split: one that the split leaves out has share 0 (R28, R30). -/
def dosingEntry (plan : List Planned) (c : Channel) : PlanEntry :=
  match plan.find? fun x => decide (x.chan = c) with
  | some x => x.entry
  | none => ⟨0, 0, .zeroShare⟩

/-- The plan entry of a channel of a FIRING burner at a plan cycle, given the split of its eligible set (R28). -/
def entryOf (s : State) (plan : List Planned) (c : Channel) : PlanEntry :=
  match s.chans[c].state with
  | .hold => { s.planner.entries[c] with role := .held }
  | .dosing => dosingEntry plan c
  | .out => emptyEntry
  | .idle => emptyEntry
  | .fault => emptyEntry
  | .calib => emptyEntry

/-- The planned heat that counts toward the demand: that of the channels not min-clamped (R34). -/
def carriedHeat (plan : List Planned) : Nat :=
  sumOf (fun x => if x.entry.role = .atMin then 0 else x.entry.heat) plan

/-- The split of a FIRING burner for its applied demand (R29 to R33). -/
def splitOf (s : State) (b : Burner) : List Planned :=
  splitHeat ((s.planner.demand.get b).hApp - heldHeat s b) (eligible s b)

/-- The surplus of a split, in full (R33). -/
def surplusOf (plan : List Planned) : Nat := sumOf Planned.excess plan

/-- The excess that a split finds for a channel: 0 for one that it does not clamp or leaves out (R33). -/
def excessOf (plan : List Planned) (c : Channel) : Nat :=
  match plan.find? fun x => decide (x.chan = c) with
  | some x => x.excess
  | none => 0

/-- A plan is stored: the entries and the excesses of the channels it rewrites, and the burner's shortfall (R34) and surplus
(R33). `aside` is the heat that was taken from the demand before the split, `excess` that of the entries left standing. -/
def storePlan (b : Burner) (aside excess : Nat) (plan : List Planned) (rewritten : List Channel)
    (entry : Channel → PlanEntry) (s : State) : State :=
  let short := (s.planner.demand.get b).hApp - carriedHeat plan - aside
  let t := forEach rewritten
    (fun c t => (t.onEntry c fun _ => entry c).onPlanner fun x =>
      { x with excesses := upd x.excesses c fun _ => excessOf plan c }) s
  t.onDemand b fun d => { d with shortfall := short, surplus := min 250000 (surplusOf plan + excess) }

/-- The plan of a FIRING burner at a plan cycle: the entries of all its channels, its shortfall and its surplus (R28 to
R34). -/
def planBurner (b : Burner) (s : State) : State :=
  let plan := splitOf s b
  storePlan b (heldHeat s b) 0 plan (channelsOf s b) (entryOf s plan) s

/-! ## The replan of MAIN (R28) -/

/-- The channels a replan plans: MAIN's DOSING channels but for those that have entered DOSING since the last plan cycle,
which keep their target until the next hand-over (R28, R29, R38, R44, R46, R47; DESIGN CHOICE, log entry 44). -/
def replanned (s : State) : List Channel :=
  (channelsOf s .main).filter fun c => decide (s.chans[c].state = .dosing) && !s.chans[c].awaitsPlan

/-- The eligible set of a replan, with the fuel parameters that the last plan cycle read (R30, R38, R42). -/
def replanFuels (s : State) : List Fuel :=
  ((replanned s).map fun c => s.planner.fuels[c]).filter fun f => decide (0 < f.share)

/-- The channels of MAIN whose entries a replan leaves standing: they describe the plan as it was made until the next plan
cycle (R28, R29, R38). -/
def standing (s : State) : List Channel := (channelsOf s .main).filter fun c => !(replanned s).contains c

/-- Is the standing entry of a channel that of a min-clamped one? That of a HOLD channel is held whatever its role is (R29). -/
def standsClamped (s : State) (c : Channel) : Bool :=
  decide (s.planner.entries[c].role = .atMin ∧ s.chans[c].state ≠ .hold)

/-- The heat that a replan takes from the capped demand before the split (DEDUCED, log entry 44): that of the standing entries
which are not min-clamped, since a min-clamped channel counts neither toward the demand nor against it (R33, R34). -/
def standingHeat (s : State) : Nat :=
  sumOf (fun c => s.planner.entries[c].heat) ((standing s).filter fun c => !standsClamped s c)

/-- The excess of the standing entries that are min-clamped, which stays in MAIN's surplus (R33; DEDUCED, log entry 44). -/
def standingExcess (s : State) : Nat :=
  sumOf (fun c => s.planner.excesses[c]) ((standing s).filter (standsClamped s))

/-- A replan of MAIN: the entries of the channels it plans, MAIN's shortfall and MAIN's surplus (R28). -/
def replan (s : State) : State :=
  let plan := splitHeat (s.planner.demand.main.hApp - standingHeat s) (replanFuels s)
  storePlan .main (standingHeat s) (standingExcess s) plan (replanned s) (dosingEntry plan) s

/-- A replan hands its targets to the channels it plans (R28). Every other channel keeps its target. Of MAIN's DOSING
channels, one that has entered DOSING since the last plan-cycle hand-over, at target 0 (R44, R46) or at its held target (R29,
R47), is handed none (DESIGN CHOICE, log entry 44). -/
def handReplan (s : State) : State :=
  forEach (replanned s) (fun c t => t.onChan c fun x => { x with r := t.planner.entries[c].rate }) s

/-- A cap event (R27, R28). -/
def capEvent (cap : Nat) (s : State) : State :=
  let old := s.planner.demand.main.hApp
  let s := s.onPlanner fun x => { x with hCap := cap }
  if cap < old then handReplan (replan (s.onDemand .main fun d => { d with hApp := cap })) else s

/-- The channels of a burner get the empty plan entry, its shortfall and surplus become 0 (R24, R26). -/
def emptyPlan (b : Burner) (s : State) : State :=
  let s := forEach (channelsOf s b) (fun c t => t.onEntry c fun _ => emptyEntry) s
  s.onDemand b fun d => { d with shortfall := 0, surplus := 0 }

/-! ## Demand -/

/-- The target of the ramp (R24). -/
def rampTarget (s : State) (b : Burner) : Nat :=
  let t := min (s.planner.demand.get b).hReq (s.live.burners.get b).maxHeat
  match b with
  | .main => min t s.planner.hCap
  | .calciner => t

/-- One ramp step (R24). -/
def rampStep (h target rate : Nat) : Nat :=
  if h < target then min target (h + rate) else if target < h then max target (h - rate) else h

/-- The burner leaves FIRING: H_app becomes 0 and the plan empty (R26). -/
def plannerLeavesFiring (b : Burner) (s : State) : State :=
  emptyPlan b (s.onDemand b fun d => { d with hApp := 0 })

/-- The shortfall check (R35). -/
def shortfallCheck (b : Burner) (s : State) : State :=
  let d := s.planner.demand.get b
  if (s.live.burners.get b).shortfallLimit < d.shortfall then
    let count := satInc 10 d.shortfallCount
    let s := s.onDemand b fun d => { d with shortfallCount := count }
    if count = 10 ∧ d.shortfallCond = false then
      reportCond (shortfallPoint b) true (s.onDemand b fun d => { d with shortfallCond := true })
    else s
  else
    let s := s.onDemand b fun d => { d with shortfallCount := 0, shortfallCond := false }
    if d.shortfallCond then reportCond (shortfallPoint b) false s else s

/-- The plan of one burner at a plan-cycle expiry: ramp, split, shortfall check, increments (R24, R35, R36). -/
def planCycleOf (b : Burner) (s : State) : State :=
  if fires s b then
    let s := s.onDemand b fun d =>
      { d with hApp := rampStep d.hApp (rampTarget s b) (s.live.burners.get b).rampRate }
    let surplus := surplusOf (splitOf s b)
    let s := shortfallCheck b (planBurner b s)
    let s := if 0 < (s.planner.demand.get b).shortfall then addShortfallSecond b s else s
    addSurplus b surplus s
  else shortfallCheck b (emptyPlan b (s.onDemand b fun d => { d with hApp := 0 }))

/-- A channel assigned to NONE has the empty plan entry (R28). -/
def emptyUnassigned (s : State) : State :=
  forEach (List.finRange 6) (fun c t => if burnerOf t c = none then t.onEntry c fun _ => emptyEntry else t) s

/-- The planner reads the fuel parameters of all channels (R38, R42). -/
def readFuels (s : State) : State := s.onPlanner fun x => { x with fuels := Vector.ofFn (fuelOf s) }

/-- Steps 1 to 3 of R21: both plans, then the hand-over and the work of the six channels (R37, R52). -/
def planAndDose (s : State) : State :=
  let s := emptyUnassigned (planCycleOf .calciner (planCycleOf .main (readFuels s)))
  forEach (List.finRange 6) cycleWork s

/-! ## HEAT SET (R23) -/

/-- A request that names a burner; another is answered RANGE. -/
def forBurner (k : Nat) (f : Burner → Service) : Service := fun s =>
  match burnerNo k with
  | none => (s, plain .range)
  | some b => f b s

/-- The bound of a demand (R23). -/
def heatBound (s : State) (b : Burner) : Nat := min 250000 (s.live.burners.get b).maxHeat

/-- H_req, H_app and H_cap, which is 0 for CALC (R176). -/
def heatReply (s : State) (b : Burner) : List Byte :=
  be 4 (s.planner.demand.get b).hReq ++ be 4 (s.planner.demand.get b).hApp
  ++ be 4 (match b with | .main => s.planner.hCap | .calciner => 0)

/-- HEAT SET of a burner (R23). -/
def heatSet (demand : Nat) (b : Burner) : Service := fun s =>
  let bound := heatBound s b
  let t := s.onDemand b fun d => { d with hReq := min demand bound }
  (t, if demand ≤ bound then done (heatReply t b) else clampedWith (heatReply t b))

def execHeatSet (burner demand : Nat) (s : State) : Host.Outcome State Fault Refusal :=
  .next (takeRequest (forBurner burner (heatSet demand)) s)

end Sys2Proof.Machine
end

