-- ==== Sys2Proof/Machine/Burners.lean ====
section
/-! DEFINITION. The Burner Sequencers: lighting, flame supervision, stopping, trips and their reset (R67 to R84). -/

namespace Sys2Proof.Machine

/-- Is the burner in PURGE, IGNITION, PROVEN or FIRING? -/
def BurnState.isActive : BurnState → Bool
  | .purge => true | .ignition => true | .proven => true | .firing => true | .off => false | .tripped => false

/-- The burner record in OFF or TRIPPED: every timer stopped, both counts 0 (R75, R78). -/
def Burn.shut (x : Burn) (state : BurnState) : Burn :=
  { x with state := state, purgeTimer := none, trialTimer := none, stabTimer := none, proof := 0, failure := 0 }

/-- The planner and the channels of a burner that has left FIRING (R26, R46). -/
def followLeaving (b : Burner) (s : State) : State := channelsFollowStop b (plannerLeavesFiring b s)

/-! ## Trips (R76 to R80) -/

/-- Entry to TRIPPED, in the order of R78. -/
def enterTripped (b : Burner) (cause : Cause) (s : State) : State :=
  let old := (s.burns.get b).state
  let clock := if s.shift.isSet then some (shiftClock s) else none
  let s := s.onBurn b fun x =>
    { x.shut .tripped with firstOut := some { cause := cause, tripFrom := old, clock := clock, later := 0 } }
  let s := followLeaving b s
  let s := addTrip b (reportCond (tripPointOf b) true s)
  if b = .main ∧ (old = .proven ∨ old = .firing) then s.onHanded fun l => l ++ [(.calciner, .mainLost)] else s

/-- A trip cause reaches a burner (R77). -/
def takeCause (b : Burner) (cause : Cause) (s : State) : State :=
  match (s.burns.get b).state with
  | .off => s
  | .tripped => s.onBurn b fun x => { x with firstOut := x.firstOut.map fun r => { r with later := satInc 255 r.later } }
  | .purge => enterTripped b cause s
  | .ignition => enterTripped b cause s
  | .proven => enterTripped b cause s
  | .firing => enterTripped b cause s

/-- A cause that another block has handed is taken: it is no longer waiting (R83). -/
def takeHanded (b : Burner) (cause : Cause) (s : State) : State :=
  takeCause b cause (s.onHanded fun l => l.erase (b, cause))

def execAlarmPoint (b : Burner) (p : Point) (s : State) : Host.Outcome State Fault Refusal :=
  .next (whenRunning (takeHanded b (.alarmPoint p)) s)
def execEmergencyStopTrip (b : Burner) (s : State) : Host.Outcome State Fault Refusal :=
  .next (whenRunning (takeHanded b .emergencyStop) s)
def execMainLost (s : State) : Host.Outcome State Fault Refusal :=
  .next (whenRunning (takeHanded .calciner .mainLost) s)

/-! ## The inputs handed (R7, R70, R71, R73, R81) -/

/-- A8 for CALC, A7 for MAIN. -/
def flameInput : Burner → AnalogIn
  | .main => 6
  | .calciner => 7

/-- Is the draught within the burner's purge window (R70)? -/
def draughtInWindow (s : State) (b : Burner) : Bool :=
  let a := s.scan.analog[(21 : AnalogIn)]
  let set := s.live.burners.get b
  decide ((a.quality = .good ∨ a.quality = .forced) ∧ set.purgeLow ≤ a.value ∧ a.value ≤ set.purgeHigh)

/-- The purge timer after the draught has been handed, or read at the entry to PURGE (R70). -/
def purgeJudged (b : Burner) (s : State) : State :=
  if draughtInWindow s b then
    s.onBurn b fun x =>
      { x with purgeTimer := match x.purgeTimer with
                             | some t => some t
                             | none => some ((s.live.burners.get b).purgeTime * 1000) }
  else s.onBurn b fun x => { x with purgeTimer := none }

/-- The draught is handed to a burner (R70). -/
def handDraught (b : Burner) (s : State) : State := if (s.burns.get b).state = .purge then purgeJudged b s else s

/-- The flame is proven (R71, R72). -/
def provenFlame (b : Burner) (s : State) : State :=
  s.onBurn b fun x =>
    { x with state := .proven, trialTimer := none, stabTimer := some 5000, proof := 0, failure := 0 }

/-- A flame sample in IGNITION (R71). -/
def provingSample (b : Burner) (s : State) : State :=
  let a := s.scan.analog[flameInput b]
  let proof := if a.quality ≠ .bad ∧ ((s.live.burners.get b).flameOn : Int) ≤ a.value
               then (s.burns.get b).proof + 1 else 0
  if 3 ≤ proof then provenFlame b s else s.onBurn b fun x => { x with proof := proof }

/-- A flame sample in PROVEN or FIRING (R73). -/
def flameSample (b : Burner) (s : State) : State :=
  let a := s.scan.analog[flameInput b]
  let lost := a.quality = .bad ∨ a.value < ((s.live.burners.get b).flameOff : Int)
  let failure := if lost then (s.burns.get b).failure + 1 else 0
  let t := s.onBurn b fun x => { x with failure := failure }
  if lost ∧ (s.live.burners.get b).failSamples ≤ failure then takeCause b .flameLost t else t

/-- An arrival at the burner's flame input (R71, R73). -/
def handFlame (b : Burner) (s : State) : State :=
  match (s.burns.get b).state with
  | .ignition => provingSample b s
  | .proven => flameSample b s
  | .firing => flameSample b s
  | .off => s
  | .purge => s
  | .tripped => s

/-- An arrival at A21 (R81). -/
def handInlet (s : State) : State :=
  let a := s.scan.analog[(20 : AnalogIn)]
  if s.burns.calciner.state = .firing ∧ a.quality ≠ .bad ∧ a.value < (s.live.burners.calciner.permit : Int) - 50
  then takeCause .calciner .inletCold s else s

/-! ## Expiries -/

/-- The purge timer expires: IGNITION (R70, R71). -/
def purgeExpires (b : Burner) (s : State) : State :=
  if (s.burns.get b).state = .purge ∧ (s.burns.get b).purgeTimer.isSome then
    s.onBurn b fun x =>
      { x with state := .ignition, purgeTimer := none, proof := 0
               trialTimer := some ((s.live.burners.get b).trialTime * 1000) }
  else s

/-- The trial timer expires (R71, R76). -/
def trialExpires (b : Burner) (s : State) : State :=
  if (s.burns.get b).state = .ignition ∧ (s.burns.get b).trialTimer.isSome then takeCause b .ignitionFailed s else s

/-- The burner enters FIRING (R26, R46, R72). -/
def enterFiring (b : Burner) (s : State) : State :=
  let s := s.onBurn b fun x => { x with state := .firing, stabTimer := none }
  channelsFollowFiring b (s.onDemand b fun d => { d with hApp := 0 })

/-- The stabilise timer expires (R72). -/
def stabiliseExpires (b : Burner) (s : State) : State :=
  if (s.burns.get b).state = .proven ∧ (s.burns.get b).stabTimer.isSome then enterFiring b s else s

def execPurgeTimerExpiry (b : Burner) (s : State) : Host.Outcome State Fault Refusal :=
  .next (whenRunning (purgeExpires b) s)
def execTrialTimerExpiry (b : Burner) (s : State) : Host.Outcome State Fault Refusal :=
  .next (whenRunning (trialExpires b) s)
def execStabiliseTimerExpiry (b : Burner) (s : State) : Host.Outcome State Fault Refusal :=
  .next (whenRunning (stabiliseExpires b) s)

/-- The firing seconds of a plan-cycle expiry (R74). -/
def firingSeconds (s : State) : State :=
  forEach bothBurners (fun b t => if fires t b then addFiringSecond b t else t) s

/-! ## Requests -/

/-- Is the kiln inlet too cold to light CALC (R69, check 8)? -/
def inletTooCold (s : State) : Bool :=
  let a := s.scan.analog[(20 : AnalogIn)]
  decide (¬(a.quality = .good ∨ a.quality = .forced) ∨ a.value < (s.live.burners.calciner.permit : Int))

/-- Checks 3 to 9 of R69: the refusal of a burner in OFF, or none. -/
def lightRefusal (s : State) (b : Burner) : Option Reason :=
  let flame := s.scan.analog[flameInput b]
  if s.floor.mode = .standby then some .standby
  else if s.floor.mode = .settle then some .unsettled
  else if !stopLoopClosed s then some .emergencyStop
  else if tripPointInhibited s b then some .tripPointInhibited
  else if tripCondPresent s b then some .causePresent
  else if b = .calciner ∧ s.burns.main.state ≠ .firing then some .mainNotFiring
  else if b = .calciner ∧ inletTooCold s = true then some .inletCold
  else if flame.quality = .bad then some .causePresent
  else if ((s.live.burners.get b).flameOn : Int) ≤ flame.value then some .flamePresent
  else none

/-- Entry to PURGE (R69, R70). -/
def enterPurge (b : Burner) (s : State) : State :=
  purgeJudged b (s.onBurn b fun x => { x with state := .purge, purgeTimer := none, proof := 0, failure := 0 })

/-- BURNER LIGHT of a burner (R69). -/
def burnerLight (b : Burner) : Service := fun s =>
  match (s.burns.get b).state with
  | .off =>
    match lightRefusal s b with
    | some r => (s, refusedFor r)
    | none => (enterPurge b s, done [])
  | .tripped => (s, refusedFor .tripped)
  | .purge => (s, done [])
  | .ignition => (s, done [])
  | .proven => (s, done [])
  | .firing => (s, done [])

/-- An active burner goes to OFF (R75). -/
def stopBurner (b : Burner) (s : State) : State :=
  if (s.burns.get b).state.isActive then
    let firing := fires s b
    let s := s.onBurn b fun x => x.shut .off
    if firing then followLeaving b s else s
  else s

/-- BURNER STOP of a burner; a MAIN that stops takes an active CALC with it (R75). -/
def burnerStop (b : Burner) : Service := fun s =>
  let t := stopBurner b s
  (if b = .main ∧ (s.burns.get b).state.isActive then stopBurner .calciner t else t, done [])

/-- The checks of R82 in TRIPPED: the refusal, or none. -/
def resetRefusal (s : State) (b : Burner) : Option Reason :=
  let cause := (s.burns.get b).firstOut.map FirstOut.cause
  let unacked := isUnacked s (tripPointOf b) || (match cause with
    | some (.alarmPoint p) => isUnacked s p
    | _ => false)
  let present := match cause with
    | some (.alarmPoint p) => s.alarm.points[p].cond
    | some .emergencyStop => !stopLoopClosed s
    | _ => false
  if unacked then some .unacknowledged else if present then some .causePresent else none

/-- BURNER RESET TRIP of a burner (R82). -/
def burnerResetTrip (b : Burner) : Service := fun s =>
  if (s.burns.get b).state = .tripped then
    match resetRefusal s b with
    | some r => (s, refusedFor r)
    | none =>
      (reportCond (tripPointOf b) false (s.onBurn b fun x => { x with state := .off, firstOut := none }), done [])
  else (s, done [])

def execBurnerLight (burner : Nat) (s : State) : Host.Outcome State Fault Refusal :=
  .next (takeRequest (forBurner burner burnerLight) s)
def execBurnerStop (burner : Nat) (s : State) : Host.Outcome State Fault Refusal :=
  .next (takeRequest (forBurner burner burnerStop) s)
def execBurnerResetTrip (burner : Nat) (s : State) : Host.Outcome State Fault Refusal :=
  .next (takeRequest (forBurner burner burnerResetTrip) s)

end Sys2Proof.Machine
end

