-- ==== Sys2Proof/Machine/Cooling.lean ====
section
/-! DEFINITION. The Cooler Unit: strokes, stroke rate, fans and overload (R86 to R106). -/

namespace Sys2Proof.Machine

/-! ## Overload (R103 to R106) -/

/-- Is the fan one of F1 to F3? -/
def isHot (f : Fan) : Bool := decide (f.val < 3)

def hotFans : List Fan := [0, 1, 2]

/-- The effective target of a fan (R99). -/
def effectiveTarget (s : State) (f : Fan) : Nat :=
  let target := s.cooler.fans[f].target
  if s.cooler.overload && isHot f then min 1200 (target + s.live.cooler.boost) else target

/-- The damper position of a flow by the characterisation table (R100). -/
def tablePosition (table : Vector Nat 9) (flow : Nat) : Int :=
  let p (k : Nat) : Int := ((table[k]?).getD 0 : Nat)
  if 1200 ≤ flow then p 8
  else
    let k := flow / 150
    p k + (p (k + 1) - p k) * ((flow : Int) - 150 * k) / 150

/-- The damper of a fan for its effective target and trim, by the table in use (R99, R100). -/
def damperOf (s : State) (f : Fan) : Nat :=
  let x := s.cooler.fans[f]
  let set := s.live.fans[f]
  if x.on then
    if s.floor.mode = .standby ∨ s.floor.mode = .settle then set.standby
    else (clampInt 0 1000 (tablePosition x.table x.effTarget + x.trim)).toNat
  else 0

/-- The effective target and the damper of a fan are computed again (R100). -/
def computeDamper (f : Fan) (s : State) : State :=
  let s := s.onFan f fun x => { x with effTarget := effectiveTarget s f }
  s.onFan f fun x => { x with damper := damperOf s f }

/-- Is the failure condition of F1, F2 or F3 present? -/
def hotFanFailed (s : State) : Bool := hotFans.any fun f => s.cooler.fans[f].failCond

/-- The four entering conditions (R104): pressure, G1 stall, hot fan failure, crusher. -/
def enteringConditions (s : State) : List Bool :=
  [s.cooler.pressureCond, decide (s.cooler.grates[(0 : Grate)].state = .stalled), hotFanFailed s, !crusherRuns s]

/-- The cap set at the entry to OVERLOAD (R105). -/
def overloadCap (s : State) : Nat :=
  if fires s .main then min 249999 ((s.planner.demand.get .main).hApp * s.live.cooler.capPercent / 100) else 0

/-- Entry to OVERLOAD, in the order of R105. -/
def enterOverload (s : State) : State :=
  let cap := overloadCap s
  let s := capEvent cap (s.onCooler fun x => { x with overload := true, cap := cap })
  let s := reportCond (pt 70) true (forEach hotFans computeDamper s)
  s.onCooler fun x => { x with clearCount := some 0 }

/-- An entering condition becomes present (R104). -/
def enteringEvent (s : State) : State :=
  if s.cooler.overload then s.onCooler fun x => { x with clearCount := some 0 } else enterOverload s

/-- The cooler leaves OVERLOAD (R106). -/
def leaveOverload (s : State) : State :=
  let s := capEvent 250000 (s.onCooler fun x => { x with overload := false, cap := 250000 })
  let s := reportCond (pt 70) false (forEach hotFans computeDamper s)
  s.onCooler fun x => { x with clearCount := none }

/-- The average of G1's bed-pressure window, absent while it is empty (R97). -/
def windowAverage (s : State) : Option Int :=
  if s.cooler.window.isEmpty then none else some (s.cooler.window.sum / s.cooler.window.length)

/-- Is the pressure test met (R104)? -/
def pressureTestMet (s : State) : Bool :=
  decide (s.live.grates[(0 : Grate)].rateMax ≤ s.cooler.grates[(0 : Grate)].rate)
  && match windowAverage s with
     | none => false
     | some a => decide ((s.live.cooler.overloadPressure : Int) < a)

/-- The pressure test of a plan-cycle expiry (R104). -/
def pressureTest (s : State) : State :=
  if pressureTestMet s then
    let time := s.live.cooler.overloadTime
    let count := if s.cooler.pressureCount < time then s.cooler.pressureCount + 1 else s.cooler.pressureCount
    s.onCooler fun x => { x with pressureCount := count, pressureCond := decide (time ≤ count) }
  else s.onCooler fun x => { x with pressureCount := 0, pressureCond := false }

/-- Counting toward the clear time, and the exit (R106). -/
def clearTest (s : State) : State :=
  if s.cooler.overload then
    let count := if (enteringConditions s).any id then 0 else (s.cooler.clearCount.getD 0) + 1
    let s := s.onCooler fun x => { x with clearCount := some count }
    if s.live.cooler.clearTime ≤ count then leaveOverload s else s
  else s

/-! ## Fans (R100 to R102) -/

/-- The flow input A(11 + n) of fan n (R99). -/
def flowInput (f : Fan) : AnalogIn := ⟨11 + f.val, by omega⟩

/-- May a quality be used (R97, R101): GOOD or FORCED? -/
def Quality.usable (q : Quality) : Bool := decide (q = .good ∨ q = .forced)

/-- Step 1 of R101. The damper "on the output through the cycle just ended" is the one that stands at the expiry, also where
a FAN SET or the cooler moved it within that cycle (DESIGN CHOICE, log entry 47). -/
def judgeFan (f : Fan) (s : State) : State :=
  let x := s.cooler.fans[f]
  let a := s.scan.analog[flowInput f]
  let set := s.live.fans[f]
  if a.quality.usable then
    if a.value < (set.failLevel : Int) then
      if 100 < x.damper then
        let count := if x.failCount < set.failTime then x.failCount + 1 else x.failCount
        let s := s.onFan f fun x => { x with failCount := count }
        if set.failTime ≤ count ∧ x.failCond = false then
          reportCond (fanPoint f) true (s.onFan f fun x => { x with failCond := true })
        else s
      else s.onFan f fun x => { x with failCount := 0 }
    else
      let s := s.onFan f fun x => { x with failCount := 0, failCond := false }
      if x.failCond then reportCond (fanPoint f) false s else s
  else s

/-- Step 2 of R101. -/
def trimFan (f : Fan) (s : State) : State :=
  let a := s.scan.analog[flowInput f]
  if a.quality.usable then
    s.onFan f fun x =>
      { x with trim := clampInt (-100) 100 (x.trim + truncDiv (((x.effTarget : Int) - a.value) * s.live.fans[f].gain) 1000) }
  else s

/-- The update of a fan at a plan-cycle expiry (R101). -/
def updateFan (f : Fan) (s : State) : State :=
  if s.cooler.fans[f].on && decide (s.floor.mode = .normal ∨ s.floor.mode = .fallback) then
    computeDamper f (trimFan f (judgeFan f s))
  else s

/-- The characterisation tables as the settings hold them come into use, of every fan (R99). -/
def takeTables (s : State) : State :=
  s.onCooler fun x =>
    { x with fans := Vector.ofFn fun f : Fan => { x.fans[f] with table := s.live.fans[f].table } }

/-- The cooler's work at a plan-cycle expiry: the tables written since the last one, fans, pressure test, entry, clear time,
overload second (R99, R101 to R106). -/
def coolerCycle (s : State) : State :=
  let t := pressureTest (forEach (List.finRange 8) updateFan (takeTables s))
  let newHot := hotFans.any fun f => t.cooler.fans[f].failCond && !s.cooler.fans[f].failCond
  let newPressure := t.cooler.pressureCond && !s.cooler.pressureCond
  let t := if newHot || newPressure then enteringEvent t else t
  let t := clearTest t
  if t.cooler.overload then addOverloadSecond t else t

/-- The fans at the entry of the floor to STANDBY (R102); the mode is STANDBY already. -/
def fanToStandby (f : Fan) (s : State) : State :=
  let x := s.cooler.fans[f]
  if x.on then
    let s := s.onFan f fun x => { x with damper := s.live.fans[f].standby, failCount := 0, failCond := false }
    if x.failCond then reportCond (fanPoint f) false s else s
  else s

/-- The fans at the settle expiry (R102). -/
def fansResume (s : State) : State :=
  forEach (List.finRange 8) (fun f t => if t.cooler.fans[f].on then computeDamper f t else t) s

/-- FAN SET (R102). -/
def fanSet (k on target : Nat) : Service := fun s =>
  match instNo 8 k, firstOf on with
  | some f, some on =>
    if target ≤ 1200 then
      let x := s.cooler.fans[f]
      let t :=
        if on then
          if x.on then s else s.onFan f fun x => { x with on := true, trim := 0, failCount := 0 }
        else
          let t := s.onFan f fun x => { x with on := false, trim := 0, failCount := 0, failCond := false }
          if x.failCond then reportCond (fanPoint f) false t else t
      (computeDamper f (t.onFan f fun x => { x with target := target }), done [])
    else (s, plain .range)
  | _, _ => (s, plain .range)

def execFanSet (fan on target : Nat) (s : State) : Host.Outcome State Fault Refusal :=
  .next (takeRequest (fanSet fan on target) s)

/-! ## The stroke (R89 to R92, R97, R98) -/

/-- A timing for a rate and the section's times (R89). -/
def timingFor (rate : Nat) (set : GrateSet) : Timing :=
  { forward := set.forward, ret := set.ret, dead := set.dead,
    period := max (600000 / rate) (set.forward + set.ret + 2 * set.dead) }

/-- How long REST lasts (R89, R90). -/
def Timing.rest (t : Timing) : Nat := t.period - t.forward - t.ret - t.dead

/-- The effective rate (R86, R89). -/
def GrateRec.effectiveRate (x : GrateRec) : Nat := 600000 / x.active.period

/-- The dead time the next stroke will use, at which the return guard ends (R90). -/
def GrateRec.guardTime (x : GrateRec) : Nat := (x.staged.getD x.active).dead

/-- The rate that a FORWARD start in AUTO computes: the loop of G1 (R97), the ratio of a follower (R98). -/
def newRate (s : State) (g : Grate) : Option Nat :=
  let set := s.live.grates[g]
  let x := s.cooler.grates[g]
  if set.mode = .manual then none
  else if g = 0 then
    (windowAverage s).map fun a =>
      (clampInt set.rateMin set.rateMax (x.rate + truncDiv ((a - set.setpoint) * set.rateGain) 1000)).toNat
  else if s.cooler.grates[(0 : Grate)].state = .running then
    some (clampNat set.rateMin set.rateMax (s.cooler.grates[(0 : Grate)].rate * set.ratio / 1000))
  else none

/-- A FORWARD start: the staged timing becomes active, confirmed is cleared, G1 takes its stroke pressure, and a section
in AUTO stages the timing of its new rate (R89, R91, R97, R98). -/
def forwardStart (g : Grate) (s : State) : State :=
  let s := s.onGrate g fun x =>
    { x with
      active := x.staged.getD x.active, staged := none, confirmed := false, phase := some .forward
      phaseTimer := some (x.staged.getD x.active).forward, guard := none }
  let s := if g = 0 then s.onGrate g fun x => { x with strokePressure := windowAverage s } else s
  match newRate s g with
  | none => s
  | some r => s.onGrate g fun x => { x with rate := r, staged := some (timingFor r s.live.grates[g]) }

/-- The return guard of a section ends; a FORWARD start that waits for it is made (R90). -/
def guardEnds (g : Grate) (s : State) : State :=
  let s := s.onGrate g fun x => { x with guard := none }
  let x := s.cooler.grates[g]
  if x.phase = some .rest ∧ x.phaseTimer = none then forwardStart g s else s

/-- A timing is staged between strokes: it replaces one staged before, and moves the end of a running guard (R89, R90). -/
def stageTiming (g : Grate) (t : Timing) (s : State) : State :=
  let s := s.onGrate g fun x => { x with staged := some t }
  match s.cooler.grates[g].guard with
  | none => s
  | some since => if t.dead ≤ since then guardEnds g s else s

/-- The section stalls (R91). -/
def stallGrate (g : Grate) (s : State) : State :=
  let s := s.onGrate g fun x =>
    { x with state := .stalled, phase := none, phaseTimer := none, runOut := false, miss := 2 }
  let s := reportCond (stallPoint g) true s
  if g = 0 then enteringEvent s else s

/-- Does the section stand in this phase with its timer running? -/
def phaseRuns (s : State) (g : Grate) (p : Phase) : Bool :=
  decide (s.cooler.grates[g].phase = some p) && s.cooler.grates[g].phaseTimer.isSome

/-- FORWARD expires: confirmation is judged (R90, R91). -/
def forwardExpires (g : Grate) (s : State) : State :=
  if phaseRuns s g .forward then
    let x := s.cooler.grates[g]
    let toDeadA (miss : Nat) := s.onGrate g fun x =>
      { x with miss := miss, phase := some .deadA, phaseTimer := some x.active.dead }
    if x.confirmed then toDeadA 0 else if x.miss = 0 then toDeadA 1 else stallGrate g s
  else s

/-- The section's own stroke counter (R86); what follows its highest value is free. -/
def GrateRec.strokeCounted (x : GrateRec) : GrateRec :=
  if x.strokesLow < top16 then { x with strokesLow := x.strokesLow + 1 }
  else { x with strokesLow := 0
                strokesHigh := if x.strokesHigh < top32 then x.strokesHigh + 1 else Config.strokesAfterTop }

/-- The clinker of a G1 stroke in kg (R92). -/
def strokeClinker (s : State) : Nat :=
  match s.cooler.grates[(0 : Grate)].strokePressure with
  | none => 0
  | some p => (p * s.live.grates[(0 : Grate)].clinkerFactor / 1000).toNat

/-- A confirmed stroke is counted (R92). -/
def countStroke (g : Grate) (s : State) : State :=
  let s := addStroke g (s.onGrate g GrateRec.strokeCounted)
  if g = 0 then addClinker (strokeClinker s) s else s

/-- DEAD_A expires: RETURN begins (R90, R92). -/
def deadAExpires (g : Grate) (s : State) : State :=
  if phaseRuns s g .deadA then
    let s := s.onGrate g fun x => { x with phase := some .ret, phaseTimer := some x.active.ret }
    if s.cooler.grates[g].confirmed then countStroke g s else s
  else s

/-- RETURN expires: the return guard starts, and REST begins or the stroke ends (R90, R94, R95). -/
def returnExpires (g : Grate) (s : State) : State :=
  if phaseRuns s g .ret then
    s.onGrate g fun x =>
      let x := { x with guard := some 0 }
      match x.state with
      | .running => { x with phase := some .rest, phaseTimer := some x.active.rest }
      | .single => { x with state := .stopped, phase := none, phaseTimer := none }
      | .stopped => { x with runOut := false, phase := none, phaseTimer := none }
      | .stalled => { x with runOut := false, phase := none, phaseTimer := none }
  else s

/-- REST expires: the next FORWARD begins, or waits for the guard (R90). -/
def restExpires (g : Grate) (s : State) : State :=
  if phaseRuns s g .rest then
    let s := s.onGrate g fun x => { x with phaseTimer := none }
    if s.cooler.grates[g].guard.isSome then s else forwardStart g s
  else s

/-- The return guard runs out (R90). -/
def guardExpires (g : Grate) (s : State) : State :=
  if s.cooler.grates[g].guard.isSome then guardEnds g s else s

def execForwardExpiry (g : Grate) (s : State) : Host.Outcome State Fault Refusal :=
  .next (whenRunning (forwardExpires g) s)
def execDeadAExpiry (g : Grate) (s : State) : Host.Outcome State Fault Refusal :=
  .next (whenRunning (deadAExpires g) s)
def execReturnExpiry (g : Grate) (s : State) : Host.Outcome State Fault Refusal :=
  .next (whenRunning (returnExpires g) s)
def execRestExpiry (g : Grate) (s : State) : Host.Outcome State Fault Refusal :=
  .next (whenRunning (restExpires g) s)
def execReturnGuardEnd (g : Grate) (s : State) : Host.Outcome State Fault Refusal :=
  .next (whenRunning (guardExpires g) s)

/-- A closure of the forward end-of-stroke switch (R91). -/
def strokeSwitchCloses (g : Grate) (s : State) : State :=
  s.onGrate g fun x => if x.phase = some .forward then { x with confirmed := true } else x

/-- An arrival at A9: it joins the window of at most 10 values, or empties it when BAD (R97). -/
def handBedPressure (s : State) : State :=
  let a := s.scan.analog[(8 : AnalogIn)]
  s.onCooler fun x =>
    if a.quality = .bad then { x with window := [] }
    else { x with window := (if 10 ≤ x.window.length then x.window.drop 1 else x.window) ++ [a.value] }

/-! ## Starting and stopping a section (R88, R93 to R96) -/

/-- A section is stopped through the end of its stroke (R95). -/
def stopGrate (g : Grate) (s : State) : State :=
  s.onGrate g fun x =>
    match x.state with
    | .running =>
      if x.phase = some .rest ∨ x.phase = none then { x with state := .stopped, phase := none, phaseTimer := none }
      else { x with state := .stopped, runOut := true }
    | .single =>
      if x.phase = some .rest ∨ x.phase = none then { x with state := .stopped, phase := none, phaseTimer := none }
      else { x with state := .stopped, runOut := true }
    | .stopped => x
    | .stalled => x

/-- All three sections are stopped (R95). -/
def stopGrates (s : State) : State := forEach (List.finRange 3) stopGrate s

/-- The refusals of a start from STOPPED (R93). R93 gives them no precedence; where several hold, the first in the order of
its sentences is answered (DESIGN CHOICE, log entry 52). -/
def startRefusal (s : State) (g : Grate) : Option Reason :=
  if s.floor.mode = .standby then some .standby
  else if s.floor.mode = .settle then some .unsettled
  else if !stopLoopClosed s then some .emergencyStop
  else if g = 2 ∧ crusherRuns s = false then some .crusherStopped
  else none

/-- A section in STOPPED is started: its run-out goes on as the stroke, or its first FORWARD begins, at once or after the
return guard (R93, R94). -/
def startGrateStroke (g : Grate) (state : GrateState) (s : State) : State :=
  let x := s.cooler.grates[g]
  let t := s.onGrate g fun x => { x with state := state, runOut := false }
  if x.runOut then t
  else if x.guard.isSome then t.onGrate g fun x => { x with phase := some .rest, phaseTimer := none }
  else forwardStart g t

/-- GRATE RUN of a section (R93). -/
def grateRun (g : Grate) : Service := fun s =>
  match s.cooler.grates[g].state with
  | .running => (s, done [])
  | .single => (s.onGrate g fun x => { x with state := .running }, done [])
  | .stalled => (s, refusedFor .stalled)
  | .stopped =>
    match startRefusal s g with
    | some r => (s, refusedFor r)
    | none => (startGrateStroke g .running s, done [])

/-- GRATE SINGLE of a section (R94). A RUNNING section that waits in REST for the return guard before its first FORWARD, with
no stroke in progress (R93), goes to STOPPED as one whose stroke is in REST does (DESIGN CHOICE, log entry 53). -/
def grateSingle (g : Grate) : Service := fun s =>
  match s.cooler.grates[g].state with
  | .running =>
    (s.onGrate g fun x =>
      if x.phase = some .rest then { x with state := .stopped, phase := none, phaseTimer := none }
      else { x with state := .single }, done [])
  | .single => (s, done [])
  | .stalled => (s, refusedFor .stalled)
  | .stopped =>
    match startRefusal s g with
    | some r => (s, refusedFor r)
    | none => (startGrateStroke g .single s, done [])

/-- GRATE STOP of a section (R95). -/
def grateStop (g : Grate) : Service := fun s => (stopGrate g s, done [])

/-- GRATE RESET of a section (R96). -/
def grateReset (g : Grate) : Service := fun s =>
  match s.cooler.grates[g].state with
  | .stalled =>
    (reportCond (stallPoint g) false
      (s.onGrate g fun x => { x with state := .stopped, phase := none, phaseTimer := none, runOut := false, miss := 0 }),
     done [])
  | .running => (s, done [])
  | .single => (s, done [])
  | .stopped => (s, done [])

/-- The effect of COOLER SET on a section whose five settings have just been stored (R88, steps 2 and 3). -/
def restage (g : Grate) (s : State) : State :=
  let set := s.live.grates[g]
  let s := if set.mode = .manual then s.onGrate g fun x => { x with rate := set.manualRate } else s
  stageTiming g (timingFor s.cooler.grates[g].rate set) s

/-- A request that names a section, 1 to 3; another number is answered RANGE. -/
def forGrate (k : Nat) (f : Grate → Service) : Service := fun s =>
  match instNo 3 k with
  | none => (s, plain .range)
  | some g => f g s

/-- COOLER SET (R88). -/
def coolerSet (mode rate forward ret dead : Nat) (g : Grate) : Service := fun s =>
  if inRange (.grate g .mode) mode && inRange (.grate g .manualRate) rate && inRange (.grate g .forward) forward
     && inRange (.grate g .ret) ret && inRange (.grate g .dead) dead then
    (restage g (s.onLive fun l =>
      { l with grates := upd l.grates g fun x =>
        { x with mode := modeOf mode, manualRate := rate, forward := forward, ret := ret, dead := dead } }),
     done [])
  else (s, plain .range)

def execCoolerSet (grate mode rate forward ret dead : Nat) (s : State) : Host.Outcome State Fault Refusal :=
  .next (takeRequest (forGrate grate (coolerSet mode rate forward ret dead)) s)
def execGrateRun (grate : Nat) (s : State) : Host.Outcome State Fault Refusal :=
  .next (takeRequest (forGrate grate grateRun) s)
def execGrateSingle (grate : Nat) (s : State) : Host.Outcome State Fault Refusal :=
  .next (takeRequest (forGrate grate grateSingle) s)
def execGrateStop (grate : Nat) (s : State) : Host.Outcome State Fault Refusal :=
  .next (takeRequest (forGrate grate grateStop) s)
def execGrateReset (grate : Nat) (s : State) : Host.Outcome State Fault Refusal :=
  .next (takeRequest (forGrate grate grateReset) s)

end Sys2Proof.Machine
end

