-- ==== Sys2Proof/Machine/Inputs.lean ====
section
/-! DEFINITION. The Input Scanner: arrivals, quality, limits, encoders, discrete inputs and forcing (R3 to R18). -/

namespace Sys2Proof.Machine

/-! ## Values and limits (R4, R8) -/

/-- The value that a sample scales to (R4). -/
def scaled (set : InputSet) (sample : Nat) : Int :=
  set.scaleLow + (sample : Int) * (set.scaleHigh - set.scaleLow) / 4095

/-- The low condition after an evaluation of a value (R8). -/
def lowAfter (set : InputSet) (v : Int) (cond : Bool) : Bool :=
  if v < set.lowLimit then true else if set.lowLimit + set.hysteresis ≤ v then false else cond

/-- The high condition after an evaluation of a value (R8). -/
def highAfter (set : InputSet) (v : Int) (cond : Bool) : Bool :=
  if set.highLimit < v then true else if v ≤ set.highLimit - set.hysteresis then false else cond

/-- An evaluation of the two limit conditions, each change of which is reported, the low point's first (R8). -/
def evaluate (i : AnalogIn) (s : State) : State :=
  let x := s.scan.analog[i]
  let set := s.live.inputs[i]
  let low := lowAfter set x.value x.lowCond
  let high := highAfter set x.value x.highCond
  let s := s.onAnalog i fun x => { x with lowCond := low, highCond := high }
  let s := if low = x.lowCond then s else reportCond (lowPoint i) low s
  if high = x.highCond then s else reportCond (highPoint i) high s

/-! ## Handing over (R7) -/

/-- The record of an input is handed to its consumers (R7). `arrival` is false for a change of quality alone, which a
consumer that counts or collects arrivals (R71, R73, R81, R97) does not count. -/
def handOver (i : AnalogIn) (arrival : Bool) (s : State) : State :=
  if h : i.val < 6 then handLoadCell ⟨i.val, h⟩ arrival s
  else if i = 6 then (if arrival then handFlame .main s else s)
  else if i = 7 then (if arrival then handFlame .calciner s else s)
  else if i = 8 then (if arrival then handBedPressure s else s)
  else if i = 20 then (if arrival then handInlet s else s)
  else if i = 21 then handDraught .calciner (handDraught .main s)
  else s

/-! ## Arrivals (R3, R6, R16) -/

/-- Is a sample in range (R3)? -/
def sampleInRange (sample : Nat) : Bool := decide (1 ≤ sample ∧ sample ≤ 4094)

/-- The quality that a judgement stands for (R6). -/
def Judged.quality : Judged → Quality
  | .good => .good
  | .bad => .bad

/-- A judged record: in SETTLE an UNSETTLED input keeps the judgement, else it becomes the quality (R3, R6). -/
def AnalogRec.judgedBy (x : AnalogRec) (j : Judged) (settling : Bool) : AnalogRec :=
  if x.quality = .unsettled ∧ settling = true then { x with judged := some j }
  else { x with quality := j.quality, judged := none }

/-- The record of an input after an arrival (R3, R16). -/
def AnalogRec.arrived (x : AnalogRec) (set : InputSet) (sample : Nat) (settling : Bool) : AnalogRec :=
  let x := { x with raw := some sample }
  match x.force with
  | some _ => { x with value := scaled set x.lastGood }
  | none =>
    if sampleInRange sample then
      { x with lastGood := sample, value := scaled set sample }.judgedBy .good settling
    else { x with value := scaled set x.lastGood }.judgedBy .bad settling

/-- A sample arrives: the record, the limits unless the sample is out of range, and the hand-over (R3, R16). The hand-over is
always taken before the trip of a limit point that the arrival makes present, an order that section 4.8 of the spec leaves
open (DESIGN CHOICE, log entry 45). -/
def takeSample (i : AnalogIn) (sample : Nat) (s : State) : State :=
  let evaluated := (s.scan.analog[i].force).isSome || sampleInRange sample
  let s := s.onAnalog i fun x => x.arrived s.live.inputs[i] sample (decide (s.floor.mode = .settle))
  handOver i true (if evaluated then evaluate i s else s)

def execAnalogSampleArrival (i : AnalogIn) (sample : Nat) (s : State) : Host.Outcome State Fault Refusal :=
  .next (whenRunning (takeSample i sample) s)

/-! ## SETTLE (R6) -/

/-- The entry to SETTLE at one input (R6). -/
def unsettleInput (i : AnalogIn) (s : State) : State :=
  if (s.scan.analog[i].force).isSome then s
  else handOver i false (s.onAnalog i fun x => { x with quality := .unsettled, judged := none })

/-- The entry to SETTLE at every input (R6). -/
def unsettleInputs (s : State) : State := forEach (List.finRange 22) unsettleInput s

/-- The settle expiry at one input (R6). -/
def settleInput (i : AnalogIn) (s : State) : State :=
  let x := s.scan.analog[i]
  match x.quality, x.judged with
  | .unsettled, some j => handOver i false (s.onAnalog i fun x => { x with quality := j.quality, judged := none })
  | _, _ => s

/-- The settle expiry at every input (R6). -/
def settleInputs (s : State) : State := forEach (List.finRange 22) settleInput s

/-! ## Pulse inputs (R10) -/

/-- The pair observed after one count of +1 (R10). -/
def nextPair (p : Bool × Bool) : Bool × Bool := (!p.2, p.1)

/-- The signed 32-bit range, at whose ends a count stops (R10). -/
def clampS32 (v : Int) : Int := clampInt (-2147483648) 2147483647 v

/-- The record after its signals take these levels (R10). -/
def PulseRec.observed (x : PulseRec) (a b : Bool) : PulseRec :=
  let old := (x.levelA, x.levelB)
  let y := { x with levelA := a, levelB := b }
  if (a, b) = old then y
  else if (a, b) = nextPair old then { y with count := clampS32 (x.count + 1) }
  else if old = nextPair (a, b) then { y with count := clampS32 (x.count - 1) }
  else { y with errors := satInc top16 x.errors }

/-- The signals of an encoder change: counted while the IS runs; while it is stopped only the levels move (R10, R20). -/
def takeEdge (e : PulseIn) (a b : Bool) (s : State) : State :=
  if s.phase = .running then s.onPulse e fun x => x.observed a b
  else s.onPulse e fun x => { x with levelA := a, levelB := b }

def execQuadratureEdge (e : PulseIn) (a b : Bool) (s : State) : Host.Outcome State Fault Refusal :=
  .next (takeEdge e a b s)

/-! ## Discrete inputs (R12 to R14) -/

/-- The record after its pin takes a level while the IS runs (R12). -/
def DiscreteRec.moved (x : DiscreteRec) (level : Bool) : DiscreteRec :=
  { x with pin := level, timer := if level = x.debounced then none else some (x.timer.getD 20) }

/-- A pin moves: debounced while the IS runs; while it is stopped only the pin moves (R12, R20). -/
def movePin (d : DiscreteIn) (level : Bool) (s : State) : State :=
  if s.phase = .running then s.onDiscrete d fun x => x.moved level
  else s.onDiscrete d fun x => { x with pin := level }

def execDiscretePinChange (d : DiscreteIn) (level : Bool) (s : State) : Host.Outcome State Fault Refusal :=
  .next (movePin d level s)

/-- The stop loop has opened (R13). -/
def emergencyStop (s : State) : State :=
  let s := reportCond (pt 79) true s
  let s := s.onHanded fun l => l ++ [(.main, .emergencyStop), (.calciner, .emergencyStop)]
  abortStages .emergencyStop (stopGrates s)

/-- The clinker crusher has stopped (R14). -/
def crusherStopped (s : State) : State := enteringEvent (stopGrate 2 (reportCond (pt 80) true s))

/-- A change event of a discrete input (R12, R13, R14). -/
def discreteChanged (d : DiscreteIn) (level : Bool) (s : State) : State :=
  if h : d.val < 3 then (if level then strokeSwitchCloses ⟨d.val, h⟩ s else s)
  else if d = 3 then (if level then reportCond (pt 79) false s else emergencyStop s)
  else if level then reportCond (pt 80) false s
  else crusherStopped s

/-- The debounce timer expires: the debounced state takes the pin level (R12). -/
def debounceExpires (d : DiscreteIn) (s : State) : State :=
  let x := s.scan.discrete[d]
  if x.timer.isSome then
    let s := s.onDiscrete d fun x => { x with debounced := x.pin, timer := none }
    if x.pin = x.debounced then s else discreteChanged d x.pin s
  else s

def execDebounceExpiry (d : DiscreteIn) (s : State) : Host.Outcome State Fault Refusal :=
  .next (whenRunning (debounceExpires d) s)

/-! ## Forcing (R15 to R18) -/

/-- How many inputs are forced (R15). -/
def forceCount (s : State) : Nat :=
  s.scan.analog.toList.countP (fun x => x.force.isSome) + s.scan.pulse.toList.countP (fun x => x.force.isSome)

/-- Is an input forced? -/
def anyForced (s : State) : Bool := decide (0 < forceCount s)

/-- The forced-input second of a plan-cycle expiry (R15). -/
def forcedSecond (s : State) : State := if anyForced s then addForcedSecond s else s

/-- Point 82 follows the force set, which was empty or not before (R15). -/
def reportForced (before : Bool) (s : State) : State :=
  if anyForced s = before then s else reportCond (pt 82) (anyForced s) s

/-- A force of an analog input is accepted (R16). -/
def forceAnalog (i : AnalogIn) (v : Nat) (s : State) : State :=
  let before := anyForced s
  let s := s.onAnalog i fun x =>
    { x with force := some v, lastGood := v, value := scaled s.live.inputs[i] v, quality := .forced, judged := none }
  handOver i false (evaluate i (reportForced before s))

/-- A force of a pulse input is accepted (R17). -/
def forcePulse (e : PulseIn) (v : Int) (s : State) : State :=
  let before := anyForced s
  reportForced before (s.onPulse e fun x => { x with force := some v })

/-- Is the input a flame input whose burner is not OFF (R16)? -/
def flameForceRefused (s : State) (i : AnalogIn) : Bool :=
  decide ((i = 6 ∧ s.burns.main.state ≠ .off) ∨ (i = 7 ∧ s.burns.calciner.state ≠ .off))

/-- INPUT FORCE (R16, R17): a value out of range is answered before a burner that is not OFF, a precedence that R16 does not
state (DESIGN CHOICE, log entry 43). -/
def inputForce (cls number : Nat) (value : Int) : Service := fun s =>
  if cls = 0 then
    match instNo 22 number with
    | none => (s, plain .range)
    | some i =>
      if 1 ≤ value ∧ value ≤ 4094 then
        if flameForceRefused s i then (s, refusedFor .burnerActive) else (forceAnalog i value.toNat s, done [])
      else (s, plain .range)
  else if cls = 1 then
    match instNo 6 number with
    | none => (s, plain .range)
    | some e =>
      if -100000 ≤ value ∧ value ≤ 100000 then (forcePulse e value s, done []) else (s, plain .range)
  else (s, plain .range)

/-- A forced analog input is released (R18). -/
def releaseAnalog (i : AnalogIn) (s : State) : State :=
  if (s.scan.analog[i].force).isSome then
    let before := anyForced s
    let s := s.onAnalog i fun x => { x with force := none, quality := .unsettled, judged := none }
    handOver i false (reportForced before s)
  else s

/-- A forced pulse input is released (R18). -/
def releasePulse (e : PulseIn) (s : State) : State :=
  let before := anyForced s
  reportForced before (s.onPulse e fun x => { x with force := none })

/-- INPUT RELEASE (R18). -/
def inputRelease (cls number : Nat) : Service := fun s =>
  if cls = 0 then
    match instNo 22 number with
    | none => (s, plain .range)
    | some i => (releaseAnalog i s, done [])
  else if cls = 1 then
    match instNo 6 number with
    | none => (s, plain .range)
    | some e => (releasePulse e s, done [])
  else (s, plain .range)

def execInputForce (cls number : Nat) (value : Int) (s : State) : Host.Outcome State Fault Refusal :=
  .next (takeRequest (inputForce cls number value) s)
def execInputRelease (cls number : Nat) (s : State) : Host.Outcome State Fault Refusal :=
  .next (takeRequest (inputRelease cls number) s)

end Sys2Proof.Machine
end

