-- ==== Sys2Proof/Machine/FloorModes.lean ====
section
/-! DEFINITION. The Floor Supervisor: supervision, FALLBACK, STANDBY and SETTLE (R149 to R157). -/

namespace Sys2Proof.Machine

/-! ## Supervision and FALLBACK (R150 to R153) -/

/-- A burner's requested demand is written. -/
def writeRequest (b : Burner) (heat : Nat) (s : State) : State := s.onDemand b fun d => { d with hReq := heat }

/-- Entry to FALLBACK (R152). -/
def enterFallback (s : State) : State :=
  let s := s.onFloor fun x => { x with mode := .fallback, stage := some .frozen }
  let s := forEach bothBurners (fun b t => writeRequest b (t.planner.demand.get b).hApp t) s
  let s := abortStages .linkLost s
  s.onFloor fun x => { x with grace := some (s.live.graceTime * 1000) }

/-- The link is found lost: the condition of point 81 becomes present (R151). -/
def linkFoundLost (s : State) : State := reportCond (pt 81) true (s.onFloor fun x => { x with linkLost := true })

/-- The supervision timer expires (R151). -/
def supervisionExpires (s : State) : State :=
  if s.floor.supervision.isSome then
    let s := s.onFloor fun x => { x with supervision := none }
    match s.floor.mode with
    | .normal => enterFallback (linkFoundLost s)
    | .standby => linkFoundLost s
    | .settle => linkFoundLost s
    | .fallback => s
  else s

/-- The link is found again (R150, step 2). -/
def linkFoundAgain (s : State) : State :=
  if s.floor.linkLost then reportCond (pt 81) false (s.onFloor fun x => { x with linkLost := false }) else s

/-- The floor returns from FALLBACK to NORMAL (R153). -/
def leaveFallback (s : State) : State :=
  if s.floor.mode = .fallback then s.onFloor fun x => { x with mode := .normal, stage := none, grace := none } else s

/-- A valid frame is handed to the supervisor (R150). -/
def validFrame (s : State) : State :=
  let s := s.onFloor fun x => { x with supervision := some (s.live.supervisionTime * 1000) }
  leaveFallback (linkFoundAgain s)

/-- The grace timer expires in FALLBACK (R152). -/
def graceExpires (s : State) : State :=
  if s.floor.mode = .fallback ∧ s.floor.grace.isSome then
    let s := s.onFloor fun x => { x with stage := some .lowered, grace := none }
    forEach bothBurners
      (fun b t => writeRequest b (min (t.planner.demand.get b).hApp (t.live.burners.get b).fallbackHeat) t) s
  else s

/-! ## STANDBY and SETTLE (R154 to R156) -/

/-- Entry to STANDBY (R155); a settle timer that runs is stopped (R154). -/
def enterStandbyMode (s : State) : State :=
  let s := s.onFloor fun x => { x with mode := .standby, stage := none, grace := none, settle := none }
  let s := forEach (List.finRange 8) fanToStandby (stopGrates s)
  channelsToOut s

/-- ENTER STANDBY (R154). -/
def enterStandby : Service := fun s =>
  if s.floor.mode = .standby then (s, done [])
  else if s.burns.main.state ≠ .off ∨ s.burns.calciner.state ≠ .off then (s, refusedFor .burnerActive)
  else if urgentUnacked s then (s, plain .notEntered)
  else (enterStandbyMode s, done [])

/-- LEAVE STANDBY (R156). -/
def leaveStandby : Service := fun s =>
  if s.floor.mode = .standby then
    (unsettleInputs (s.onFloor fun x => { x with mode := .settle, settle := some 2000 }), done [])
  else (s, done [])

/-- The settle timer expires (R156). -/
def settleExpires (s : State) : State :=
  if s.floor.mode = .settle ∧ s.floor.settle.isSome then
    let s := settleInputs (s.onFloor fun x => { x with mode := .normal, settle := none })
    let s := fansResume s
    if s.floor.linkLost then enterFallback s else s
  else s

/-! ## Time in each mode (R157) -/

/-- The second that a plan-cycle expiry finds (R157). -/
def modeSecond (s : State) : State :=
  match s.floor.mode with
  | .normal => s
  | .fallback => addFallbackSecond s
  | .standby => addStandbySecond s
  | .settle => addStandbySecond s

def execSupervisionExpiry (s : State) : Host.Outcome State Fault Refusal := .next (whenRunning supervisionExpires s)
def execGraceExpiry (s : State) : Host.Outcome State Fault Refusal := .next (whenRunning graceExpires s)
def execSettleExpiry (s : State) : Host.Outcome State Fault Refusal := .next (whenRunning settleExpires s)
def execEnterStandby (s : State) : Host.Outcome State Fault Refusal := .next (takeRequest enterStandby s)
def execLeaveStandby (s : State) : Host.Outcome State Fault Refusal := .next (takeRequest leaveStandby s)

end Sys2Proof.Machine
end

