-- ==== Sys2Proof/Machine/PlanCycle.lean ====
section
/-! DEFINITION. The plan-cycle expiry: the one event in which the blocks do their work of a second (R21). -/

namespace Sys2Proof.Machine

/-- What the plan-cycle expiry does, in the order of R21: the plans and the dosing, and then the seconds and the cooler. -/
def planCycle (s : State) : State :=
  modeSecond (coolerCycle (firingSeconds (forcedSecond (planAndDose s))))

/-- The plan-cycle timer expires, and starts again (R21). -/
def planCycleExpires (s : State) : State :=
  if s.planner.planTimer.isSome then planCycle (s.onPlanner fun x => { x with planTimer := some 1000 }) else s

def execPlanCycleExpiry (s : State) : Host.Outcome State Fault Refusal := .next (whenRunning planCycleExpires s)

end Sys2Proof.Machine
end

