-- ==== Sys2Proof/Machine/ShiftTotals.lean ====
section
/-! DEFINITION. The Shift Totaliser: the clock, closing a shift, the ring, report records and transfers (R133 to R147). -/

namespace Sys2Proof.Machine

/-! ## Closing (R139, R141) -/

/-- The ring with a report added as its newest (R141). -/
def ringAdd (ring : List Report) (r : Report) : List Report :=
  (if 4 ≤ ring.length then ring.drop 1 else ring) ++ [r]

/-- The sequence number after `n` (R141); what follows the highest 32-bit one is free. -/
def sequenceAfter (n : Nat) : Nat := if n < top32 then n + 1 else Config.sequenceAfterTop

/-- The report of the running shift as it stands (R139, R144). -/
def runningReport (reason : CloseReason) (s : State) : Report :=
  { seq := s.shift.nextSeq, reason := reason, startClock := s.shift.startClock, endClock := shiftClock s,
    duration := s.shift.shiftSeconds, totals := s.shift.totals }

/-- The shift closes, in the five steps of R139. -/
def closeShift (reason : CloseReason) (s : State) : State :=
  let r := runningReport reason s
  let s := s.onShift fun x =>
    { x with ring := ringAdd x.ring r, nextSeq := sequenceAfter x.nextSeq, totals := {}, shiftSeconds := 0,
             startClock := r.endClock, unopened := true }
  closeAlarms s

/-! ## The clock (R133 to R135) -/

/-- The clock one second later (R133). -/
def Shift.ticked (x : Shift) : Shift :=
  { x with
    seconds := if 86399 ≤ x.seconds then 0 else x.seconds + 1
    day := if 86399 ≤ x.seconds then satInc 65535 x.day else x.day
    shiftSeconds := satInc top32 x.shiftSeconds
    secondTimer := some 1000 }

/-- Is the minute of the day a boundary minute (R135)? -/
def isBoundaryMinute (start length minute : Nat) : Bool :=
  decide ((minute + 1440 - start % 1440) % 1440 % length = 0)

/-- The boundary test (R135). -/
def boundaryTest (s : State) : Bool :=
  s.shift.isSet && decide (s.shift.seconds % 60 = 0)
  && isBoundaryMinute s.live.shiftStart s.live.shiftLength (s.shift.seconds / 60)

/-- The second timer expires: the clock, the boundary, the minute event (R133, R135). -/
def secondExpires (s : State) : State :=
  if s.shift.secondTimer.isSome then
    let s := s.onShift Shift.ticked
    let s := if boundaryTest s then closeShift .boundary s else s
    if s.shift.seconds % 60 = 0 then minuteEvent s else s
  else s

def execSecondTimerExpiry (s : State) : Host.Outcome State Fault Refusal := .next (whenRunning secondExpires s)

/-- CLOCK SET (R134). -/
def clockSet (seconds day : Nat) : Service := fun s =>
  if seconds ≤ 86399 ∧ day ≤ 65535 then
    let s := s.onShift fun x => { x with seconds := seconds, day := day, isSet := true, secondTimer := some 1000 }
    (s, done (clockBytes (shiftClock s)))
  else (s, plain .range)

/-- SHIFT CLOSE (R136). -/
def shiftClose : Service := fun s => (closeShift .command s, done (be 4 s.shift.nextSeq))

def execClockSet (seconds day : Nat) (s : State) : Host.Outcome State Fault Refusal :=
  .next (takeRequest (clockSet seconds day) s)
def execShiftClose (s : State) : Host.Outcome State Fault Refusal := .next (takeRequest shiftClose s)

/-! ## Report records (R142, R143, R145, R177) -/

/-- A field of a record: its width in bytes and its value. -/
abbrev RecField := Nat × Nat

/-- The channels whose in-service mark is set, in channel order (R142). -/
def presentChannels (t : Totals) : List Channel := (List.finRange 6).filter fun c => t.chans[c].mark

/-- The channel presence mask (R177). -/
def presenceMask (t : Totals) : Nat := bits (t.chans.toList.map ChanTotal.mark)

/-- The totals of a channel, all zeros where it is absent (R145). -/
def chanTotalOf (t : Totals) (c : Channel) : ChanTotal := if t.chans[c].mark then t.chans[c] else {}

/-- The four fields of a channel (R177). -/
def chanFields (x : ChanTotal) : List RecField := [(8, x.grams), (8, x.kj), (4, x.dosing), (4, x.deviations)]

/-- The five fields of a burner (R177). -/
def burnFields (x : BurnTotal) : List RecField :=
  [(8, x.kj), (4, x.firing), (4, x.trips), (4, x.shortfall), (8, x.surplus)]

/-- The strokes of a section as a 48-bit count (R142). -/
def Strokes.count (x : Strokes) : Nat := x.high * 65536 + x.low

/-- The fields of the four groups after the channels (R177). -/
def groupFields (t : Totals) : List RecField :=
  burnFields t.burns.main ++ burnFields t.burns.calciner
  ++ t.strokes.toList.map (fun x => (6, x.count))
  ++ [(8, t.clinker), (4, t.overload)]
  ++ t.prio.toList.map (fun n => (4, n))
  ++ [(4, t.suppressed), (1, t.maxWaiting), (4, t.forced), (4, t.fallback), (4, t.standby)]

/-- The fields of a record over the covered channels, in the order of R177, the specific heat apart. -/
def recordFields (covered : List Channel) (t : Totals) : List RecField :=
  covered.flatMap (fun c => chanFields (chanTotalOf t c)) ++ groupFields t

/-- The fields as bytes. -/
def fieldBytes (l : List RecField) : List Byte := l.flatMap fun f => be f.1 f.2

/-- The specific heat in kJ per kg, present when the clinker is above 0 (R143). -/
def specificHeat (t : Totals) : Option Nat :=
  if 0 < t.clinker then some (min top32 ((t.burns.main.kj + t.burns.calciner.kj) / t.clinker)) else none

/-- The header of a record (R177). -/
def header (r : Report) (form : Form) (fallback heat : Bool) (older : Option Nat) : List Byte :=
  be 4 r.seq ++ be 1 r.reason.code ++ be 1 form.code ++ be 1 (bits [fallback, heat]) ++ beOr1 4 older
  ++ clockBytes r.startClock ++ clockBytes r.endClock ++ be 4 r.duration ++ be 1 (presenceMask r.totals)

/-- A record in FULL (R142, R177). -/
def fullRecord (r : Report) (fallback : Bool) : List Byte :=
  header r .full fallback (specificHeat r.totals).isSome none
  ++ (presentChannels r.totals).flatMap (fun c => be 1 (c.val + 1) ++ fieldBytes (chanFields r.totals.chans[c]))
  ++ fieldBytes (groupFields r.totals)
  ++ (match specificHeat r.totals with | none => [] | some h => be 4 h)

/-- The channels covered by a comparison: those present in either report (R145). -/
def coveredChannels (a b : Totals) : List Channel :=
  (List.finRange 6).filter fun c => a.chans[c].mark || b.chans[c].mark

/-- Marks in bytes, the first in the high bit of the first byte, padded with zero bits (R177). -/
def packMarks (l : List Bool) : List Byte :=
  (List.range ((l.length + 7) / 8)).map fun k =>
    BitVec.ofNat 8 (((List.range 8).map fun j => if (l[8 * k + j]?).getD false then 2 ^ (7 - j) else 0).sum)

/-- Is the specific heat carried in DELTA (R145)? -/
def heatDiffers (a b : Option Nat) : Bool := a.isSome && decide (a ≠ b)

/-- A record in DELTA against an older report (R145, R177). -/
def deltaRecord (r older : Report) : List Byte :=
  let covered := coveredChannels r.totals older.totals
  let pairs := (recordFields covered r.totals).zip (recordFields covered older.totals)
  let heat := specificHeat r.totals
  let heatMark := heatDiffers heat (specificHeat older.totals)
  header r .delta false heat.isSome (some older.seq) ++ be 1 (presenceMask older.totals)
  ++ packMarks (pairs.map (fun p => decide (p.1.2 ≠ p.2.2)) ++ [heatMark])
  ++ fieldBytes ((pairs.filter fun p => decide (p.1.2 ≠ p.2.2)).map Prod.fst)
  ++ (if heatMark then be 4 (heat.getD 0) else [])

/-- A difference as a signed 64-bit number, clamped to that range (R145). -/
def difference (a b : Nat) : List Byte :=
  beS 8 (clampInt (-9223372036854775808) 9223372036854775807 ((a : Int) - b))

/-- The difference of the specific heats, present when both reports have one (R145). -/
def heatDifference (a b : Option Nat) : Option (List Byte) :=
  match a, b with
  | some x, some y => some (difference x y)
  | _, _ => none

/-- A record in COMPARE against an older report (R145, R177). -/
def compareRecord (r older : Report) : List Byte :=
  let covered := coveredChannels r.totals older.totals
  let pairs := (recordFields covered r.totals).zip (recordFields covered older.totals)
  let heat := heatDifference (specificHeat r.totals) (specificHeat older.totals)
  header r .compare false heat.isSome (some older.seq) ++ be 1 (presenceMask older.totals)
  ++ pairs.flatMap (fun p => difference p.1.2 p.2.2) ++ heat.getD []

/-- The transfer of a report in a form, against the report one older where the ring holds it (R144, R145). -/
def composeTransfer (closed : Bool) (r : Report) (older : Option Report) (form : Form) : Transfer :=
  match form, older with
  | .delta, some o =>
    { closed := closed, seq := r.seq, form := .delta, fallback := false, older := some o.seq, record := deltaRecord r o }
  | .compare, some o =>
    { closed := closed, seq := r.seq, form := .compare, fallback := false, older := some o.seq,
      record := compareRecord r o }
  | .full, _ =>
    { closed := closed, seq := r.seq, form := .full, fallback := false, older := none, record := fullRecord r false }
  | .delta, none =>
    { closed := closed, seq := r.seq, form := .full, fallback := true, older := none, record := fullRecord r true }
  | .compare, none =>
    { closed := closed, seq := r.seq, form := .full, fallback := true, older := none, record := fullRecord r true }

/-! ## Transfers (R144, R146) -/

/-- The closed report at a position, counted from the newest (R141). -/
def ringAt (s : State) (k : Nat) : Option Report := s.shift.ring.reverse[k]?

/-- The part count of a record (R146). -/
def partCount (record : List Byte) : Nat := (record.length + 99) / 100

/-- The reply of an accepted REPORT OPEN (R176). -/
def openReply (t : Transfer) : List Byte :=
  be 4 t.seq ++ be 1 t.form.code ++ be 1 (firstCode t.fallback) ++ beOr1 4 t.older ++ be 2 t.record.length
  ++ be 1 (partCount t.record)

/-- A transfer is opened; `newest` says that its source is the newest closed report (R144, R147). -/
def openTransfer (t : Transfer) (newest : Bool) (s : State) : State :=
  s.onShift fun x => { x with transfer := some t, unopened := x.unopened && !newest }

/-- REPORT OPEN (R144). -/
def reportOpen (source form : Nat) : Service := fun s =>
  match formOf form with
  | none => (s, plain .range)
  | some f =>
    if source = 16 then
      let t := composeTransfer false (runningReport .running s) (ringAt s 0) f
      (openTransfer t false s, done (openReply t))
    else if source ≤ 3 then
      match ringAt s source with
      | none => (s, plain .range)
      | some r =>
        let t := composeTransfer true r (ringAt s (source + 1)) f
        (openTransfer t (decide (source = 0)) s, done (openReply t))
    else (s, plain .range)

/-- REPORT PART (R146). -/
def reportPart (part : Nat) : Service := fun s =>
  match s.shift.transfer with
  | none => (s, plain .noTransfer)
  | some t =>
    if t.closed && !s.shift.ring.any (fun r => decide (r.seq = t.seq)) then
      (s.onShift fun x => { x with transfer := none }, plain .gone)
    else if part = 0 ∨ partCount t.record < part then (s, plain .range)
    else (s, done (be 1 part ++ be 1 (partCount t.record) ++ (t.record.drop (100 * (part - 1))).take 100))

/-- A link break closes the open transfer (R146, R167). -/
def closeTransfer (s : State) : State := s.onShift fun x => { x with transfer := none }

def execReportOpen (source form : Nat) (s : State) : Host.Outcome State Fault Refusal :=
  .next (takeRequest (reportOpen source form) s)
def execReportPart (part : Nat) (s : State) : Host.Outcome State Fault Refusal := .next (takeRequest (reportPart part) s)

end Sys2Proof.Machine
end

