-- ==== Sys2Proof/Machine/AlarmRequests.lean ====
section
/-! DEFINITION. The requests of the Alarm Table and the shelve expiry (R118 to R130). -/

namespace Sys2Proof.Machine

/-- A request that names a point, 1 to 96; another number is answered RANGE. -/
def forPoint (k : Nat) (f : Point → Service) : Service := fun s =>
  match instNo 96 k with
  | none => (s, plain .range)
  | some p => f p s

/-- The point on top of the list. -/
def topPoint (s : State) : Option Point := s.alarm.list.head?

/-- ALARM ACK TOP (R126). R176 gives the point number no width: one byte (DESIGN CHOICE, log entry 48). -/
def ackTop : Service := fun s =>
  match topPoint s with
  | none => (s, done (be 1 0))
  | some p => (ackPoint p s, done (be 1 (pointNo p)))

/-- ALARM ACK POINT of a point (R127). -/
def ackOne (p : Point) : Service := fun s => (ackPoint p s, done [])

/-- ALARM ACK ALL (R128). R176 gives the count no width: one byte (DESIGN CHOICE, log entry 48). -/
def ackEvery : Service := fun s => (ackAll s, done (be 1 (unackedCount s)))

/-- The minutes that a duration stands for (R118). -/
def shelveMinutes (s : State) (duration : Nat) : Nat := if duration = 0 then s.live.shelveDefault else min duration 480

/-- ALARM SHELVE of a point (R118). -/
def shelve (duration : Nat) (p : Point) : Service := fun s =>
  if tripTarget s p ≠ .noTrip then (s, refusedFor .tripPoint)
  else if s.alarm.points[p].state = .disabled then (s, refusedFor .disabled)
  else (shelvePoint p (shelveMinutes s duration) s, if duration ≤ 480 then done [] else clampedWith [])

/-- ALARM UNSHELVE of a point (R119). -/
def unshelve (p : Point) : Service := fun s => (expireShelve p s, done [])

/-- Is a burner of the target in a state other than OFF (R111, R120)? -/
def targetBurnerActive (s : State) (t : TripTarget) : Bool :=
  bothBurners.any fun b => t.includes b && decide ((s.burns.get b).state ≠ .off)

/-- ALARM DISABLE of a point (R120). -/
def disable (p : Point) : Service := fun s =>
  if targetBurnerActive s (tripTarget s p) then (s, refusedFor .burnerActive)
  else (disablePoint p s, done [])

/-- ALARM ENABLE of a point (R121). -/
def enable (p : Point) : Service := fun s =>
  (if s.alarm.points[p].state = .disabled then resumePoint p s else s, done [])

/-- ALARM RAISE and ALARM CLEAR of a point (R129). -/
def external (present : Bool) (p : Point) : Service := fun s =>
  if p.val + 1 ≤ 83 then (s, refusedFor .notExternal) else (reportCond p present s, done [])

/-- HORN SILENCE (R125). -/
def silence : Service := fun s => (s.onAlarm fun t => { t with silenced := true }, done [])

def execShelveExpiry (p : Point) (s : State) : Host.Outcome State Fault Refusal :=
  .next (whenRunning (expireShelve p) s)
def execAlarmAckTop (s : State) : Host.Outcome State Fault Refusal := .next (takeRequest ackTop s)
def execAlarmAckPoint (point : Nat) (s : State) : Host.Outcome State Fault Refusal :=
  .next (takeRequest (forPoint point ackOne) s)
def execAlarmAckAll (s : State) : Host.Outcome State Fault Refusal := .next (takeRequest ackEvery s)
def execAlarmShelve (point duration : Nat) (s : State) : Host.Outcome State Fault Refusal :=
  .next (takeRequest (forPoint point (shelve duration)) s)
def execAlarmUnshelve (point : Nat) (s : State) : Host.Outcome State Fault Refusal :=
  .next (takeRequest (forPoint point unshelve) s)
def execAlarmDisable (point : Nat) (s : State) : Host.Outcome State Fault Refusal :=
  .next (takeRequest (forPoint point disable) s)
def execAlarmEnable (point : Nat) (s : State) : Host.Outcome State Fault Refusal :=
  .next (takeRequest (forPoint point enable) s)
def execAlarmRaise (point : Nat) (s : State) : Host.Outcome State Fault Refusal :=
  .next (takeRequest (forPoint point (external true)) s)
def execAlarmClear (point : Nat) (s : State) : Host.Outcome State Fault Refusal :=
  .next (takeRequest (forPoint point (external false)) s)
def execHornSilence (s : State) : Host.Outcome State Fault Refusal := .next (takeRequest silence s)

end Sys2Proof.Machine
end

