-- ==== Sys2Proof/Machine/Store.lean ====
section
/-! DEFINITION. The Settings Store: reading and writing items, saving, the image and its judgement (R171 to R175, R179). -/

namespace Sys2Proof.Machine

/-! ## Writing one item -/

/-- The three kinds of item that clamp (R172), with their ranges (R25, R42, R118). -/
def clampRange : Ref → Option (Int × Int)
  | .heat _ .rampRate => some (10, 10000)
  | .chan _ .tolerance => some (1, 5000)
  | .shelveDefault => some (1, 480)
  | _ => none

/-- The value that a write of `v` stores. -/
def storedValue (r : Ref) (v : Int) : Int :=
  match clampRange r with
  | none => v
  | some (lo, hi) => clampInt lo hi v

/-- Do the pairs of an item hold in a settings set (R4, R42, R67, R87)? -/
def pairsHold (set : Settings) (r : Ref) : Bool :=
  pairs.all fun p => if p.1 = r ∨ p.2 = r then pairHolds p.1 (set.get p.1) (set.get p.2) else true

/-- Is the value refused RANGE: outside the range of the item, or against the item it is constrained with? -/
def rangeRefused (s : State) (r : Ref) (v : Int) : Bool :=
  !(inRange r v && pairsHold (s.live.put r v) r)

/-- The refusal of a trip target (R111). -/
def targetRefusal (s : State) (p : Point) (v : Int) : Option Ans :=
  if !inRange (.point p .target) v then some (plain .range)
  else if v ≠ 0 ∧ s.alarm.points[p].state = .shelved then some (refusedFor .tripPoint)
  else if v ≠ 0 ∧ s.alarm.points[p].state = .disabled ∧ targetBurnerActive s (targetOf v) = true then
    some (refusedFor .burnerActive)
  else none

/-- The owner's refusal of a write, or none (R4, R9, R25, R42, R67, R87, R99, R111, R118, R135, R149). -/
def writeRefusal (s : State) (r : Ref) (v : Int) : Option Ans :=
  if !isSettable r then some (plain .range)
  else if (clampRange r).isSome then none
  else
    match r with
    | .burner b .flameOn =>
      if (s.burns.get b).state ≠ .off then some (refusedFor .burnerActive)
      else if rangeRefused s r v then some (plain .range) else none
    | .burner b .flameOff =>
      if (s.burns.get b).state ≠ .off then some (refusedFor .burnerActive)
      else if rangeRefused s r v then some (plain .range) else none
    | .chan c .assign =>
      if rangeRefused s r v then some (plain .range)
      else if s.chans[c].state ≠ .out then some (refusedFor .notOut) else none
    | .point p .target => targetRefusal s p v
    | r => if rangeRefused s r v then some (plain .range) else none

/-- What an owner does in the event of an accepted write besides storing the value (R25, R42, R88). -/
def writeEffect (r : Ref) (v : Int) (s : State) : State :=
  match r with
  | .heat b .maxHeat => s.onDemand b fun d => { d with hReq := min d.hReq v.toNat }
  | .chan c .ppm => s.onChan c fun x => { x with gramResidue := 0 }
  | .chan c .trimLimit => s.onChan c fun x => { x with trim := clampInt (-v) v x.trim }
  | .chan c .tare => s.onChan c fun x => { x with tareConfirmed := true }
  | .grate g .mode => restage g s
  | .grate g .manualRate => restage g s
  | .grate g .forward => restage g s
  | .grate g .ret => restage g s
  | .grate g .dead => restage g s
  | _ => s

/-- An accepted write of a value (R172). -/
def storeItem (r : Ref) (v : Int) (s : State) : State :=
  writeEffect r (storedValue r v) (s.onLive fun l => l.put r (storedValue r v))

/-- Does the write store another value than the one given? -/
def isClamped (r : Ref) (v : Int) : Bool := decide (storedValue r v ≠ v)

/-! ## SETTINGS READ and SETTINGS WRITE -/

/-- SETTINGS READ (R171). -/
def settingsRead (item index : Nat) : Service := fun s =>
  match refOf item index with
  | none => (s, plain .range)
  | some r => (s, done (beS 4 (s.live.get r)))

/-- The skip mask: bit 0 of byte 0 is instance 1 (R176). -/
def skipMask (skipped : List Nat) : List Byte :=
  (List.range 12).map fun j => BitVec.ofNat 8 (bits ((List.range 8).map fun k => skipped.contains (8 * j + k + 1)))

/-- The first refusal: status, reason and index, or three zeros (R176). -/
def refusalBytes : Option (Nat × Ans) → List Byte
  | none => zeros 3
  | some (index, a) => be 1 a.status.code ++ be 1 ((a.reason.map Reason.code).getD 0) ++ be 1 index

/-- The payload of a SETTINGS WRITE reply. The value of a write that stores nothing is absent: all ones (R176). -/
def writeReply (value : Option Int) (skipped : List (Nat × Ans)) : List Byte :=
  (match value with | none => ones 4 | some v => beS 4 v)
  ++ skipMask (skipped.map Prod.fst) ++ refusalBytes skipped.head?

/-- A write that names one instance (R172). -/
def writeOne (r : Ref) (v : Int) : Service := fun s =>
  match writeRefusal s r v with
  | some a => (s, a)
  | none =>
    (storeItem r v s, { status := if isClamped r v then .clamped else .done
                        data := writeReply (some (storedValue r v)) [] })

/-- A write of ALL in progress: the state, the instances skipped so far in ascending order, whether one was stored, and
the value stored. -/
structure AllWrite where
  state : State
  skipped : List (Nat × Ans)
  value : Option Int
  clamped : Bool

/-- One instance of a write of ALL (R172). -/
def writeInstance (item : Nat) (v : Int) (a : AllWrite) (index : Nat) : AllWrite :=
  match refOf item index with
  | none => a
  | some r =>
    match writeRefusal a.state r v with
    | some refusal => { a with skipped := a.skipped ++ [(index, refusal)] }
    | none =>
      { a with state := storeItem r v a.state, value := some (storedValue r v), clamped := a.clamped || isClamped r v }

/-- The answer to a write of ALL (R172). -/
def allAnswer (a : AllWrite) : Ans :=
  let payload := writeReply a.value a.skipped
  match a.value, a.skipped with
  | none, (_, first) :: _ => { first with data := payload }
  | _, _ => { status := if a.clamped then .clamped else .done, data := payload }

/-- A write with the index ALL (R172). -/
def writeAll (item n : Nat) (v : Int) : Service := fun s =>
  let a := (List.range n).foldl (fun a k => writeInstance item v a (k + 1))
    { state := s, skipped := [], value := none, clamped := false }
  (a.state, allAnswer a)

/-- SETTINGS WRITE (R172). -/
def settingsWrite (item index : Nat) (v : Int) : Service := fun s =>
  if index = 255 then
    match indexKind item with
    | some (.instances n) => writeAll item n v s
    | some .single => (s, plain .range)
    | none => (s, plain .range)
  else
    match refOf item index with
    | none => (s, plain .range)
    | some r => writeOne r v s

/-! ## The image (R179) -/

/-- One shift of the CRC-32 register (R179). -/
def crc32Shift (r : BitVec 32) : BitVec 32 := if r.msb then (r <<< 1) ^^^ 0x04C11DB7#32 else r <<< 1

/-- One byte into the CRC-32 register (R179). -/
def crc32Byte (r : BitVec 32) (b : Byte) : BitVec 32 :=
  crc32Shift (crc32Shift (crc32Shift (crc32Shift (crc32Shift (crc32Shift (crc32Shift (crc32Shift
    (r ^^^ (b.setWidth 32 <<< 24)))))))))

/-- The CRC-32 of bytes (R179). -/
def crc32 (l : List Byte) : BitVec 32 := ~~~ (l.foldl crc32Byte 0xFFFFFFFF#32)

/-- The image format number of the part (R179). -/
def imageFormat : Nat := 1

/-- The items of a settings set in the image's order (R179). -/
def imageItems (set : Settings) : List Byte := allRefs.flatMap fun r => beS 4 (set.get r)

/-- The image without its CRC-32: the format number and the items. -/
def imageBody (set : Settings) : List Byte := be 4 imageFormat ++ imageItems set

/-- The image of a settings set (R179). -/
def imageBytes (set : Settings) : List Byte := imageBody set ++ be 4 (crc32 (imageBody set)).toNat

/-- The length of an image: 659 items of 4 bytes between the format number and the CRC-32 (R179). -/
def imageLength : Nat := 2644

/-- A byte of an erased flash (PRESUMED, log entry 3). -/
def erased : Byte := 255#8

/-- The image area as a list without the erased bytes at its end, in which the store holds it. -/
def trimErased (l : List Byte) : List Byte := (l.reverse.dropWhile fun b => decide (b = erased)).reverse

/-- The whole image area that the store's list stands for. -/
def areaOf (image : List Byte) : List Byte :=
  image.take imageLength ++ List.replicate (imageLength - image.length) erased

/-- Does the CRC-32 of an area agree (R175)? -/
def crcAgrees (area : List Byte) : Bool :=
  decide ((crc32 (area.take (imageLength - 4))).toNat = ofBe ((area.drop (imageLength - 4)).take 4))

/-- The items as an area stores them. -/
def readItems : List Ref → List Byte → List (Ref × Int)
  | r :: rs, a :: b :: c :: d :: rest => (r, ofBeS [a, b, c, d]) :: readItems rs rest
  | _, _ => []

/-- The stored value of an item; an item that the area does not hold does not arise. -/
def storedOf (items : List (Ref × Int)) (r : Ref) : Int := (items.lookup r).getD (defaultSettings.get r)

/-- Does an item lie outside its range? An instance that the load gives its default whatever the image holds (R4, R87) is
not judged (log entry 24). -/
def isOut (items : List (Ref × Int)) (r : Ref) : Bool := isLoaded r && !inRange r (storedOf items r)

/-- Is a constrained pair to take its defaults: an item of it out of range, or the constraint broken (R175)? -/
def pairBroken (items : List (Ref × Int)) (p : Ref × Ref) : Bool :=
  isLoaded p.1
  && (isOut items p.1 || isOut items p.2 || !pairHolds p.1 (storedOf items p.1) (storedOf items p.2))

/-- Is the item loaded as stored (R175)? -/
def loadsAsStored (items : List (Ref × Int)) (r : Ref) : Bool :=
  isLoaded r && !isOut items r && !pairs.any (fun p => decide (p.1 = r ∨ p.2 = r) && pairBroken items p)

/-- The set that the items of an image give: each as stored or at its default (R175). -/
def setOf (items : List (Ref × Int)) : Settings :=
  items.foldl (fun set p => if loadsAsStored items p.1 then set.put p.1 p.2 else set) defaultSettings

/-- The judgement of an image area: its state and the live set it gives, by the first matching case (R175). -/
def judgeImage (image : List Byte) : ImageState × Settings :=
  let area := areaOf image
  if area.all fun b => decide (b = erased) then (.blank, defaultSettings)
  else if !crcAgrees area || decide (ofBe (area.take 4) ≠ imageFormat) then (.invalid, defaultSettings)
  else
    let items := readItems allRefs (area.drop 4)
    if items.any (fun p => isOut items p.1) || pairs.any (pairBroken items) then (.invalid, setOf items)
    else (.valid, setOf items)

/-! ## Saving (R173) -/

/-- SETTINGS SAVE (R173). -/
def settingsSave : Service := fun s =>
  match s.store.job with
  | some _ => (s, plain .busy)
  | none => (s.onStore fun x => { x with job := some x.live }, done [])

/-- The outcome of a save whose flash then holds these bytes, or the copy as given where it names none. -/
def saveOutcome (readBack : Option (List Byte)) : Bool :=
  match readBack with
  | none => true
  | some bs => crcAgrees (areaOf bs)

/-- The save completion (R173). -/
def saveCompletes (readBack : Option (List Byte)) (s : State) : State :=
  match s.store.job with
  | none => s
  | some copy =>
    let ok := saveOutcome readBack
    let image := trimErased ((readBack.getD (imageBytes copy)).take imageLength)
    let s := s.onStore fun x =>
      { x with
        image := image, marker := false, job := none
        lastSave := if ok then .ok else .failed
        imageState := if ok then .valid else .invalid }
    reportCond (pt 83) (!ok) s

/-- How a reset leaves the flash under a save (R173), by a free number: untouched; the marker written and the image
unchanged; the image whole, with its marker or without it; or the marker written and so many bytes of the copy. -/
def saveStopped (k : Nat) (copy : Settings) (x : Store) : Store :=
  match k with
  | 0 => { x with job := none }
  | 1 => { x with job := none, marker := true }
  | 2 => { x with job := none, marker := true, image := trimErased (imageBytes copy) }
  | 3 => { x with job := none, marker := false, image := trimErased (imageBytes copy) }
  | n + 4 => { x with job := none, marker := true, image := trimErased ((imageBytes copy).take n) }

/-- A full reset stops the save, if one is in flight (R173, R174). -/
def stopSave (s : State) : State :=
  match s.store.job with
  | none => s
  | some copy => (s.onStore (saveStopped (Config.saveStop s.draws) copy)).drawn

def execSettingsRead (item index : Nat) (s : State) : Host.Outcome State Fault Refusal :=
  .next (takeRequest (settingsRead item index) s)
def execSettingsWrite (item index : Nat) (v : Int) (s : State) : Host.Outcome State Fault Refusal :=
  .next (takeRequest (settingsWrite item index v) s)
def execSettingsSave (s : State) : Host.Outcome State Fault Refusal := .next (takeRequest settingsSave s)
def execSaveCompletion (readBack : Option (List Byte)) (s : State) : Host.Outcome State Fault Refusal :=
  .next (whenRunning (saveCompletes readBack) s)

end Sys2Proof.Machine
end

