-- ==== Sys2Proof/Machine/Reads.lean ====
section
/-! DEFINITION. The requests that read, with their reply payloads (R19, R64, R84, R107, R130, R149, R169, R174, R176,
R178). An absent field is zeros unless its layout says all ones (log entry 21). -/

namespace Sys2Proof.Machine

/-! ## Channels (R64) -/

/-- The fifteen parameters of R40, in table order. -/
def chanSetBytes (x : ChanSet) : List Byte :=
  be 1 x.assign.code ++ be 2 x.cv ++ be 2 x.share ++ be 2 x.minRate ++ be 2 x.maxRate ++ be 2 x.fullRate
  ++ be 2 x.tare ++ be 2 x.span ++ be 2 x.ppm ++ be 2 x.trimGain ++ be 2 x.trimLimit ++ be 2 x.tolerance
  ++ be 1 x.devTime ++ be 1 x.holdTime ++ be 2 x.calDrive

/-- The stage of a channel, zeros where it is absent. -/
def stageBytes : Option Stage → List Byte
  | none => zeros 11
  | some g =>
    be 1 g.kind.code ++ beOr0 2 g.testLoad ++ be 2 ((g.timer.getD 0) / 1000) ++ be 4 g.sum ++ be 2 g.count

/-- The result of a channel, zeros where it is absent. -/
def resultBytes : Option CalResult → List Byte
  | none => zeros 9
  | some x =>
    be 1 x.kind.code ++ be 1 x.outcome.code ++ be 1 ((x.reason.map CalReason.code).getD 0) ++ beOr0 2 x.count
    ++ beOr0 2 x.mean ++ beOr0 2 x.newValue

/-- The flags of a channel. -/
def chanFlags (x : Chan) : Nat :=
  bits [x.locked, x.lockLost, x.devCond, decide (x.state = .hold), decide (x.state = .fault), x.tareConfirmed,
        x.stage.isSome, x.result.isSome]

/-- The running state of a channel. -/
def chanBytes (x : Chan) : List Byte :=
  be 1 x.state.code ++ be 1 ((x.cause.map FaultCause.code).getD 0) ++ be 2 x.r ++ be 2 x.m ++ beS 2 x.trim ++ be 2 x.u
  ++ be 1 (chanFlags x) ++ be 1 x.inTol ++ be 1 x.devCount ++ be 1 x.devTrip ++ be 1 x.stallCount
  ++ be 1 x.reverseCount ++ stageBytes x.stage ++ resultBytes x.result

/-- A plan entry. -/
def entryBytes (x : PlanEntry) : List Byte := be 2 x.rate ++ be 4 x.heat ++ be 1 x.role.code

/-- The payload of CHANNEL READ. -/
def channelPayload (s : State) (c : Channel) : List Byte :=
  be 1 (c.val + 1) ++ chanSetBytes s.live.chans[c] ++ chanBytes s.chans[c] ++ entryBytes s.planner.entries[c]

/-- CHANNEL READ (R64). -/
def channelRead (k clear : Nat) : Service := fun s =>
  match instNo 6 k, firstOf clear with
  | some c, some true =>
    (s, { status := .done, data := channelPayload s c, after := .clearChannel c })
  | some c, some false => (s, done (channelPayload s c))
  | _, _ => (s, plain .range)

/-! ## Burners (R84) -/

/-- The shutoff valve and the igniter that a state drives (R68). -/
def BurnState.outputs : BurnState → Bool × Bool
  | .ignition => (false, true)
  | .proven => (true, false)
  | .firing => (true, false)
  | .off => (false, false)
  | .purge => (false, false)
  | .tripped => (false, false)

/-- Which timer of a burner runs, and its remaining time (R84). -/
def runningTimer (x : Burn) : Nat × Option Nat :=
  match x.purgeTimer, x.trialTimer, x.stabTimer with
  | some t, _, _ => (1, some (t / 100))
  | none, some t, _ => (2, some (t / 100))
  | none, none, some t => (3, some (t / 100))
  | none, none, none => (0, none)

/-- The first-out record, zeros with an absent clock where it is absent. -/
def firstOutBytes : Option FirstOut → List Byte
  | none => zeros 3 ++ clockOr none ++ zeros 1
  | some r =>
    be 1 r.cause.code ++ be 1 (r.cause.point.getD 0) ++ be 1 r.tripFrom.fromCode ++ clockOr r.clock ++ be 1 r.later

/-- The settings of R67, in table order. The permit is CALC's alone; for MAIN, whose field the spec does not fill, the stored
item is sent (DESIGN CHOICE, log entry 46). -/
def burnSetBytes (x : BurnerSet) : List Byte :=
  be 2 x.purgeTime ++ beS 2 x.purgeLow ++ beS 2 x.purgeHigh ++ be 1 x.trialTime ++ be 2 x.flameOn ++ be 2 x.flameOff
  ++ be 1 x.failSamples ++ be 2 x.permit

/-- The demand record of R22. -/
def demandBytes (s : State) (b : Burner) : List Byte :=
  let d := s.planner.demand.get b
  let set := s.live.burners.get b
  heatReply s b ++ be 4 set.maxHeat ++ be 2 set.rampRate ++ be 2 set.shortfallLimit ++ be 4 d.shortfall
  ++ be 4 d.surplus ++ be 1 d.shortfallCount ++ be 1 (markCode d.shortfallCond)

/-- The value and the quality of an analog input. -/
def valueBytes (x : AnalogRec) : List Byte := beS 2 x.value ++ be 1 x.quality.code

/-- The payload of BURNER READ. -/
def burnerPayload (s : State) (b : Burner) : List Byte :=
  let x := s.burns.get b
  be 1 (burnerCode b) ++ be 1 x.state.code ++ be 1 (bits [x.state.outputs.1, x.state.outputs.2])
  ++ be 1 (runningTimer x).1 ++ beOr0 2 (runningTimer x).2 ++ be 1 x.proof ++ be 1 x.failure
  ++ firstOutBytes x.firstOut ++ burnSetBytes (s.live.burners.get b) ++ demandBytes s b
  ++ (match b with | .main => zeros 3 | .calciner => valueBytes s.scan.analog[(20 : AnalogIn)])

/-- BURNER READ of a burner (R84). -/
def burnerRead (b : Burner) : Service := fun s => (s, done (burnerPayload s b))

/-! ## Cooler (R107) -/

def timingBytes (t : Timing) : List Byte := be 2 t.forward ++ be 2 t.ret ++ be 2 t.dead ++ be 2 t.period

/-- The settings of a section (R178). -/
def grateSetBytes (x : GrateSet) : List Byte :=
  be 1 x.mode.code ++ be 2 x.manualRate ++ be 2 x.forward ++ be 2 x.ret ++ be 2 x.dead ++ be 2 x.rateMin
  ++ be 2 x.rateMax ++ be 2 x.ratio ++ be 2 x.setpoint ++ be 2 x.rateGain ++ be 2 x.clinkerFactor

/-- The flags of a section. -/
def grateFlags (x : GrateRec) : Nat :=
  bits [x.runOut, x.confirmed, decide (x.state = .stalled), x.staged.isSome, x.guard.isSome]

/-- A number of two bytes signed, all ones where it is absent. -/
def beS2Or1 : Option Int → List Byte
  | none => ones 2
  | some v => beS 2 v

/-- The bed-pressure input of a section (R1). -/
def bedInput (g : Grate) : AnalogIn := ⟨8 + g.val, by omega⟩

/-- The payload of COOLER READ of a section. -/
def sectionPayload (s : State) (g : Grate) : List Byte :=
  let x := s.cooler.grates[g]
  be 1 0 ++ be 1 (g.val + 1) ++ be 1 x.state.code ++ be 1 (grateFlags x) ++ be 1 ((x.phase.map Phase.code).getD 0)
  ++ beOr0 2 x.phaseTimer ++ timingBytes x.active
  ++ (match x.staged with | none => zeros 8 | some t => timingBytes t)
  ++ be 2 x.rate ++ be 2 x.effectiveRate ++ be 1 x.miss ++ beS2Or1 x.strokePressure ++ be 4 x.strokesHigh
  ++ be 2 x.strokesLow ++ grateSetBytes s.live.grates[g] ++ valueBytes s.scan.analog[bedInput g]
  ++ beS2Or1 (if g = 0 then windowAverage s else none)

/-- The payload of COOLER READ of a fan. -/
def fanPayload (s : State) (f : Fan) : List Byte :=
  let x := s.cooler.fans[f]
  let set := s.live.fans[f]
  be 1 1 ++ be 1 (f.val + 1) ++ be 1 (firstCode x.on) ++ be 2 x.target ++ be 2 x.effTarget ++ beS 1 x.trim
  ++ be 2 x.damper ++ be 1 x.failCount ++ be 1 (markCode x.failCond) ++ set.table.toList.flatMap (be 2)
  ++ be 2 set.gain ++ be 2 set.failLevel ++ be 1 set.failTime ++ be 2 set.standby
  ++ valueBytes s.scan.analog[flowInput f]

/-- The payload of COOLER READ of the cooler record. -/
def coolerPayload (s : State) : List Byte :=
  let x := s.cooler
  let set := s.live.cooler
  be 1 2 ++ be 1 0 ++ be 1 (markCode x.overload) ++ be 2 x.pressureCount ++ be 1 (markCode x.pressureCond)
  ++ beOr1 2 x.clearCount ++ be 4 x.cap ++ be 1 (markCode x.overload) ++ be 1 (bits (enteringConditions s))
  ++ be 2 set.overloadPressure ++ be 2 set.overloadTime ++ be 2 set.clearTime ++ be 1 set.capPercent
  ++ be 2 set.boost ++ valueBytes s.scan.analog[(19 : AnalogIn)]

/-- COOLER READ (R107). Whether the cooler record, which has no number, is refused for a number other than 0 is free. -/
def coolerRead (item number : Nat) : Service := fun s =>
  if item = 0 then
    match instNo 3 number with
    | none => (s, plain .range)
    | some g => (s, done (sectionPayload s g))
  else if item = 1 then
    match instNo 8 number with
    | none => (s, plain .range)
    | some f => (s, done (fanPayload s f))
  else if item = 2 then
    if number ≠ 0 ∧ Config.coolerNumberChecked number = true then (s, plain .range) else (s, done (coolerPayload s))
  else (s, plain .range)

/-! ## Inputs (R19) -/

/-- The payload of INPUT READ of an analog input. R4 says that it shows a written scale, but R19 and the layout of R178 give
it no scale: the model follows the layout (DESIGN CHOICE, log entry 42). -/
def analogPayload (s : State) (i : AnalogIn) : List Byte :=
  let x := s.scan.analog[i]
  be 1 0 ++ be 1 (i.val + 1) ++ beOr1 2 x.raw ++ be 2 x.lastGood ++ valueBytes x
  ++ be 1 (bits [x.lowCond, x.highCond]) ++ beOr0 2 x.force

/-- The payload of INPUT READ of a pulse input. -/
def pulsePayload (s : State) (e : PulseIn) : List Byte :=
  let x := s.scan.pulse[e]
  be 1 1 ++ be 1 (e.val + 1) ++ beS 4 x.count ++ beS 4 x.lastTaken ++ be 2 x.errors ++ be 1 (markCode x.force.isSome)
  ++ beS 4 (x.force.getD 0)

/-- The payload of INPUT READ of a discrete input. -/
def discretePayload (s : State) (d : DiscreteIn) : List Byte :=
  let x := s.scan.discrete[d]
  be 1 2 ++ be 1 (d.val + 1) ++ be 1 (markCode x.pin) ++ be 1 (markCode x.debounced) ++ be 1 (markCode x.timer.isSome)

/-- INPUT READ (R19). -/
def inputRead (cls number : Nat) : Service := fun s =>
  if cls = 0 then
    match instNo 22 number with
    | none => (s, plain .range)
    | some i => (s, done (analogPayload s i))
  else if cls = 1 then
    match instNo 6 number with
    | none => (s, plain .range)
    | some e => (s, done (pulsePayload s e))
  else if cls = 2 then
    match instNo 5 number with
    | none => (s, plain .range)
    | some d => (s, done (discretePayload s d))
  else (s, plain .range)

/-! ## Alarms (R130) -/

/-- The position of a point in a list, counted from 1. -/
def positionIn (l : List Point) (p : Point) : Nat := l.idxOf p + 1

/-- Placement and position of a point (R110). -/
def placementBytes (s : State) (p : Point) : List Byte :=
  if s.alarm.list.contains p then be 1 1 ++ be 1 (positionIn s.alarm.list p)
  else if s.alarm.queue.contains p then be 1 2 ++ be 1 (positionIn s.alarm.queue p)
  else zeros 2

/-- The payload of ALARM READ. -/
def pointPayload (s : State) (p : Point) : List Byte :=
  let x := s.alarm.points[p]
  be 1 (pointNo p) ++ be 1 x.state.code ++ be 1 (markCode x.cond) ++ be 1 (priorityOf s p)
  ++ be 1 (tripTarget s p).code ++ be 1 s.live.points[p].start.code ++ beOr0 2 x.shelve ++ be 2 x.count
  ++ clockOr x.last ++ placementBytes s p

/-- ALARM READ of a point (R130). -/
def alarmRead (p : Point) : Service := fun s => (s, done (pointPayload s p))

/-- An entry of LIST READ of the list. -/
def listEntry (s : State) (p : Point) : List Byte :=
  be 1 (pointNo p) ++ be 1 s.alarm.points[p].state.code ++ be 1 (priorityOf s p) ++ clockOr s.alarm.points[p].last

/-- The payload of LIST READ of the list. -/
def listPayload (s : State) : List Byte :=
  be 1 s.alarm.list.length ++ be 1 s.alarm.queue.length ++ be 1 (firstCode (hornSounds s))
  ++ be 1 (firstCode s.alarm.silenced) ++ s.alarm.list.flatMap (listEntry s)

/-- A point of LIST READ of the waiting queue. -/
def waitingEntry (s : State) (p : Point) : List Byte :=
  be 1 (pointNo p) ++ be 1 (s.alarm.points[p].state.code * 16 + priorityOf s p)

/-- The up to 40 waiting points from a start position toward the tail (R130). -/
def waitingFrom (s : State) (start : Nat) : List Point := (s.alarm.queue.drop (start - 1)).take 40

/-- The payload of LIST READ of the waiting queue. -/
def waitingPayload (s : State) (start : Nat) : List Byte :=
  be 1 s.alarm.queue.length ++ be 1 start ++ be 1 (waitingFrom s start).length
  ++ (waitingFrom s start).flatMap (waitingEntry s)

/-- LIST READ (R130). -/
def listRead (part start : Nat) : Service := fun s =>
  if part = 0 then (s, done (listPayload s))
  else if part = 1 then
    if 1 ≤ start ∧ start ≤ 88 then (s, done (waitingPayload s start)) else (s, plain .range)
  else (s, plain .range)

/-! ## The floor, the part and the link (R149, R169, R174) -/

/-- The payload of STATUS READ (R176). -/
def statusPayload (s : State) : List Byte :=
  let x := s.floor
  be 1 x.mode.code ++ beOr1 2 (tenths x.supervision) ++ be 1 (markCode x.linkLost)
  ++ be 1 ((x.stage.map FallbackStage.code).getD 0) ++ beOr1 2 (tenths x.grace) ++ beOr1 1 (tenths x.settle)
  ++ be 1 s.live.supervisionTime ++ be 2 s.live.graceTime ++ be 4 s.live.burners.main.fallbackHeat
  ++ be 4 s.live.burners.calciner.fallbackHeat

/-- STATUS READ (R149). -/
def statusRead : Service := fun s => (s, done (statusPayload s))

/-- The payload of IDENT READ (R176). -/
def identPayload (s : State) : List Byte :=
  let x := s.store
  [Config.vendorCode, Config.familyCode, Config.partCode] ++ be 1 imageFormat ++ be 1 (markCode x.job.isSome)
  ++ be 1 x.lastSave.code ++ be 1 x.imageState.code ++ be 1 x.cause.code ++ be 1 (bits [x.duringSave, x.causeUnread])

/-- IDENT READ (R174). -/
def identRead : Service := fun s => (s, { status := .done, data := identPayload s, after := .clearIdent })

/-- The payload of LINK READ (R169). R176 gives the OVERRUN flag no width: one byte (DESIGN CHOICE, log entry 48). -/
def linkPayload (s : State) : List Byte :=
  let x := s.link.counters
  be 2 x.crc ++ be 2 x.gap ++ be 2 x.length ++ be 2 x.framing ++ be 2 x.overruns ++ be 2 x.breaks
  ++ be 1 (firstCode s.link.overrun)

/-- LINK READ (R169). -/
def linkRead (clear : Nat) : Service := fun s =>
  match firstOf clear with
  | none => (s, plain .range)
  | some true => (s, { status := .done, data := linkPayload s, after := .clearCounters })
  | some false => (s, done (linkPayload s))

/-- LINK ECHO (R169). -/
def linkEcho (bytes : List Byte) : Service := fun s => (s, done bytes)

def execStatusRead (s : State) : Host.Outcome State Fault Refusal := .next (takeRequest statusRead s)
def execIdentRead (s : State) : Host.Outcome State Fault Refusal := .next (takeRequest identRead s)
def execLinkRead (clear : Nat) (s : State) : Host.Outcome State Fault Refusal := .next (takeRequest (linkRead clear) s)
def execLinkEcho (bytes : List Byte) (s : State) : Host.Outcome State Fault Refusal :=
  .next (takeRequest (linkEcho bytes) s)
def execChannelRead (channel clear : Nat) (s : State) : Host.Outcome State Fault Refusal :=
  .next (takeRequest (channelRead channel clear) s)
def execBurnerRead (burner : Nat) (s : State) : Host.Outcome State Fault Refusal :=
  .next (takeRequest (forBurner burner burnerRead) s)
def execCoolerRead (item number : Nat) (s : State) : Host.Outcome State Fault Refusal :=
  .next (takeRequest (coolerRead item number) s)
def execInputRead (cls number : Nat) (s : State) : Host.Outcome State Fault Refusal :=
  .next (takeRequest (inputRead cls number) s)
def execAlarmRead (point : Nat) (s : State) : Host.Outcome State Fault Refusal :=
  .next (takeRequest (forPoint point alarmRead) s)
def execListRead (part start : Nat) (s : State) : Host.Outcome State Fault Refusal :=
  .next (takeRequest (listRead part start) s)

end Sys2Proof.Machine
end

