-- ==== Sys2Proof/Machine/Power.lean ====
section
/-! DEFINITION. Full reset, its causes, and the image load (R20, R39, R65, R85, R108, R132, R148, R158, R170, R174,
R175). -/

namespace Sys2Proof.Machine

/-! ## The reset event -/

/-- The inputs as a start sets them; the pins and the observed pairs are the field's own (R20). -/
def startScan (set : Settings) (x : Scanner) : Scanner :=
  { analog := Vector.ofFn fun i => startAnalog set.inputs[i]
    pulse := x.pulse.map fun e => startPulse e.levelA e.levelB
    discrete := x.discrete.map fun d => startDiscrete d.pin }

/-- A section as a start sets it (R108). -/
def startGrateOf (set : GrateSet) : GrateRec := startGrate set.manualRate (timingFor set.manualRate set)

/-- The cooler as a start sets it (R108). -/
def startCoolerOf (set : Settings) : Cooler := startCooler (set.grates.map startGrateOf) (set.fans.map startFan)

/-- The records of the nine blocks with settings `set` as a start sets them, the link and the store apart. -/
def startBlocks (set : Settings) (tareConfirmed : Bool) (s : State) : State :=
  { s with
    scan := startScan set s.scan
    planner := startPlanner
    chans := Vector.replicate 6 (startChan tareConfirmed)
    burns := ⟨startBurn, startBurn⟩
    cooler := startCoolerOf set
    alarm := startAlarm set
    shift := startShift
    floor := startFloor set.supervisionTime }

/-- The timers that a start sets running stand still until the load completion. -/
def stopTimers (s : State) : State :=
  let s := s.onPlanner fun x => { x with planTimer := none }
  let s := s.onShift fun x => { x with secondTimer := none }
  let s := s.onFloor fun x => { x with supervision := none }
  s.onCooler fun x => { x with grates := x.grates.map fun g => { g with guard := none } }

/-- The reset event: every block stops with its outputs at their safe values, the save stops, the link drops what it
holds, and the cause is stored (R170, R174). -/
def fullReset (cause : ResetCause) (phase : RunPhase) (s : State) : State :=
  let s := stopSave s
  let s := stopTimers (startBlocks s.live false s)
  let s := s.onLink fun x => startLink x.broken
  let s := s.onStore fun x => { x with cause := cause, causeUnread := true, duringSave := false }
  { s with phase := phase, handed := [], answer := none }

/-- A RESTART is not held: its load starts at once (R174). -/
def restartReset (s : State) : State := fullReset .restart .loading s

/-- The cause of a held reset ends, and the image load starts (R174). -/
def releaseReset (s : State) : State := if s.phase = .held then { s with phase := .loading } else s

def execPowerOn (s : State) : Host.Outcome State Fault Refusal := .next (fullReset .powerOn .held s)
def execSupplyDip (s : State) : Host.Outcome State Fault Refusal := .next (fullReset .supplyDip .held s)
def execResetPin (s : State) : Host.Outcome State Fault Refusal := .next (fullReset .resetPin .held s)
def execResetRelease (s : State) : Host.Outcome State Fault Refusal := .next (releaseReset s)

/-! ## The load completion (R175) -/

/-- Steps 1 to 3: the live set and the store's own fields. -/
def installImage (judged : ImageState × Settings) (s : State) : State :=
  s.onStore fun x =>
    { x with live := judged.2, imageState := judged.1, job := none, lastSave := .nothing, causeUnread := true
             duringSave := x.duringSave || x.marker }

/-- Step 5: point 83 for an image that is not VALID. -/
def reportImage (state : ImageState) (s : State) : State :=
  match state with
  | .valid => s
  | .blank => reportCond (pt 83) true s
  | .invalid => reportCond (pt 83) true s

/-- Step 6: an open D4 and a low D5 (R20, R108). -/
def reportPins (s : State) : State :=
  let s := if stopLoopClosed s then s else emergencyStop s
  if crusherRuns s then s else crusherStopped s

/-- The load completion (R175). -/
def completeLoad (s : State) : State :=
  let judged := judgeImage s.store.image
  let s := startBlocks judged.2 (decide (judged.1 = .valid)) (installImage judged s)
  reportPins (reportImage judged.1 { s with phase := .running })

def execLoadCompletion (s : State) : Host.Outcome State Fault Refusal :=
  .next (if s.phase = .loading then completeLoad s else s)

end Sys2Proof.Machine
end

