-- ==== Sys2Proof/Machine/Frames.lean ====
section
/-! DEFINITION. Frames: the CRC-16, the catalogue of message kinds, the request a frame carries, and the frame of a
reply (R159, R163, R165, R176). -/

namespace Sys2Proof.Machine

/-! ## The CRC-16 (R159) -/

/-- One shift of the CRC-16 register (R159). -/
def crc16Shift (r : BitVec 16) : BitVec 16 := if r.msb then (r <<< 1) ^^^ 0x1021#16 else r <<< 1

/-- One byte into the CRC-16 register (R159). -/
def crc16Byte (r : BitVec 16) (b : Byte) : BitVec 16 :=
  crc16Shift (crc16Shift (crc16Shift (crc16Shift (crc16Shift (crc16Shift (crc16Shift (crc16Shift
    (r ^^^ (b.setWidth 16 <<< 8)))))))))

/-- The CRC-16 of bytes (R159). -/
def crc16 (l : List Byte) : BitVec 16 := l.foldl crc16Byte 0xFFFF#16

/-- The lead byte (R159). -/
def leadByte : Byte := 0x5A#8

/-- The fields that the CRC covers: length, sequence, kind, payload (R159). -/
def coveredBytes (seq kind : Byte) (payload : List Byte) : List Byte :=
  be 1 payload.length ++ [seq, kind] ++ payload

/-- A whole frame (R159). -/
def frameBytes (seq kind : Byte) (payload : List Byte) : List Byte :=
  leadByte :: coveredBytes seq kind payload ++ be 2 (crc16 (coveredBytes seq kind payload)).toNat

/-- The reply mark (R176): 0x80 more. For a kind byte of 0x80 or above, which no request has, the sum does not fit a byte, and
the kind is returned as it is (DESIGN CHOICE, log entry 51). -/
def replyKind (kind : Byte) : Byte := kind ||| 0x80#8

/-- The frame of a reply (R165). -/
def Reply.frame (r : Reply) : List Byte := frameBytes r.seq r.kind r.body.bytes

/-! ## The requests (R176) -/

/-- How a kind reads its payload: the sequence of the frame and the payload give the request, or none where the length
is not the kind's. -/
abbrev Reader := Byte → List Byte → Option Instr

/-- No payload. -/
def read0 (i : Instr) : Reader := fun _ p => match p with | [] => some i | _ => none
/-- One byte. -/
def read1 (f : Nat → Instr) : Reader := fun _ p => match p with | [a] => some (f a.toNat) | _ => none
/-- Two fields of one byte. -/
def read11 (f : Nat → Nat → Instr) : Reader := fun _ p =>
  match p with | [a, b] => some (f a.toNat b.toNat) | _ => none
/-- A field of one byte and one of two. -/
def read12 (f : Nat → Nat → Instr) : Reader := fun _ p =>
  match p with | [a, b, c] => some (f a.toNat (ofBe [b, c])) | _ => none

/-- The catalogue: the 48 kinds by their codes, each with its reader (R176, and the catalogue of section 9.6). -/
def catalogue : List (Nat × Reader) :=
  [(0x01, read0 .statusRead), (0x02, read0 .identRead), (0x03, read1 .linkRead),
   (0x04, fun _ p => if p.length ≤ 100 then some (.linkEcho p) else none),
   (0x05, fun _ p => match p with
      | [a, b, c, d, e, f] => some (.clockSet (ofBe [a, b, c, d]) (ofBe [e, f])) | _ => none),
   (0x06, fun _ p => match p with | [a, b, c, d, e] => some (.heatSet a.toNat (ofBe [b, c, d, e])) | _ => none)]
  ++ [(0x10, read11 .channelRead), (0x11, read1 .channelServiceIn), (0x12, read1 .channelServiceOut),
   (0x13, read1 .channelReset), (0x14, read12 .calibrateZero),
   (0x15, fun _ p => match p with
      | [a, b, c, d, e] => some (.calibrateSpan a.toNat (ofBe [b, c]) (ofBe [d, e])) | _ => none),
   (0x16, read1 .calibrateAbort)]
  ++ [(0x20, read1 .burnerRead), (0x21, read1 .burnerLight), (0x22, read1 .burnerStop), (0x23, read1 .burnerResetTrip)]
  ++ [(0x30, read11 .coolerRead),
   (0x31, fun _ p => match p with
      | [a, b, c, d, e, f, g, h, i, j] =>
        some (.coolerSet a.toNat b.toNat (ofBe [c, d]) (ofBe [e, f]) (ofBe [g, h]) (ofBe [i, j]))
      | _ => none),
   (0x32, read1 .grateRun), (0x33, read1 .grateSingle), (0x34, read1 .grateStop), (0x35, read1 .grateReset),
   (0x36, fun _ p => match p with | [a, b, c, d] => some (.fanSet a.toNat b.toNat (ofBe [c, d])) | _ => none)]
  ++ [(0x40, read11 .inputRead),
   (0x41, fun _ p => match p with
      | [a, b, c, d, e, f] => some (.inputForce a.toNat b.toNat (ofBeS [c, d, e, f])) | _ => none),
   (0x42, read11 .inputRelease)]
  ++ [(0x50, read1 .alarmRead), (0x51, read11 .listRead), (0x52, read0 .alarmAckTop), (0x53, read1 .alarmAckPoint),
   (0x54, read0 .alarmAckAll), (0x55, read12 .alarmShelve), (0x56, read1 .alarmUnshelve), (0x57, read1 .alarmDisable),
   (0x58, read1 .alarmEnable), (0x59, read1 .alarmRaise), (0x5A, read1 .alarmClear), (0x5B, read0 .hornSilence)]
  ++ [(0x60, read0 .shiftClose), (0x61, read11 .reportOpen), (0x62, read1 .reportPart), (0x68, read0 .enterStandby),
   (0x69, read0 .leaveStandby)]
  ++ [(0x70, fun _ p => match p with | [a, b, c] => some (.settingsRead (ofBe [a, b]) c.toNat) | _ => none),
   (0x71, fun _ p => match p with
      | [a, b, c, d, e, f, g] => some (.settingsWrite (ofBe [a, b]) c.toNat (ofBeS [d, e, f, g])) | _ => none),
   (0x72, read0 .settingsSave),
   (0x7F, fun seq p => match p with | [] => some (.restart seq) | _ => none)]

/-- The kind of a request and its payload, as the floor computer writes them (R176); an event has none. -/
def requestFields (i : Instr) : Option (Nat × List Byte) :=
  match i with
  | .statusRead => some (0x01, [])
  | .identRead => some (0x02, [])
  | .linkRead clear => some (0x03, be 1 clear)
  | .linkEcho bytes => some (0x04, bytes)
  | .clockSet seconds day => some (0x05, be 4 seconds ++ be 2 day)
  | .heatSet burner demand => some (0x06, be 1 burner ++ be 4 demand)
  | .channelRead channel clear => some (0x10, be 1 channel ++ be 1 clear)
  | .channelServiceIn channel => some (0x11, be 1 channel)
  | .channelServiceOut channel => some (0x12, be 1 channel)
  | .channelReset channel => some (0x13, be 1 channel)
  | .calibrateZero channel duration => some (0x14, be 1 channel ++ be 2 duration)
  | .calibrateSpan channel testLoad duration => some (0x15, be 1 channel ++ be 2 testLoad ++ be 2 duration)
  | .calibrateAbort channel => some (0x16, be 1 channel)
  | .burnerRead burner => some (0x20, be 1 burner)
  | .burnerLight burner => some (0x21, be 1 burner)
  | .burnerStop burner => some (0x22, be 1 burner)
  | .burnerResetTrip burner => some (0x23, be 1 burner)
  | .coolerRead item number => some (0x30, be 1 item ++ be 1 number)
  | .coolerSet grate mode rate forward ret dead =>
    some (0x31, be 1 grate ++ be 1 mode ++ be 2 rate ++ be 2 forward ++ be 2 ret ++ be 2 dead)
  | .grateRun grate => some (0x32, be 1 grate)
  | .grateSingle grate => some (0x33, be 1 grate)
  | .grateStop grate => some (0x34, be 1 grate)
  | .grateReset grate => some (0x35, be 1 grate)
  | .fanSet fan on target => some (0x36, be 1 fan ++ be 1 on ++ be 2 target)
  | .inputRead cls number => some (0x40, be 1 cls ++ be 1 number)
  | .inputForce cls number value => some (0x41, be 1 cls ++ be 1 number ++ beS 4 value)
  | .inputRelease cls number => some (0x42, be 1 cls ++ be 1 number)
  | .alarmRead point => some (0x50, be 1 point)
  | .listRead part start => some (0x51, be 1 part ++ be 1 start)
  | .alarmAckTop => some (0x52, [])
  | .alarmAckPoint point => some (0x53, be 1 point)
  | .alarmAckAll => some (0x54, [])
  | .alarmShelve point duration => some (0x55, be 1 point ++ be 2 duration)
  | .alarmUnshelve point => some (0x56, be 1 point)
  | .alarmDisable point => some (0x57, be 1 point)
  | .alarmEnable point => some (0x58, be 1 point)
  | .alarmRaise point => some (0x59, be 1 point)
  | .alarmClear point => some (0x5A, be 1 point)
  | .hornSilence => some (0x5B, [])
  | .shiftClose => some (0x60, [])
  | .reportOpen source form => some (0x61, be 1 source ++ be 1 form)
  | .reportPart part => some (0x62, be 1 part)
  | .enterStandby => some (0x68, [])
  | .leaveStandby => some (0x69, [])
  | .settingsRead item index => some (0x70, be 2 item ++ be 1 index)
  | .settingsWrite item index value => some (0x71, be 2 item ++ be 1 index ++ beS 4 value)
  | .settingsSave => some (0x72, [])
  | .restart _ => some (0x7F, [])
  | .analogSampleArrival _ _ => none
  | .alarmPoint _ _ => none
  | .quadratureEdge _ _ _ => none
  | .discretePinChange _ _ => none
  | .debounceExpiry _ => none
  | .emergencyStopTrip _ => none
  | .mainLost => none
  | .planCycleExpiry => none
  | .holdTimerExpiry _ => none
  | .stageTimerExpiry _ => none
  | .purgeTimerExpiry _ => none
  | .trialTimerExpiry _ => none
  | .stabiliseTimerExpiry _ => none
  | .forwardExpiry _ => none
  | .deadAExpiry _ => none
  | .returnExpiry _ => none
  | .restExpiry _ => none
  | .returnGuardEnd _ => none
  | .secondTimerExpiry => none
  | .shelveExpiry _ => none
  | .supervisionExpiry => none
  | .graceExpiry => none
  | .settleExpiry => none
  | .linkByteArrival _ _ => none
  | .gapExpiry => none
  | .transmissionCompletion => none
  | .linkBreak => none
  | .powerOn => none
  | .supplyDip => none
  | .resetPin => none
  | .resetRelease => none
  | .loadCompletion => none
  | .saveCompletion _ => none
  | .breakEnd => none

/-- RESTART is answered DONE by the Settings Store and changes nothing until its reply has gone (R174). -/
def restartService : Service := fun s => (s, done [])

/-- The owner's rule for a request; an event has none (section 9.6 of the spec). -/
def serviceOf (i : Instr) : Option Service :=
  match i with
  | .statusRead => some statusRead
  | .identRead => some identRead
  | .linkRead clear => some (linkRead clear)
  | .linkEcho bytes => some (linkEcho bytes)
  | .clockSet seconds day => some (clockSet seconds day)
  | .heatSet burner demand => some (forBurner burner (heatSet demand))
  | .channelRead channel clear => some (channelRead channel clear)
  | .channelServiceIn channel => some (forChannel channel serviceIn)
  | .channelServiceOut channel => some (forChannel channel serviceOut)
  | .channelReset channel => some (forChannel channel resetChannel)
  | .calibrateZero channel duration => some (calibrateZero channel duration)
  | .calibrateSpan channel testLoad duration => some (calibrateSpan channel testLoad duration)
  | .calibrateAbort channel => some (forChannel channel calibrateAbort)
  | .burnerRead burner => some (forBurner burner burnerRead)
  | .burnerLight burner => some (forBurner burner burnerLight)
  | .burnerStop burner => some (forBurner burner burnerStop)
  | .burnerResetTrip burner => some (forBurner burner burnerResetTrip)
  | .coolerRead item number => some (coolerRead item number)
  | .coolerSet grate mode rate forward ret dead => some (forGrate grate (coolerSet mode rate forward ret dead))
  | .grateRun grate => some (forGrate grate grateRun)
  | .grateSingle grate => some (forGrate grate grateSingle)
  | .grateStop grate => some (forGrate grate grateStop)
  | .grateReset grate => some (forGrate grate grateReset)
  | .fanSet fan on target => some (fanSet fan on target)
  | .inputRead cls number => some (inputRead cls number)
  | .inputForce cls number value => some (inputForce cls number value)
  | .inputRelease cls number => some (inputRelease cls number)
  | .alarmRead point => some (forPoint point alarmRead)
  | .listRead part start => some (listRead part start)
  | .alarmAckTop => some ackTop
  | .alarmAckPoint point => some (forPoint point ackOne)
  | .alarmAckAll => some ackEvery
  | .alarmShelve point duration => some (forPoint point (shelve duration))
  | .alarmUnshelve point => some (forPoint point unshelve)
  | .alarmDisable point => some (forPoint point disable)
  | .alarmEnable point => some (forPoint point enable)
  | .alarmRaise point => some (forPoint point (external true))
  | .alarmClear point => some (forPoint point (external false))
  | .hornSilence => some silence
  | .shiftClose => some shiftClose
  | .reportOpen source form => some (reportOpen source form)
  | .reportPart part => some (reportPart part)
  | .enterStandby => some enterStandby
  | .leaveStandby => some leaveStandby
  | .settingsRead item index => some (settingsRead item index)
  | .settingsWrite item index value => some (settingsWrite item index value)
  | .settingsSave => some settingsSave
  | .restart _ => some restartService
  | .analogSampleArrival _ _ => none
  | .alarmPoint _ _ => none
  | .quadratureEdge _ _ _ => none
  | .discretePinChange _ _ => none
  | .debounceExpiry _ => none
  | .emergencyStopTrip _ => none
  | .mainLost => none
  | .planCycleExpiry => none
  | .holdTimerExpiry _ => none
  | .stageTimerExpiry _ => none
  | .purgeTimerExpiry _ => none
  | .trialTimerExpiry _ => none
  | .stabiliseTimerExpiry _ => none
  | .forwardExpiry _ => none
  | .deadAExpiry _ => none
  | .returnExpiry _ => none
  | .restExpiry _ => none
  | .returnGuardEnd _ => none
  | .secondTimerExpiry => none
  | .shelveExpiry _ => none
  | .supervisionExpiry => none
  | .graceExpiry => none
  | .settleExpiry => none
  | .linkByteArrival _ _ => none
  | .gapExpiry => none
  | .transmissionCompletion => none
  | .linkBreak => none
  | .powerOn => none
  | .supplyDip => none
  | .resetPin => none
  | .resetRelease => none
  | .loadCompletion => none
  | .saveCompletion _ => none
  | .breakEnd => none

/-- The request that a kind, a sequence and a payload spell, or the status that a frame without one is answered
(R163, checks 2 and 3). -/
def requestOf (kind seq : Byte) (payload : List Byte) : Except Status Instr :=
  match catalogue.lookup kind.toNat with
  | none => .error .unknownKind
  | some read =>
    match read seq payload with
    | none => .error .badLength
    | some i => .ok i

/-- What a frame's request is answered by its owner, or by the FLC's checks (R163, checks 2 to 4). -/
def requestService (kind seq : Byte) (payload : List Byte) : Service :=
  match requestOf kind seq payload with
  | .error st => fun s => (s, plain st)
  | .ok i => (serviceOf i).getD fun s => (s, plain .unknownKind)

end Sys2Proof.Machine
end

