-- ==== Sys2Proof/Machine/Link.lean ====
section
/-! DEFINITION. The Floor Link Controller: assembly, serving, the transmitter, breaks (R160 to R170). -/

namespace Sys2Proof.Machine

/-! ## Counters (R168) -/

def countCrc (x : Link) : Link := { x with counters := { x.counters with crc := satInc top16 x.counters.crc } }
def countGap (x : Link) : Link := { x with counters := { x.counters with gap := satInc top16 x.counters.gap } }
def countLength (x : Link) : Link := { x with counters := { x.counters with length := satInc top16 x.counters.length } }
def countFraming (x : Link) : Link :=
  { x with counters := { x.counters with framing := satInc top16 x.counters.framing } }
def countOverrun (x : Link) : Link :=
  { x with counters := { x.counters with overruns := satInc top16 x.counters.overruns } }
def countBreak (x : Link) : Link := { x with counters := { x.counters with breaks := satInc top16 x.counters.breaks } }

/-! ## Serving and replying (R163 to R165) -/

/-- A composed reply goes to the transmitter, or waits for it (R164). -/
def deliver (r : Reply) (s : State) : State :=
  s.onLink fun x => if x.sending.isNone then { x with sending := some r } else { x with waiting := some r }

/-- A request is served: its owner's answer, and the reply composed from it (R163, R165). -/
def serve (seq kind : Byte) (f : Service) (s : State) : State :=
  let r := f s
  deliver { seq := seq, kind := replyKind kind, body := compose r.1 r.2 } (answered r)

/-- A valid frame that completes while a request is pending (R164). -/
def overrunFrame (s : State) : State := s.onLink fun x => { countOverrun x with overrun := true }

/-- A request meets the FLC: an overrun, BUSY during the image load, or served (R163, R164). -/
def meetRequest (seq kind : Byte) (f : Service) (s : State) : State :=
  if s.link.waiting.isSome then overrunFrame s
  else if s.phase = .running then serve seq kind f s
  else serve seq kind (fun s => (s, plain .busy)) s

/-- A valid frame: handed to the Floor Supervisor unless the load is in progress, and then served (R162). -/
def acceptFrame (seq kind : Byte) (payload : List Byte) (s : State) : State :=
  meetRequest seq kind (requestService kind seq payload) (if s.phase = .running then validFrame s else s)

/-! ## Assembly (R160, R161) -/

/-- The assembly in HUNT, with nothing assembled and the gap timer stopped. -/
def Link.hunting (x : Link) : Link :=
  { x with asm := .hunt, length := 0, seq := 0, kind := 0, payload := [], crcHigh := 0, gapTimer := none }

/-- The next byte of a frame has been taken: the gap timer starts anew (R160). -/
def Link.taking (x : Link) (next : Assembly) : Link := { x with asm := next, gapTimer := some 20 }

/-- Is the received CRC the frame's own (R162)? -/
def Link.crcRight (x : Link) (low : Byte) : Bool :=
  decide (crc16 (coveredBytes x.seq x.kind x.payload) = x.crcHigh ++ low)

/-- The low byte of the CRC completes the frame (R162). -/
def completeFrame (low : Byte) (s : State) : State :=
  let x := s.link
  let s := s.onLink Link.hunting
  if x.crcRight low then acceptFrame x.seq x.kind x.payload s else s.onLink countCrc

/-- A byte with its stop bit is taken in the state the assembly stands in (R160). -/
def takeByte (b : Byte) (s : State) : State :=
  match s.link.asm with
  | .hunt => if b = leadByte then s.onLink fun x => x.taking .length else s
  | .length =>
    if b.toNat ≤ 120 then s.onLink fun x => { x with length := b.toNat }.taking .sequence
    else s.onLink fun x => countLength x.hunting
  | .sequence => s.onLink fun x => { x with seq := b }.taking .kind
  | .kind => s.onLink fun x => { x with kind := b }.taking (if 0 < x.length then .payload else .crcHigh)
  | .payload =>
    s.onLink fun x =>
      { x with payload := x.payload ++ [b] }.taking (if x.payload.length + 1 < x.length then .payload else .crcHigh)
  | .crcHigh => s.onLink fun x => { x with crcHigh := b }.taking .crcLow
  | .crcLow => completeFrame b s

/-- A byte arrives; with its stop bit at space it is a framing fault (R161). While the line is broken no byte arrives
(R167). -/
def byteArrives (b : Byte) (stopBit : Bool) (s : State) : State :=
  if s.link.broken then s
  else if stopBit then takeByte b s
  else s.onLink fun x => countFraming x.hunting

/-- The gap timer expires (R161). -/
def gapExpires (s : State) : State :=
  if s.link.gapTimer.isSome then s.onLink fun x => countGap x.hunting else s

/-! ## The transmitter (R164, R170) -/

/-- Is a reply the one at whose end the part restarts (R170)? -/
def isRestartReply (r : Reply) : Bool := decide (r.kind = 0xFF#8 ∧ r.body.status = .done)

/-- A reply has been sent: the pending one follows, a flag it carried is cleared, a RESTART takes effect (R164, R170). -/
def transmissionCompletes (s : State) : State :=
  match s.link.sending with
  | none => s
  | some r =>
    let s := s.onLink fun x =>
      { x with sending := x.waiting, waiting := none, overrun := x.overrun && !r.body.summary.overrun }
    if isRestartReply r then restartReset s else s

/-! ## Breaks (R167) -/

/-- A link break (R167); an abandoned or discarded RESTART reply is followed by its reset (R170). -/
def breakLine (s : State) : State :=
  if s.link.broken then s
  else
    let restarts := s.link.sending.any isRestartReply || s.link.waiting.any isRestartReply
    let s := s.onLink fun x => { countBreak x.hunting with sending := none, waiting := none, broken := true }
    let s := closeTransfer s
    if restarts then restartReset s else s

/-- The line returns to mark (R167). -/
def endBreak (s : State) : State := s.onLink fun x => { x with broken := false }

def execLinkByteArrival (b : Byte) (stopBit : Bool) (s : State) : Host.Outcome State Fault Refusal :=
  .next (whenLinked (byteArrives b stopBit) s)
def execGapExpiry (s : State) : Host.Outcome State Fault Refusal := .next (whenLinked gapExpires s)
def execTransmissionCompletion (s : State) : Host.Outcome State Fault Refusal :=
  .next (whenLinked transmissionCompletes s)
def execLinkBreak (s : State) : Host.Outcome State Fault Refusal := .next (whenLinked breakLine s)
def execBreakEnd (s : State) : Host.Outcome State Fault Refusal := .next (endBreak s)

/-- RESTART: the reply that ends in the reset is handed to the transmitter (R164, R170). -/
def execRestart (seq : Byte) (s : State) : Host.Outcome State Fault Refusal :=
  .next (whenLinked (meetRequest seq 0x7F#8 restartService) s)

end Sys2Proof.Machine
end

