-- ==== Sys2Proof/Machine/Outputs.lean ====
section
/-! DEFINITION. The output pins, each as the block that drives it sets it (R1). They follow the records, so State holds
no copy of them: in a reset the records stand at their start-up values, and every output at its safe value (R174). -/

namespace Sys2Proof.Machine

/-- The drive output of a channel, 0 to 10 000 (R43). -/
def driveOutput (s : State) (c : Channel) : Nat := s.chans[c].u

/-- Is the fuel shutoff valve of a burner open (R68)? -/
def shutoffOpen (s : State) (b : Burner) : Bool := (s.burns.get b).state.outputs.1

/-- Is the igniter of a burner on (R68)? -/
def igniterOn (s : State) (b : Burner) : Bool := (s.burns.get b).state.outputs.2

/-- Is the forward valve of a section open (R90)? -/
def forwardOpen (s : State) (g : Grate) : Bool := decide (s.cooler.grates[g].phase = some .forward)

/-- Is the return valve of a section open (R90)? -/
def returnOpen (s : State) (g : Grate) : Bool := decide (s.cooler.grates[g].phase = some .ret)

/-- The damper output of a fan, 0 to 1 000 (R99). -/
def damperOutput (s : State) (f : Fan) : Nat := s.cooler.fans[f].damper

/-- Does the transmitter send (R164)? -/
def transmits (s : State) : Bool := s.link.sending.isSome

end Sys2Proof.Machine
end

