-- ==== Sys2Proof/Machine/Time.lean ====
section
/-! DEFINITION. Time: what is due now, and the passing of 1 ms (log entry 4). The table has no row for a tick, so a step
on an empty queue takes what is due, or lets 1 ms pass when nothing is. -/

namespace Sys2Proof.Machine

/-- The command of a trip cause that another block has handed (R83); the burner's own causes are not handed. -/
def handedCommand : Burner × Cause → Option Instr
  | (b, .alarmPoint p) => some (.alarmPoint b p)
  | (b, .emergencyStop) => some (.emergencyStopTrip b)
  | (.calciner, .mainLost) => some .mainLost
  | (.main, .mainLost) => none
  | (_, .ignitionFailed) => none
  | (_, .flameLost) => none
  | (_, .inletCold) => none

/-- A command that is due when its timer runs with nothing left. -/
def due (t : Timer) (i : Instr) : List Instr := if t = some 0 then [i] else []

/-- The end of a section's phase (R90). -/
def phaseCommand (g : Grate) : Phase → Instr
  | .forward => .forwardExpiry g
  | .deadA => .deadAExpiry g
  | .ret => .returnExpiry g
  | .rest => .restExpiry g

/-- What is due of a section. -/
def grateDue (s : State) (g : Grate) : List Instr :=
  let x := s.cooler.grates[g]
  (match x.phase with | none => [] | some p => due x.phaseTimer (phaseCommand g p))
  ++ (match x.guard with | none => [] | some since => if x.guardTime ≤ since then [.returnGuardEnd g] else [])

/-- What is due of a burner. -/
def burnDue (s : State) (b : Burner) : List Instr :=
  let x := s.burns.get b
  due x.purgeTimer (.purgeTimerExpiry b) ++ due x.trialTimer (.trialTimerExpiry b)
  ++ due x.stabTimer (.stabiliseTimerExpiry b)

/-- What is due of a channel. -/
def chanDue (s : State) (c : Channel) : List Instr :=
  let x := s.chans[c]
  due x.holdTimer (.holdTimerExpiry c) ++ due (x.stage.bind Stage.timer) (.stageTimerExpiry c)

/-- What is due of the blocks. -/
def blocksDue (s : State) : List Instr :=
  s.handed.filterMap handedCommand
  ++ (List.finRange 5).flatMap (fun d => due s.scan.discrete[d].timer (.debounceExpiry d))
  ++ due s.planner.planTimer .planCycleExpiry
  ++ (List.finRange 6).flatMap (chanDue s)
  ++ bothBurners.flatMap (burnDue s)
  ++ (List.finRange 3).flatMap (grateDue s)
  ++ due s.shift.secondTimer .secondTimerExpiry
  ++ due s.floor.supervision .supervisionExpiry ++ due s.floor.grace .graceExpiry ++ due s.floor.settle .settleExpiry

/-- What is due now: of the blocks while they run, of the link when it does. -/
def ready (s : State) : List Instr :=
  match s.phase with
  | .held => []
  | .loading => due s.link.gapTimer .gapExpiry
  | .running => blocksDue s ++ due s.link.gapTimer .gapExpiry

/-- A timer 1 ms later. -/
def Timer.down (t : Timer) : Timer := t.map fun n => n - 1

/-- 1 ms of the inputs' timers. -/
def Scanner.tick (x : Scanner) : Scanner :=
  { x with discrete := x.discrete.map fun d => { d with timer := Timer.down d.timer } }

/-- 1 ms of a channel's timers. -/
def Chan.tick (x : Chan) : Chan :=
  { x with holdTimer := Timer.down x.holdTimer
           stage := x.stage.map fun g => { g with timer := Timer.down g.timer } }

/-- 1 ms of a burner's timers. -/
def Burn.tick (x : Burn) : Burn :=
  { x with purgeTimer := Timer.down x.purgeTimer, trialTimer := Timer.down x.trialTimer
           stabTimer := Timer.down x.stabTimer }

/-- 1 ms of a section: its phase timer, and the time since its return valve closed (R90). -/
def GrateRec.tick (x : GrateRec) : GrateRec :=
  { x with phaseTimer := Timer.down x.phaseTimer, guard := x.guard.map fun since => since + 1 }

/-- 1 ms of the floor's timers. -/
def Floor.tick (x : Floor) : Floor :=
  { x with supervision := Timer.down x.supervision, grace := Timer.down x.grace, settle := Timer.down x.settle }

/-- 1 ms of the link's gap timer. -/
def Link.tick (x : Link) : Link := { x with gapTimer := Timer.down x.gapTimer }

/-- 1 ms passes for the blocks. -/
def tickBlocks (s : State) : State :=
  { s with
    scan := s.scan.tick
    planner := { s.planner with planTimer := Timer.down s.planner.planTimer }
    chans := s.chans.map Chan.tick
    burns := ⟨s.burns.main.tick, s.burns.calciner.tick⟩
    cooler := { s.cooler with grates := s.cooler.grates.map GrateRec.tick }
    shift := { s.shift with secondTimer := Timer.down s.shift.secondTimer }
    floor := s.floor.tick
    link := s.link.tick }

/-- 1 ms passes: every timer that runs has 1 ms less. In a held reset none runs, during the load the link's alone. -/
def tick (s : State) : State :=
  match s.phase with
  | .held => s
  | .loading => s.onLink Link.tick
  | .running => tickBlocks s

/-- Which of the commands due is taken first: the only one, or one that a free value picks (R83, log entry 5). -/
def pick (s : State) (l : List Instr) : Option Instr := l[Config.firstTaken s.draws % l.length]?

end Sys2Proof.Machine
end

