-- ==== Sys2Proof/Machine/Dispatch.lean ====
section
/-! DEFINITION. The dispatch: one arm for each command, each a direct call of its meaning. -/

namespace Sys2Proof.Machine

/-- The effect of a command on everything but the queue. -/
def exec (i : Instr) (s : State) : Host.Outcome State Fault Refusal :=
  match i with
  | .analogSampleArrival input sample => Sys2Proof.Machine.execAnalogSampleArrival input sample s
  | .alarmPoint b p => Sys2Proof.Machine.execAlarmPoint b p s
  | .quadratureEdge e levelA levelB => Sys2Proof.Machine.execQuadratureEdge e levelA levelB s
  | .discretePinChange d level => Sys2Proof.Machine.execDiscretePinChange d level s
  | .debounceExpiry d => Sys2Proof.Machine.execDebounceExpiry d s
  | .emergencyStopTrip b => Sys2Proof.Machine.execEmergencyStopTrip b s
  | .mainLost => Sys2Proof.Machine.execMainLost s
  | .planCycleExpiry => Sys2Proof.Machine.execPlanCycleExpiry s
  | .holdTimerExpiry c => Sys2Proof.Machine.execHoldTimerExpiry c s
  | .stageTimerExpiry c => Sys2Proof.Machine.execStageTimerExpiry c s
  | .purgeTimerExpiry b => Sys2Proof.Machine.execPurgeTimerExpiry b s
  | .trialTimerExpiry b => Sys2Proof.Machine.execTrialTimerExpiry b s
  | .stabiliseTimerExpiry b => Sys2Proof.Machine.execStabiliseTimerExpiry b s
  | .forwardExpiry g => Sys2Proof.Machine.execForwardExpiry g s
  | .deadAExpiry g => Sys2Proof.Machine.execDeadAExpiry g s
  | .returnExpiry g => Sys2Proof.Machine.execReturnExpiry g s
  | .restExpiry g => Sys2Proof.Machine.execRestExpiry g s
  | .returnGuardEnd g => Sys2Proof.Machine.execReturnGuardEnd g s
  | .secondTimerExpiry => Sys2Proof.Machine.execSecondTimerExpiry s
  | .shelveExpiry p => Sys2Proof.Machine.execShelveExpiry p s
  | .supervisionExpiry => Sys2Proof.Machine.execSupervisionExpiry s
  | .graceExpiry => Sys2Proof.Machine.execGraceExpiry s
  | .settleExpiry => Sys2Proof.Machine.execSettleExpiry s
  | .linkByteArrival byte stopBit => Sys2Proof.Machine.execLinkByteArrival byte stopBit s
  | .gapExpiry => Sys2Proof.Machine.execGapExpiry s
  | .transmissionCompletion => Sys2Proof.Machine.execTransmissionCompletion s
  | .linkBreak => Sys2Proof.Machine.execLinkBreak s
  | .powerOn => Sys2Proof.Machine.execPowerOn s
  | .supplyDip => Sys2Proof.Machine.execSupplyDip s
  | .resetPin => Sys2Proof.Machine.execResetPin s
  | .resetRelease => Sys2Proof.Machine.execResetRelease s
  | .loadCompletion => Sys2Proof.Machine.execLoadCompletion s
  | .saveCompletion readBack => Sys2Proof.Machine.execSaveCompletion readBack s
  | .statusRead => Sys2Proof.Machine.execStatusRead s
  | .identRead => Sys2Proof.Machine.execIdentRead s
  | .linkRead clear => Sys2Proof.Machine.execLinkRead clear s
  | .linkEcho bytes => Sys2Proof.Machine.execLinkEcho bytes s
  | .clockSet seconds day => Sys2Proof.Machine.execClockSet seconds day s
  | .heatSet burner demand => Sys2Proof.Machine.execHeatSet burner demand s
  | .channelRead channel clear => Sys2Proof.Machine.execChannelRead channel clear s
  | .channelServiceIn channel => Sys2Proof.Machine.execChannelServiceIn channel s
  | .channelServiceOut channel => Sys2Proof.Machine.execChannelServiceOut channel s
  | .channelReset channel => Sys2Proof.Machine.execChannelReset channel s
  | .calibrateZero channel duration => Sys2Proof.Machine.execCalibrateZero channel duration s
  | .calibrateSpan channel testLoad duration => Sys2Proof.Machine.execCalibrateSpan channel testLoad duration s
  | .calibrateAbort channel => Sys2Proof.Machine.execCalibrateAbort channel s
  | .burnerRead burner => Sys2Proof.Machine.execBurnerRead burner s
  | .burnerLight burner => Sys2Proof.Machine.execBurnerLight burner s
  | .burnerStop burner => Sys2Proof.Machine.execBurnerStop burner s
  | .burnerResetTrip burner => Sys2Proof.Machine.execBurnerResetTrip burner s
  | .coolerRead item number => Sys2Proof.Machine.execCoolerRead item number s
  | .coolerSet grate mode manualRate forward ret dead => Sys2Proof.Machine.execCoolerSet grate mode manualRate forward ret dead s
  | .grateRun grate => Sys2Proof.Machine.execGrateRun grate s
  | .grateSingle grate => Sys2Proof.Machine.execGrateSingle grate s
  | .grateStop grate => Sys2Proof.Machine.execGrateStop grate s
  | .grateReset grate => Sys2Proof.Machine.execGrateReset grate s
  | .fanSet fan on target => Sys2Proof.Machine.execFanSet fan on target s
  | .inputRead cls number => Sys2Proof.Machine.execInputRead cls number s
  | .inputForce cls number value => Sys2Proof.Machine.execInputForce cls number value s
  | .inputRelease cls number => Sys2Proof.Machine.execInputRelease cls number s
  | .alarmRead point => Sys2Proof.Machine.execAlarmRead point s
  | .listRead part start => Sys2Proof.Machine.execListRead part start s
  | .alarmAckTop => Sys2Proof.Machine.execAlarmAckTop s
  | .alarmAckPoint point => Sys2Proof.Machine.execAlarmAckPoint point s
  | .alarmAckAll => Sys2Proof.Machine.execAlarmAckAll s
  | .alarmShelve point duration => Sys2Proof.Machine.execAlarmShelve point duration s
  | .alarmUnshelve point => Sys2Proof.Machine.execAlarmUnshelve point s
  | .alarmDisable point => Sys2Proof.Machine.execAlarmDisable point s
  | .alarmEnable point => Sys2Proof.Machine.execAlarmEnable point s
  | .alarmRaise point => Sys2Proof.Machine.execAlarmRaise point s
  | .alarmClear point => Sys2Proof.Machine.execAlarmClear point s
  | .hornSilence => Sys2Proof.Machine.execHornSilence s
  | .shiftClose => Sys2Proof.Machine.execShiftClose s
  | .reportOpen source form => Sys2Proof.Machine.execReportOpen source form s
  | .reportPart part => Sys2Proof.Machine.execReportPart part s
  | .enterStandby => Sys2Proof.Machine.execEnterStandby s
  | .leaveStandby => Sys2Proof.Machine.execLeaveStandby s
  | .settingsRead item index => Sys2Proof.Machine.execSettingsRead item index s
  | .settingsWrite item index value => Sys2Proof.Machine.execSettingsWrite item index value s
  | .settingsSave => Sys2Proof.Machine.execSettingsSave s
  | .restart seq => Sys2Proof.Machine.execRestart seq s
  | .breakEnd => Sys2Proof.Machine.execBreakEnd s

end Sys2Proof.Machine
end

