-- ==== Sys2Proof/Machine/Step.lean ====
section
/-! DEFINITION. The step: the command at the front of the queue, or, with none waiting, what time brings. -/

namespace Sys2Proof.Machine

/-- A step with no command waiting: the only command due, or one of several that a free value picks, or, when nothing is
due, 1 ms (log entries 4 and 5). -/
def idle (s : State) : Host.Outcome State Fault Refusal :=
  match ready s with
  | [] => .next (tick s)
  | [i] => exec i s
  | i :: j :: rest => exec ((pick s (i :: j :: rest)).getD i) s.drawn

/-- One step of the MV3K. -/
def step (s : State) : Host.Outcome State Fault Refusal :=
  match s.pending with
  | [] => idle s
  | c :: rest => exec c { s with pending := rest }

/-- `s` with the command that a word spells at the front of its queue; no word spells one. -/
def State.withFetchWord (s : State) (nbits w : Nat) : State :=
  match decodeTableWord nbits w with
  | none => s
  | some c => { s with pending := c :: s.pending }

end Sys2Proof.Machine
end

