-- ==== Sys2Proof/Safety.lean ====
section
/-! DEFINITION. What counts as a safe state, in the terms the claims use: the laws that the spec states of every state
the part can reach, each a property of one state, to be kept by every step; and the terms that several statements share,
each written from its rule and used by no meaning. -/

namespace Sys2Proof.Machine

/-- R122: the list holds at most 8 points, the waiting queue is empty whenever it holds fewer, no point stands twice in
the two, and the points in them are exactly those in ACTIVE_UNACK or CLEARED_UNACK. -/
def AlarmInv (s : State) : Prop :=
  s.alarm.list.length ≤ 8 ∧ (s.alarm.list.length < 8 → s.alarm.queue = []) ∧ (s.alarm.list ++ s.alarm.queue).Nodup
  ∧ ∀ p : Point, p ∈ s.alarm.list ++ s.alarm.queue ↔ isUnacked s p = true

/-- R43: a channel's drive is 0 in OUT, IDLE and FAULT and at most 10 000 in every state, its trim lies within its trim
limit, and its calibration drive is one it may be given. -/
def DriveInv (s : State) : Prop :=
  ∀ c : Channel,
    (s.chans[c].state = .out ∨ s.chans[c].state = .idle ∨ s.chans[c].state = .fault → driveOutput s c = 0)
    ∧ driveOutput s c ≤ 10000
    ∧ -(s.live.chans[c].trimLimit : Int) ≤ s.chans[c].trim ∧ s.chans[c].trim ≤ s.live.chans[c].trimLimit
    ∧ s.live.chans[c].calDrive ≤ 10000

/-- R43: the hold condition of a channel is present exactly in HOLD, the fault condition exactly in FAULT. -/
def ConditionInv (s : State) : Prop :=
  ∀ c : Channel,
    (s.alarm.points[holdPoint c].cond = true ↔ s.chans[c].state = .hold)
    ∧ (s.alarm.points[faultPoint c].cond = true ↔ s.chans[c].state = .fault)

/-- R46: a channel is in DOSING or HOLD only while the burner it is assigned to is FIRING. -/
def FollowInv (s : State) : Prop :=
  ∀ c : Channel, s.chans[c].state = .dosing ∨ s.chans[c].state = .hold → burnerFires s c = true

/-- R69: no burner is outside OFF while a point whose trip target includes it is SHELVED or DISABLED. -/
def InhibitInv (s : State) : Prop :=
  ∀ b : Burner, (s.burns.get b).state ≠ .off → tripPointInhibited s b = false

/-- R155: in STANDBY and SETTLE both burners are OFF, and in STANDBY no section is RUNNING or SINGLE. -/
def StandbyInv (s : State) : Prop :=
  (s.floor.mode = .standby ∨ s.floor.mode = .settle → ∀ b : Burner, (s.burns.get b).state = .off)
  ∧ (s.floor.mode = .standby →
      ∀ g : Grate, s.cooler.grates[g].state ≠ .running ∧ s.cooler.grates[g].state ≠ .single)

/-- R141: the ring holds at most 4 reports, their sequence numbers follow one another from oldest to newest, and the next
number follows the newest. -/
def RingInv (s : State) : Prop :=
  s.shift.ring.length ≤ 4
  ∧ (s.shift.ring.map Report.seq ++ [s.shift.nextSeq]).IsChain (fun a b => b = sequenceAfter a)

/-- R86, R90, R91, R95: no forward valve is open while the return guard runs, no phase is present in STALLED or in
STOPPED without a run-out, one is in every other case, and a run-out is present only in STOPPED. -/
def StrokeInv (s : State) : Prop :=
  ∀ g : Grate,
    (s.cooler.grates[g].guard.isSome = true → forwardOpen s g = false)
    ∧ (s.cooler.grates[g].phase = none ↔
        s.cooler.grates[g].state = .stalled ∨ (s.cooler.grates[g].state = .stopped ∧ s.cooler.grates[g].runOut = false))
    ∧ (s.cooler.grates[g].runOut = true → s.cooler.grates[g].state = .stopped)

/-- A safe state: every law above. -/
def Safe (s : State) : Prop :=
  AlarmInv s ∧ DriveInv s ∧ ConditionInv s ∧ FollowInv s ∧ InhibitInv s ∧ StandbyInv s ∧ RingInv s ∧ StrokeInv s

/-! ## What a request is answered -/

/-- `s` with the owner's answer recorded: a status, a reason, the attention summary of `s` itself, and these bytes
(R163, R165, R166). -/
def answering (status : Status) (reason : Option Reason) (data : List Byte) (s : State) : State :=
  { s with answer := some { status := status, reason := reason, summary := summaryOf s, data := data } }

/-- Commands run one after another. -/
def execAll : List Instr → State → Host.Outcome State Fault Refusal
  | [], s => .next s
  | i :: rest, s =>
    match exec i s with
    | .next t => execAll rest t
    | .fault f => .fault f
    | .refused r => .refused r

/-! ## What is due -/

/-- Is this command due: a trip cause that has been handed, or a timer that runs with nothing left, the return guard by the
time since its valve closed (log entry 4)? The gap timer is the link's, every other is of the blocks. -/
def DueNow (s : State) : Instr → Prop
  | .alarmPoint b p => (b, .alarmPoint p) ∈ s.handed
  | .emergencyStopTrip b => (b, .emergencyStop) ∈ s.handed
  | .mainLost => (.calciner, .mainLost) ∈ s.handed
  | .debounceExpiry d => s.scan.discrete[d].timer = some 0
  | .planCycleExpiry => s.planner.planTimer = some 0
  | .holdTimerExpiry c => s.chans[c].holdTimer = some 0
  | .stageTimerExpiry c => s.chans[c].stage.map Stage.timer = some (some 0)
  | .purgeTimerExpiry b => (s.burns.get b).purgeTimer = some 0
  | .trialTimerExpiry b => (s.burns.get b).trialTimer = some 0
  | .stabiliseTimerExpiry b => (s.burns.get b).stabTimer = some 0
  | .forwardExpiry g => s.cooler.grates[g].phase = some .forward ∧ s.cooler.grates[g].phaseTimer = some 0
  | .deadAExpiry g => s.cooler.grates[g].phase = some .deadA ∧ s.cooler.grates[g].phaseTimer = some 0
  | .returnExpiry g => s.cooler.grates[g].phase = some .ret ∧ s.cooler.grates[g].phaseTimer = some 0
  | .restExpiry g => s.cooler.grates[g].phase = some .rest ∧ s.cooler.grates[g].phaseTimer = some 0
  | .returnGuardEnd g => ∃ since : Nat, s.cooler.grates[g].guard = some since
      ∧ (s.cooler.grates[g].staged.getD s.cooler.grates[g].active).dead ≤ since
  | .secondTimerExpiry => s.shift.secondTimer = some 0
  | .supervisionExpiry => s.floor.supervision = some 0
  | .graceExpiry => s.floor.grace = some 0
  | .settleExpiry => s.floor.settle = some 0
  | .gapExpiry => s.link.gapTimer = some 0
  | _ => False

/-- `s` one millisecond later: each timer of the blocks and of the link that runs has 1 ms less, and the time since a return
valve closed is 1 ms more (log entry 4). -/
def later (s : State) : State :=
  let down (t : Timer) : Timer := t.map fun n => n - 1
  { s with
    scan := { s.scan with discrete := s.scan.discrete.map fun x => { x with timer := down x.timer } }
    planner := { s.planner with planTimer := down s.planner.planTimer }
    chans := s.chans.map fun x =>
      { x with holdTimer := down x.holdTimer, stage := x.stage.map fun g => { g with timer := down g.timer } }
    burns :=
      { main := { s.burns.main with
          purgeTimer := down s.burns.main.purgeTimer, trialTimer := down s.burns.main.trialTimer
          stabTimer := down s.burns.main.stabTimer }
        calciner := { s.burns.calciner with
          purgeTimer := down s.burns.calciner.purgeTimer, trialTimer := down s.burns.calciner.trialTimer
          stabTimer := down s.burns.calciner.stabTimer } }
    cooler := { s.cooler with grates := s.cooler.grates.map fun x =>
      { x with phaseTimer := down x.phaseTimer, guard := x.guard.map fun since => since + 1 } }
    shift := { s.shift with secondTimer := down s.shift.secondTimer }
    floor := { s.floor with
      supervision := down s.floor.supervision, grace := down s.floor.grace, settle := down s.floor.settle }
    link := { s.link with gapTimer := down s.link.gapTimer } }

/-! ## What several commands do alike -/

/-- R8, R116: a limit condition that an evaluation has moved from `before` to `after` is what its point then has, one that
stays reports nothing, and where the point becomes present, each burner of its trip target is handed the cause. -/
def LimitReported (p : Point) (before after : Bool) (s t : State) : Prop :=
  t.alarm.points[p].cond = (if after = before then s.alarm.points[p].cond else after)
  ∧ (s.alarm.points[p].cond = false → t.alarm.points[p].cond = true → ∀ b : Burner,
      (tripTarget s p).includes b = true → (b, Cause.alarmPoint p) ∈ t.handed)

/-- R97: the bed-pressure window after an arrival at A9 that is handed with this quality and value. -/
def windowAfter (window : List Int) (quality : Quality) (value : Int) : List Int :=
  if quality = .bad then []
  else if 10 ≤ window.length then window.drop 1 ++ [value] else window ++ [value]

/-- R89, R91, R97, R98: the record of a section right after a FORWARD start in a state: any staged timing active, the stroke
unconfirmed, for G1 the average of the window as the stroke pressure, and in AUTO, for G1 with an average and for a follower
of a RUNNING G1, the new rate and its timing staged. -/
def strokeBegun (s : State) (g : Grate) : GrateRec :=
  let x := s.cooler.grates[g]
  let set := s.live.grates[g]
  let first := s.cooler.grates[(0 : Grate)]
  let average : Option Int :=
    if s.cooler.window = [] then none else some (s.cooler.window.sum / s.cooler.window.length)
  let rate : Option Nat :=
    if set.mode = .manual then none
    else if g = 0 then average.map fun a =>
      (clampInt set.rateMin set.rateMax (x.rate + Int.tdiv ((a - set.setpoint) * set.rateGain) 1000)).toNat
    else if first.state = .running then some (clampNat set.rateMin set.rateMax (first.rate * set.ratio / 1000))
    else none
  { x with
    phase := some .forward, phaseTimer := some (x.staged.getD x.active).forward, active := x.staged.getD x.active
    confirmed := false, guard := none, strokePressure := if g = 0 then average else x.strokePressure
    rate := rate.getD x.rate
    staged := rate.map fun r =>
      ⟨set.forward, set.ret, set.dead, max (600000 / r) (set.forward + set.ret + 2 * set.dead)⟩ }

/-- R88, R89: the record of a section whose mode, manual rate or times have just been stored as these settings: in MANUAL the
manual rate, and the timing of the rate staged. -/
def retimed (set : GrateSet) (x : GrateRec) : GrateRec :=
  let r := if set.mode = .manual then set.manualRate else x.rate
  { x with
    rate := r
    staged := some ⟨set.forward, set.ret, set.dead, max (600000 / r) (set.forward + set.ret + 2 * set.dead)⟩ }

/-- R170, R174: right after a full reset: its cause stored and unread, no save in flight, every output at its safe value, and
the link idle with its counters at 0. -/
def FullyReset (cause : ResetCause) (phase : RunPhase) (t : State) : Prop :=
  t.phase = phase ∧ t.store.cause = cause ∧ t.store.causeUnread = true
  ∧ t.store.duringSave = false ∧ t.store.job = none
  ∧ (∀ c : Channel, driveOutput t c = 0) ∧ (∀ b : Burner, shutoffOpen t b = false ∧ igniterOn t b = false)
  ∧ (∀ g : Grate, forwardOpen t g = false ∧ returnOpen t g = false) ∧ (∀ f : Fan, damperOutput t f = 0)
  ∧ hornSounds t = false ∧ transmits t = false ∧ t.link.counters = {} ∧ t.link.overrun = false
  ∧ t.link.waiting = none ∧ t.link.asm = .hunt ∧ t.link.gapTimer = none

/-- R114, R123, R125: between `s` and `t` the point is activated: its state, count and last activation; unless it holds a
place it goes on top of a list with room, where a priority of 1 or 2 clears the silenced flag, and else to the tail of the
waiting queue, whose new length the totaliser is told with the activation of the point's priority. -/
def Activated (p : Point) (s t : State) : Prop :=
  t.alarm.points = upd s.alarm.points p (fun x => { x with
      state := .activeUnack, count := min (x.count + 1) 65535
      last := some ⟨s.shift.seconds, s.shift.day, s.shift.isSet⟩ })
  ∧ (isPlaced s p = true → t.alarm = { s.alarm with points := t.alarm.points })
  ∧ (isPlaced s p = false → s.alarm.list.length < 8 → t.alarm.list = p :: s.alarm.list ∧ t.alarm.queue = s.alarm.queue
      ∧ t.alarm.silenced = (s.alarm.silenced && !decide (s.live.points[p].priority ≤ 2)))
  ∧ (isPlaced s p = false → 8 ≤ s.alarm.list.length → t.alarm.list = s.alarm.list ∧ t.alarm.queue = s.alarm.queue ++ [p]
      ∧ t.alarm.silenced = s.alarm.silenced)
  ∧ t.shift = { s.shift with totals := { s.shift.totals with
      prio := Vector.ofFn fun k : Fin 4 =>
        if s.live.points[p].priority = k.val + 1 then min (s.shift.totals.prio[k] + 1) 4294967295 else s.shift.totals.prio[k]
      maxWaiting := max s.shift.totals.maxWaiting
        (if isPlaced s p = false ∧ 8 ≤ s.alarm.list.length then s.alarm.queue.length + 1 else 0) } }

/-- R124, R125: between `s` and `t` the point has left its place: a listed one makes way for the head of the waiting queue,
which goes on top of the list and clears the silenced flag if its priority is 1 or 2; a waiting one leaves the queue alone;
one without a place changes nothing. -/
def Unplaced (p : Point) (s t : State) : Prop :=
  t.alarm.points = s.alarm.points
  ∧ (p ∈ s.alarm.list → t.alarm.queue = s.alarm.queue.drop 1
      ∧ t.alarm.list = s.alarm.queue.head?.toList ++ s.alarm.list.erase p
      ∧ t.alarm.silenced = (s.alarm.silenced && !s.alarm.queue.head?.any fun q => decide (s.live.points[q].priority ≤ 2)))
  ∧ (p ∉ s.alarm.list → t.alarm = { s.alarm with points := t.alarm.points, queue := s.alarm.queue.erase p })

/-- R62: the record of a channel in CALIB right after its stage has been aborted for this reason. -/
def stageAborted (reason : CalReason) (x : Chan) : Chan :=
  { x with
    state := .out, u := 0, stage := none
    result := some { kind := (x.stage.map Stage.kind).getD .zero, outcome := .aborted, reason := some reason, count := none
                     mean := none, newValue := none } }

/-- R53, R54: the kJ that a channel doses at a plan-cycle expiry: in DOSING and HOLD those of its travel, and else none. -/
def kjDosed (s : State) (c : Channel) : Nat :=
  let set := s.live.chans[c]
  let p := s.scan.pulse[c].force.getD s.scan.pulse[c].count
  let load := (s.scan.analog[(⟨c.val, by omega⟩ : AnalogIn)].lastGood - set.tare) * set.span / 4096
  let grams := if 0 < p then (load * p.toNat + s.chans[c].gramResidue) / set.ppm else 0
  if s.chans[c].state = .dosing ∨ s.chans[c].state = .hold then (grams * set.cv + s.chans[c].kjResidue) / 1000 else 0

/-- R24, R26: H_app of a burner that fires, after the ramp step of a plan-cycle expiry toward the lesser of H_req and the
maximum heat, for MAIN also of H_cap. -/
def rampedHeat (s : State) (b : Burner) : Nat :=
  let target : Nat := match b with
    | .main => min (min s.planner.demand.main.hReq s.live.burners.main.maxHeat) s.planner.hCap
    | .calciner => min s.planner.demand.calciner.hReq s.live.burners.calciner.maxHeat
  let h := (s.planner.demand.get b).hApp
  let rate := (s.live.burners.get b).rampRate
  if h < target then min target (h + rate) else if target < h then max target (h - rate) else h

/-- R30 to R34: the plan that a plan-cycle expiry makes for the DOSING channels of a burner that fires: the split of the
ramped heat less what its channels in HOLD keep. -/
def planMade (s : State) (b : Burner) : List Planned := splitHeat (rampedHeat s b - heldHeat s b) (eligible s b)

/-- R35: the shortfall of that plan; of a burner that does not fire, none. -/
def shortMade (s : State) (b : Burner) : Nat :=
  if fires s b then rampedHeat s b - carriedHeat (planMade s b) - heldHeat s b else 0

/-! ## What the owners admit in a settings item -/

/-- The lowest and the highest value that an item may be written to, by its owner's rule (R4, R9, R22, R25, R40, R42, R67,
R87, R99, R111, R118, R135, R149); none for an instance that may not be written. -/
def admitted : Ref → Option (Int × Int)
  | .input i k =>
    let unit : Int × Int := if i.val < 8 then (0, 4095) else if i.val < 11 then (0, 10000) else if i.val < 19 then (0, 1200)
      else if i.val < 21 then (0, 1600) else (-500, 100)
    match k with
    | .scaleLow | .scaleHigh => if i.val < 8 then none else some unit
    | .lowLimit | .highLimit => some unit
    | .hysteresis => some (0, 1000)
  | .heat _ .maxHeat => some (0, 250000)
  | .heat _ .rampRate => some (10, 10000)
  | .heat _ .shortfallLimit => some (0, 50000)
  | .chan _ .assign => some (0, 2)
  | .chan _ .cv => some (1000, 40000)
  | .chan _ .share | .chan _ .trimGain => some (0, 1000)
  | .chan _ .minRate | .chan _ .maxRate => some (0, 60000)
  | .chan _ .fullRate => some (1, 60000)
  | .chan _ .tare => some (0, 4095)
  | .chan _ .span => some (1, 65535)
  | .chan _ .ppm => some (1, 10000)
  | .chan _ .trimLimit => some (0, 3000)
  | .chan _ .tolerance => some (1, 5000)
  | .chan _ .devTime => some (1, 120)
  | .chan _ .holdTime => some (5, 60)
  | .chan _ .calDrive => some (500, 10000)
  | .burner _ .purgeTime => some (30, 600)
  | .burner _ .purgeLow | .burner _ .purgeHigh => some (-500, 100)
  | .burner _ .trialTime => some (3, 15)
  | .burner _ .flameOn | .burner _ .flameOff => some (1, 4094)
  | .burner _ .failSamples => some (10, 40)
  | .burner b .permit => if b = .calciner then some (0, 1600) else none
  | .grate _ .mode => some (0, 1)
  | .grate _ .manualRate | .grate _ .rateMin | .grate _ .rateMax => some (20, 300)
  | .grate _ .forward | .grate _ .ret => some (200, 20000)
  | .grate _ .dead => some (50, 2000)
  | .grate g .ratio => if g = 0 then none else some (100, 3000)
  | .grate g .setpoint => if g = 0 then some (0, 10000) else none
  | .grate g .rateGain => if g = 0 then some (0, 1000) else none
  | .grate g .clinkerFactor => if g = 0 then some (0, 10000) else none
  | .cooler .overloadPressure => some (0, 10000)
  | .cooler .overloadTime | .cooler .clearTime => some (10, 600)
  | .cooler .capPercent => some (50, 100)
  | .cooler .boost => some (0, 300)
  | .fan _ (.table _) | .fan _ .gain | .fan _ .standby => some (0, 1000)
  | .fan _ .failLevel => some (0, 1200)
  | .fan _ .failTime => some (1, 60)
  | .point _ .priority => some (1, 4)
  | .point p .target => if p.val < 44 ∨ 83 ≤ p.val then some (0, 3) else none
  | .point _ .start => some (0, 1)
  | .shelveDefault => some (1, 480)
  | .shiftStart => some (0, 1439)
  | .shiftLength => some (240, 720)
  | .supervisionTime => some (1, 60)
  | .graceTime => some (10, 3600)
  | .fallbackHeat _ => some (0, 250000)

/-- Does the owner admit the value of the item: between its ends, and a shift length only 240, 360, 480 and 720 (R135)? -/
def admits (r : Ref) (v : Int) : Bool :=
  (admitted r).any (fun x => decide (x.1 ≤ v ∧ v ≤ x.2)) && (decide (r ≠ .shiftLength) || [240, 360, 480, 720].contains v)

/-- R175: the item that an item is constrained against. -/
def partner : Ref → Option Ref
  | .chan c .minRate => some (.chan c .maxRate)
  | .chan c .maxRate => some (.chan c .minRate)
  | .burner b .flameOff => some (.burner b .flameOn)
  | .burner b .flameOn => some (.burner b .flameOff)
  | .burner b .purgeLow => some (.burner b .purgeHigh)
  | .burner b .purgeHigh => some (.burner b .purgeLow)
  | .input i .scaleLow => some (.input i .scaleHigh)
  | .input i .scaleHigh => some (.input i .scaleLow)
  | .grate g .rateMin => some (.grate g .rateMax)
  | .grate g .rateMax => some (.grate g .rateMin)
  | _ => none

/-- R4, R42, R67, R87: does the constraint of an item hold among these values: a rate, a flame level or a section's rate no
higher than its partner at the top, a scale or a purge window with its low end below its high? -/
def pairKept (value : Ref → Int) : Ref → Bool
  | .chan c .minRate | .chan c .maxRate => decide (value (.chan c .minRate) ≤ value (.chan c .maxRate))
  | .burner b .flameOff | .burner b .flameOn => decide (value (.burner b .flameOff) ≤ value (.burner b .flameOn))
  | .burner b .purgeLow | .burner b .purgeHigh => decide (value (.burner b .purgeLow) < value (.burner b .purgeHigh))
  | .input i .scaleLow | .input i .scaleHigh => decide (value (.input i .scaleLow) < value (.input i .scaleHigh))
  | .grate g .rateMin | .grate g .rateMax => decide (value (.grate g .rateMin) ≤ value (.grate g .rateMax))
  | _ => true

/-! ## Report records -/

/-- R177: the channel presence mask of totals, bit 0 for C1. -/
def presentBits (t : Totals) : Nat :=
  ((List.finRange 6).map fun c => if t.chans[c].mark then 2 ^ c.val else 0).sum

/-- R143: the specific heat of totals, of kJ that are not wrapped (log entry 29). -/
def reportHeat (t : Totals) : Option Nat :=
  if t.clinker = 0 then none else some (min 4294967295 ((t.burns.main.kj + t.burns.calciner.kj) / t.clinker))

/-- R177: the 30 bytes that begin a record. -/
def recordHead (r : Report) (form : Form) (fallback heat : Bool) (older : Option Nat) : List Byte :=
  be 4 r.seq ++ be 1 r.reason.code ++ be 1 form.code ++ be 1 ((if fallback then 1 else 0) + if heat then 2 else 0)
  ++ (match older with | none => List.replicate 4 255#8 | some n => be 4 n)
  ++ ([r.startClock, r.endClock].flatMap fun x => be 4 x.seconds ++ be 2 x.day ++ be 1 (if x.isSet then 1 else 0))
  ++ be 4 r.duration ++ be 1 (presentBits r.totals)

/-- R177: the four fields of a channel, each a width and a value. -/
def fieldsOfChannel (x : ChanTotal) : List (Nat × Nat) := [(8, x.grams), (8, x.kj), (4, x.dosing), (4, x.deviations)]

/-- R145, R177: the fields of totals in order, over these channels, an absent one as zeros, the specific heat apart. -/
def fieldsOfReport (covered : List Channel) (t : Totals) : List (Nat × Nat) :=
  (covered.flatMap fun c => fieldsOfChannel (if t.chans[c].mark then t.chans[c] else {}))
  ++ [(8, t.burns.main.kj), (4, t.burns.main.firing), (4, t.burns.main.trips), (4, t.burns.main.shortfall),
      (8, t.burns.main.surplus),
      (8, t.burns.calciner.kj), (4, t.burns.calciner.firing), (4, t.burns.calciner.trips), (4, t.burns.calciner.shortfall),
      (8, t.burns.calciner.surplus),
      (6, t.strokes[0].high * 65536 + t.strokes[0].low), (6, t.strokes[1].high * 65536 + t.strokes[1].low),
      (6, t.strokes[2].high * 65536 + t.strokes[2].low), (8, t.clinker), (4, t.overload),
      (4, t.prio[0]), (4, t.prio[1]), (4, t.prio[2]), (4, t.prio[3]), (4, t.suppressed), (1, t.maxWaiting),
      (4, t.forced), (4, t.fallback), (4, t.standby)]

/-! ## What a command leaves alone -/

/-- The fields of State. -/
inductive Part where
  | phase | scan | planner | chans | burns | cooler | alarm | shift | floor | link | store | handed | answer | draws
  | pending
deriving DecidableEq, Repr

/-- Do two states agree in a part? -/
def SameAt (s t : State) : Part → Prop
  | .phase => t.phase = s.phase
  | .scan => t.scan = s.scan
  | .planner => t.planner = s.planner
  | .chans => t.chans = s.chans
  | .burns => t.burns = s.burns
  | .cooler => t.cooler = s.cooler
  | .alarm => t.alarm = s.alarm
  | .shift => t.shift = s.shift
  | .floor => t.floor = s.floor
  | .link => t.link = s.link
  | .store => t.store = s.store
  | .handed => t.handed = s.handed
  | .answer => t.answer = s.answer
  | .draws => t.draws = s.draws
  | .pending => t.pending = s.pending

/-- Between `s` and `t` nothing has changed outside the parts of `l`. -/
def Touches (l : List Part) (s t : State) : Prop := ∀ p : Part, p ∉ l → SameAt s t p

end Sys2Proof.Machine
end

