-- ==== Sys2Proof/WellFormed.lean ====
section
/-! DEFINITION. Which commands can exist: a sample is one of the 12-bit converter's (R1), and every operand of a request
fits the bytes its payload gives it (R176). `exec` gives the others a meaning too, by the same rules. -/

namespace Sys2Proof

/-- Fits one byte. -/
def fits8 (n : Nat) : Bool := decide (n < 256)
/-- Fits two bytes. -/
def fits16 (n : Nat) : Bool := decide (n < 65536)
/-- Fits four bytes. -/
def fits32 (n : Nat) : Bool := decide (n < 4294967296)
/-- Fits four bytes signed. -/
def fitsS32 (v : Int) : Bool := decide (-2147483648 ≤ v ∧ v < 2147483648)

/-- The operands of a command fit their fields. -/
def wellFormed (i : Instr) : Bool :=
  match i with
  | .analogSampleArrival _ sample => decide (sample ≤ 4095)
  | .alarmPoint _ _ => true
  | .quadratureEdge _ _ _ => true
  | .discretePinChange _ _ => true
  | .debounceExpiry _ => true
  | .emergencyStopTrip _ => true
  | .mainLost => true
  | .planCycleExpiry => true
  | .holdTimerExpiry _ => true
  | .stageTimerExpiry _ => true
  | .purgeTimerExpiry _ => true
  | .trialTimerExpiry _ => true
  | .stabiliseTimerExpiry _ => true
  | .forwardExpiry _ => true
  | .deadAExpiry _ => true
  | .returnExpiry _ => true
  | .restExpiry _ => true
  | .returnGuardEnd _ => true
  | .secondTimerExpiry => true
  | .shelveExpiry _ => true
  | .supervisionExpiry => true
  | .graceExpiry => true
  | .settleExpiry => true
  | .linkByteArrival _ _ => true
  | .gapExpiry => true
  | .transmissionCompletion => true
  | .linkBreak => true
  | .powerOn => true
  | .supplyDip => true
  | .resetPin => true
  | .resetRelease => true
  | .loadCompletion => true
  | .saveCompletion readBack => decide ((readBack.getD []).length ≤ 2644)
  | .statusRead => true
  | .identRead => true
  | .linkRead clear => fits8 clear
  | .linkEcho bytes => decide (bytes.length ≤ 100)
  | .clockSet seconds day => fits32 seconds && fits16 day
  | .heatSet burner demand => fits8 burner && fits32 demand
  | .channelRead channel clear => fits8 channel && fits8 clear
  | .channelServiceIn channel => fits8 channel
  | .channelServiceOut channel => fits8 channel
  | .channelReset channel => fits8 channel
  | .calibrateZero channel duration => fits8 channel && fits16 duration
  | .calibrateSpan channel testLoad duration => fits8 channel && fits16 testLoad && fits16 duration
  | .calibrateAbort channel => fits8 channel
  | .burnerRead burner => fits8 burner
  | .burnerLight burner => fits8 burner
  | .burnerStop burner => fits8 burner
  | .burnerResetTrip burner => fits8 burner
  | .coolerRead item number => fits8 item && fits8 number
  | .coolerSet grate mode manualRate forward ret dead =>
    fits8 grate && fits8 mode && fits16 manualRate && fits16 forward && fits16 ret && fits16 dead
  | .grateRun grate => fits8 grate
  | .grateSingle grate => fits8 grate
  | .grateStop grate => fits8 grate
  | .grateReset grate => fits8 grate
  | .fanSet fan on target => fits8 fan && fits8 on && fits16 target
  | .inputRead cls number => fits8 cls && fits8 number
  | .inputForce cls number value => fits8 cls && fits8 number && fitsS32 value
  | .inputRelease cls number => fits8 cls && fits8 number
  | .alarmRead point => fits8 point
  | .listRead part start => fits8 part && fits8 start
  | .alarmAckTop => true
  | .alarmAckPoint point => fits8 point
  | .alarmAckAll => true
  | .alarmShelve point duration => fits8 point && fits16 duration
  | .alarmUnshelve point => fits8 point
  | .alarmDisable point => fits8 point
  | .alarmEnable point => fits8 point
  | .alarmRaise point => fits8 point
  | .alarmClear point => fits8 point
  | .hornSilence => true
  | .shiftClose => true
  | .reportOpen source form => fits8 source && fits8 form
  | .reportPart part => fits8 part
  | .enterStandby => true
  | .leaveStandby => true
  | .settingsRead item index => fits16 item && fits8 index
  | .settingsWrite item index value => fits16 item && fits8 index && fitsS32 value
  | .settingsSave => true
  | .restart _ => true
  | .breakEnd => true

end Sys2Proof
end

