-- ==== Sys2Proof/Certificates/Slice0/Obligations.lean ====
section
/-! DEFINITION. The statements for the provers. Each names the rules it rests on; a next state that is written out whole
says by its form that nothing else changes. Where a statement speaks of the answer to a request, the field that holds it
is the model's own (log entry 8); where it runs an expiry, the command acts whatever its timer has left (log entry 7). -/

open Sys2Proof Sys2Proof.Machine

/-! ## The step -/

/-- The step runs the command at the front of the queue on the state with the queue's rest: the queue is the model's own (log
entry 6). With no command waiting, and this is the model's choice too (log entries 4 and 5), it runs the only event that is
due, or of several one that a free value picks, which counts as drawn, and when none is due it lets 1 ms pass. While the
blocks run, due are the trip causes handed and the timers with nothing left, in the image load the link's gap timer alone,
which alone has 1 ms less then, and in a held reset nothing is due and nothing passes. -/
def Obligations.StepRunsFrontCommand : Prop :=
  (∀ (c : Instr) (rest : List Instr) (s : State), s.pending = c :: rest → step s = exec c { s with pending := rest })
  ∧ ∀ s : State, s.pending = [] →
    (ready s = [] → step s = .next (match s.phase with
      | .held => s
      | .loading => { s with link := { s.link with gapTimer := s.link.gapTimer.map fun n => n - 1 } }
      | .running => later s))
    ∧ (∀ i : Instr, ready s = [i] → step s = exec i s)
    ∧ (2 ≤ (ready s).length → ∃ i ∈ ready s, step s = exec i { s with draws := s.draws + 1 })
    ∧ ∀ i : Instr, i ∈ ready s ↔ DueNow s i ∧ (s.phase = .running ∨ s.phase = .loading ∧ i = .gapExpiry)

/-- Every command completes in every state and leaves the queue as it is (the model's own field, log entry 6; no
command stops the machine, log entry 35). -/
def Obligations.EveryCommandKeepsQueue : Prop :=
  ∀ (c : Instr) (s : State), ∃ t, exec c s = .next t ∧ t.pending = s.pending

/-- R163, check 1: during the image load every request but RESTART is answered BUSY and nothing else changes; RESTART,
whose row hands its reply to the transmitter, is answered BUSY too. -/
def Obligations.RequestsBusyDuringLoad : Prop :=
  ∀ (i : Instr) (f : Service) (s : State), serviceOf i = some f → s.phase = .loading → s.link.waiting = none →
    ∃ t, exec i s = .next t ∧ t.answer = (answering .busy none [] s).answer ∧ Touches [.answer, .link] s t
      ∧ ((∀ seq, i ≠ .restart seq) → t.link = s.link)

/-! ## Inputs -/

/-- R3, R4, R6, R8, R97, R116: an in-range sample at an unforced input, the report of its limit conditions with their trips,
the bed-pressure window, which an arrival at A9 extends, and that no other input changes. The list of causes handed is the
model's own (log entry 12). -/
def Obligations.SampleInRange : Prop :=
  ∀ (i : AnalogIn) (sample : Nat) (s : State), s.phase = .running → s.scan.analog[i].force = none →
    1 ≤ sample → sample ≤ 4094 →
    ∃ t, exec (.analogSampleArrival i sample) s = .next t
      ∧ t.scan.analog[i].raw = some sample ∧ t.scan.analog[i].lastGood = sample ∧ t.scan.analog[i].force = none
      ∧ t.scan.analog[i].value = s.live.inputs[i].scaleLow
          + (sample : Int) * (s.live.inputs[i].scaleHigh - s.live.inputs[i].scaleLow) / 4095
      ∧ (if s.scan.analog[i].quality = .unsettled ∧ s.floor.mode = .settle then
          t.scan.analog[i].quality = .unsettled ∧ t.scan.analog[i].judged = some .good
         else t.scan.analog[i].quality = .good ∧ t.scan.analog[i].judged = none)
      ∧ t.scan.analog[i].lowCond =
          (if t.scan.analog[i].value < s.live.inputs[i].lowLimit then true
           else if s.live.inputs[i].lowLimit + s.live.inputs[i].hysteresis ≤ t.scan.analog[i].value then false
           else s.scan.analog[i].lowCond)
      ∧ t.scan.analog[i].highCond =
          (if s.live.inputs[i].highLimit < t.scan.analog[i].value then true
           else if t.scan.analog[i].value ≤ s.live.inputs[i].highLimit - s.live.inputs[i].hysteresis then false
           else s.scan.analog[i].highCond)
      ∧ LimitReported (lowPoint i) s.scan.analog[i].lowCond t.scan.analog[i].lowCond s t
      ∧ LimitReported (highPoint i) s.scan.analog[i].highCond t.scan.analog[i].highCond s t
      ∧ t.cooler.window = (if i = 8 then windowAfter s.cooler.window t.scan.analog[i].quality t.scan.analog[i].value
          else s.cooler.window)
      ∧ (∀ j : AnalogIn, j ≠ i → t.scan.analog[j] = s.scan.analog[j])
      ∧ t.scan.pulse = s.scan.pulse ∧ t.scan.discrete = s.scan.discrete
      ∧ Touches [.scan, .planner, .chans, .burns, .cooler, .alarm, .shift, .handed] s t

/-- R3 step 3, R5, R6, R8, R16, R97, R116: an arrival that brings no new value. Out of range at an unforced input, it keeps
the last good sample and both conditions, reports neither, and makes the input BAD or judges it BAD; at a forced input it is
stored as the raw sample alone, and both conditions follow the forced value and are reported, with their trips. At A9 the
quality that is handed empties the bed-pressure window or adds the value to it. The list of causes handed is the model's own
(log entry 12). No other input changes. -/
def Obligations.SampleWithoutNewValue : Prop :=
  ∀ (i : AnalogIn) (sample : Nat) (s : State), s.phase = .running →
    (s.scan.analog[i].force = none → sample = 0 ∨ sample = 4095 →
      ∃ t, exec (.analogSampleArrival i sample) s = .next t
        ∧ t.scan.analog[i].raw = some sample ∧ t.scan.analog[i].lastGood = s.scan.analog[i].lastGood
        ∧ t.scan.analog[i].value = scaled s.live.inputs[i] s.scan.analog[i].lastGood
        ∧ t.scan.analog[i].lowCond = s.scan.analog[i].lowCond ∧ t.scan.analog[i].highCond = s.scan.analog[i].highCond
        ∧ (if s.scan.analog[i].quality = .unsettled ∧ s.floor.mode = .settle then
            t.scan.analog[i].quality = .unsettled ∧ t.scan.analog[i].judged = some .bad
           else t.scan.analog[i].quality = .bad ∧ t.scan.analog[i].judged = none)
        ∧ t.alarm.points[lowPoint i].cond = s.alarm.points[lowPoint i].cond
        ∧ t.alarm.points[highPoint i].cond = s.alarm.points[highPoint i].cond
        ∧ t.cooler.window = (if i = 8 then windowAfter s.cooler.window t.scan.analog[i].quality t.scan.analog[i].value
            else s.cooler.window)
        ∧ (∀ j : AnalogIn, j ≠ i → t.scan.analog[j] = s.scan.analog[j])
        ∧ t.scan.pulse = s.scan.pulse ∧ t.scan.discrete = s.scan.discrete
        ∧ Touches [.scan, .planner, .chans, .burns, .cooler, .alarm, .shift, .handed] s t)
    ∧ (s.scan.analog[i].force.isSome = true →
      ∃ t, exec (.analogSampleArrival i sample) s = .next t
        ∧ t.scan.analog[i] = { s.scan.analog[i] with
            raw := some sample
            value := scaled s.live.inputs[i] s.scan.analog[i].lastGood
            lowCond := lowAfter s.live.inputs[i] (scaled s.live.inputs[i] s.scan.analog[i].lastGood)
              s.scan.analog[i].lowCond
            highCond := highAfter s.live.inputs[i] (scaled s.live.inputs[i] s.scan.analog[i].lastGood)
              s.scan.analog[i].highCond }
        ∧ LimitReported (lowPoint i) s.scan.analog[i].lowCond t.scan.analog[i].lowCond s t
        ∧ LimitReported (highPoint i) s.scan.analog[i].highCond t.scan.analog[i].highCond s t
        ∧ t.cooler.window = (if i = 8 then windowAfter s.cooler.window t.scan.analog[i].quality t.scan.analog[i].value
            else s.cooler.window)
        ∧ (∀ j : AnalogIn, j ≠ i → t.scan.analog[j] = s.scan.analog[j])
        ∧ t.scan.pulse = s.scan.pulse ∧ t.scan.discrete = s.scan.discrete
        ∧ Touches [.scan, .planner, .chans, .burns, .cooler, .alarm, .shift, .handed] s t)

/-- R10: an encoder's signals, by the four steps of the table, their reverses, and a change of both. -/
def Obligations.EncoderCounts : Prop :=
  ∀ (e : PulseIn) (a b : Bool) (s : State), s.phase = .running →
    -2147483648 ≤ s.scan.pulse[e].count → s.scan.pulse[e].count ≤ 2147483647 →
    let x := s.scan.pulse[e]
    let ups : List ((Bool × Bool) × (Bool × Bool)) :=
      [((false, false), (true, false)), ((true, false), (true, true)), ((true, true), (false, true)),
       ((false, true), (false, false))]
    exec (.quadratureEdge e a b) s = .next (s.onPulse e fun x =>
      { x with
        levelA := a, levelB := b
        count := if ((x.levelA, x.levelB), (a, b)) ∈ ups then min (x.count + 1) 2147483647
                 else if ((a, b), (x.levelA, x.levelB)) ∈ ups then max (x.count - 1) (-2147483648) else x.count
        errors := if x.levelA ≠ a ∧ x.levelB ≠ b then min (x.errors + 1) 65535 else x.errors })
    ∧ (x.levelA = a → x.levelB = b → exec (.quadratureEdge e a b) s = .next s)

/-- R12, R91: a discrete pin that moves starts its 20 ms timer, lets it run on, or stops it; the debounce of a stroke switch
takes the pin level, and a closure in FORWARD confirms the stroke. R14, R104, R105: a fall of D5 raises point 80, stops G3
and enters OVERLOAD, or starts the clear count of an overload anew; its return clears point 80 alone. -/
def Obligations.DiscreteInputDebounced : Prop :=
  (∀ (d : DiscreteIn) (level : Bool) (s : State), s.phase = .running →
    exec (.discretePinChange d level) s = .next (s.onDiscrete d fun x =>
      { x with
        pin := level
        timer := if level = x.debounced then none else match x.timer with | none => some 20 | some n => some n }))
  ∧ (∀ s : State, s.phase = .running → s.scan.discrete[(4 : DiscreteIn)].timer.isSome = true →
    let settled := s.onDiscrete 4 fun x => { x with debounced := x.pin, timer := none }
    (s.scan.discrete[(4 : DiscreteIn)].pin = false → s.scan.discrete[(4 : DiscreteIn)].debounced = true →
      let h := s.planner.demand.main.hApp
      let cap := if fires s .main then min 249999 (h * s.live.cooler.capPercent / 100) else 0
      ∃ t, exec (.debounceExpiry 4) s = .next t
        ∧ t.scan = settled.scan ∧ t.alarm.points[pt 80].cond = true
        ∧ t.cooler.grates[(2 : Grate)].state ≠ .running ∧ t.cooler.grates[(2 : Grate)].state ≠ .single
        ∧ (∀ g : Grate, g ≠ 2 → t.cooler.grates[g] = s.cooler.grates[g])
        ∧ t.cooler.overload = true ∧ t.cooler.clearCount = some 0
        ∧ (s.cooler.overload = true → t.planner = s.planner ∧ t.chans = s.chans ∧ t.cooler.fans = s.cooler.fans
          ∧ t.cooler.cap = s.cooler.cap)
        ∧ (s.cooler.overload = false → t.cooler.cap = cap ∧ t.planner.hCap = cap
          ∧ t.planner.demand.main.hApp = min h cap ∧ t.planner.demand.main.hReq = s.planner.demand.main.hReq
          ∧ t.planner.demand.calciner = s.planner.demand.calciner ∧ t.alarm.points[pt 70].cond = true
          ∧ (∀ f : Fan, f.val < 3 →
              let eff := min 1200 (s.cooler.fans[f].target + s.live.cooler.boost)
              t.cooler.fans[f] = { s.cooler.fans[f] with
                effTarget := eff
                damper := if s.cooler.fans[f].on = false then 0
                  else if s.floor.mode = .standby ∨ s.floor.mode = .settle then s.live.fans[f].standby
                  else (clampInt 0 1000 (tablePosition s.cooler.fans[f].table eff + s.cooler.fans[f].trim)).toNat })
          ∧ (∀ f : Fan, 3 ≤ f.val → t.cooler.fans[f] = s.cooler.fans[f]))
        ∧ Touches [.scan, .planner, .chans, .cooler, .alarm, .shift, .handed] s t)
    ∧ (s.scan.discrete[(4 : DiscreteIn)].pin = true → s.scan.discrete[(4 : DiscreteIn)].debounced = false →
      ∃ t, exec (.debounceExpiry 4) s = .next t ∧ t.scan = settled.scan ∧ t.alarm.points[pt 80].cond = false
        ∧ Touches [.scan, .alarm, .shift, .handed] s t))
  ∧ ∀ (g : Grate) (d : DiscreteIn) (s : State), d.val = g.val → s.phase = .running →
    s.scan.discrete[d].timer.isSome = true →
    let settled := s.onDiscrete d fun x => { x with debounced := x.pin, timer := none }
    exec (.debounceExpiry d) s = .next
      (if s.scan.discrete[d].pin = true ∧ s.scan.discrete[d].debounced = false ∧ s.cooler.grates[g].phase = some .forward
       then settled.onGrate g fun x => { x with confirmed := true } else settled)

/-- R13, R62, R95: the opening of D4, and its closing, which clears point 79 alone. -/
def Obligations.StopLoopOpens : Prop :=
  (∀ s : State, s.phase = .running → s.scan.discrete[(3 : DiscreteIn)].timer.isSome = true →
    s.scan.discrete[(3 : DiscreteIn)].pin = true → s.scan.discrete[(3 : DiscreteIn)].debounced = false →
    ∃ t, exec (.debounceExpiry 3) s = .next t
      ∧ t.scan = (s.onDiscrete 3 fun x => { x with debounced := true, timer := none }).scan
      ∧ stopLoopClosed t = true ∧ t.alarm.points[pt 79].cond = false
      ∧ Touches [.scan, .alarm, .shift, .handed] s t)
  ∧ ∀ s : State, s.phase = .running → s.scan.discrete[(3 : DiscreteIn)].timer.isSome = true →
    s.scan.discrete[(3 : DiscreteIn)].pin = false → s.scan.discrete[(3 : DiscreteIn)].debounced = true →
    ∃ t, exec (.debounceExpiry 3) s = .next t
      ∧ stopLoopClosed t = false ∧ t.alarm.points[pt 79].cond = true
      ∧ (∀ b : Burner, (b, Cause.emergencyStop) ∈ t.handed)
      ∧ (s.alarm.points[pt 79].cond = false → ∀ b : Burner, (b, Cause.alarmPoint (pt 79)) ∈ t.handed)
      ∧ (∀ g : Grate, t.cooler.grates[g].state ≠ .running ∧ t.cooler.grates[g].state ≠ .single)
      ∧ (∀ c : Channel, s.chans[c].state = .calib → t.chans[c].state = .out ∧ t.chans[c].u = 0
          ∧ t.chans[c].stage = none
          ∧ t.chans[c].result.map CalResult.reason = some (some .emergencyStop))
      ∧ (∀ c : Channel, s.chans[c].state ≠ .calib → t.chans[c] = s.chans[c])
      ∧ Touches [.scan, .chans, .cooler, .alarm, .shift, .handed] s t

/-- R8, R16, R17, R116: an accepted force of an analog input, with the report of its limit conditions and their trips, and of
a pulse input, and the refusal of a flame input whose burner is not OFF. The list of causes handed is the model's own (log
entry 12). -/
def Obligations.ForceInput : Prop :=
  (∀ (v : Nat) (s : State), s.phase = .running → 1 ≤ v → v ≤ 4094 →
    (s.burns.main.state ≠ .off →
      exec (.inputForce 0 7 v) s = .next (answering .refused (some .burnerActive) [] s))
    ∧ (s.burns.calciner.state ≠ .off →
      exec (.inputForce 0 8 v) s = .next (answering .refused (some .burnerActive) [] s)))
  ∧ (∀ (e : PulseIn) (v : Int) (s : State), s.phase = .running → -100000 ≤ v → v ≤ 100000 →
    ∃ t, exec (.inputForce 1 (e.val + 1) v) s = .next t
      ∧ t.scan = (s.onPulse e fun x => { x with force := some v }).scan
      ∧ t.alarm.points[pt 82].cond = (if anyForced s then s.alarm.points[pt 82].cond else true)
      ∧ t.answer.map (fun a => (a.status, a.reason)) = some (.done, none)
      ∧ Touches [.scan, .alarm, .shift, .handed, .answer] s t)
  ∧ ∀ (i : AnalogIn) (v : Nat) (s : State), s.phase = .running → 1 ≤ v → v ≤ 4094 →
    (i.val = 6 → s.burns.main.state = .off) → (i.val = 7 → s.burns.calciner.state = .off) →
    ∃ t, exec (.inputForce 0 (i.val + 1) v) s = .next t
      ∧ t.answer.map (fun a => (a.status, a.reason)) = some (.done, none)
      ∧ t.scan.analog[i].force = some v ∧ t.scan.analog[i].lastGood = v
      ∧ t.scan.analog[i].value = scaled s.live.inputs[i] v
      ∧ t.scan.analog[i].quality = .forced ∧ t.scan.analog[i].judged = none
      ∧ t.scan.analog[i].raw = s.scan.analog[i].raw
      ∧ t.scan.analog[i].lowCond =
          lowAfter s.live.inputs[i] (scaled s.live.inputs[i] v) s.scan.analog[i].lowCond
      ∧ t.scan.analog[i].highCond =
          highAfter s.live.inputs[i] (scaled s.live.inputs[i] v) s.scan.analog[i].highCond
      ∧ LimitReported (lowPoint i) s.scan.analog[i].lowCond t.scan.analog[i].lowCond s t
      ∧ LimitReported (highPoint i) s.scan.analog[i].highCond t.scan.analog[i].highCond s t
      ∧ (∀ j : AnalogIn, j ≠ i → t.scan.analog[j] = s.scan.analog[j])
      ∧ t.scan.pulse = s.scan.pulse ∧ t.scan.discrete = s.scan.discrete
      ∧ t.alarm.points[pt 82].cond = (if anyForced s then s.alarm.points[pt 82].cond else true)
      ∧ Touches [.scan, .chans, .burns, .alarm, .shift, .handed, .answer] s t

/-- R15, R18: the release of a forced analog input keeps its last good sample and value and makes it UNSETTLED, that of a
pulse input removes its force, the last release makes point 82 absent, and that of an analog input that is not forced changes
nothing. -/
def Obligations.ReleaseInput : Prop :=
  (∀ (i : AnalogIn) (s : State), s.phase = .running → s.scan.analog[i].force = none →
    exec (.inputRelease 0 (i.val + 1)) s = .next (answering .done none [] s))
  ∧ (∀ (e : PulseIn) (s : State), s.phase = .running →
    ∃ t, exec (.inputRelease 1 (e.val + 1)) s = .next t
      ∧ t.scan = (s.onPulse e fun x => { x with force := none }).scan
      ∧ t.alarm.points[pt 82].cond =
          (if anyForced s = true ∧ anyForced t = false then false else s.alarm.points[pt 82].cond)
      ∧ t.answer.map (fun a => (a.status, a.reason)) = some (.done, none)
      ∧ Touches [.scan, .alarm, .shift, .handed, .answer] s t)
  ∧ ∀ (i : AnalogIn) (s : State), s.phase = .running → s.scan.analog[i].force.isSome = true →
    ∃ t, exec (.inputRelease 0 (i.val + 1)) s = .next t
      ∧ t.answer.map (fun a => (a.status, a.reason)) = some (.done, none)
      ∧ t.scan.analog[i] = { s.scan.analog[i] with force := none, quality := .unsettled, judged := none }
      ∧ (∀ j : AnalogIn, j ≠ i → t.scan.analog[j] = s.scan.analog[j])
      ∧ t.scan.pulse = s.scan.pulse ∧ t.scan.discrete = s.scan.discrete
      ∧ t.alarm.points[pt 82].cond = (if anyForced t then s.alarm.points[pt 82].cond else false)
      ∧ Touches [.scan, .chans, .burns, .alarm, .shift, .handed, .answer] s t

/-! ## The plan -/

/-- R23: HEAT SET stores the demand, held to the lesser of 250 000 and the maximum heat, and tells whether it did; a
number that names no burner is refused. -/
def Obligations.HeatSetStores : Prop :=
  (∀ (k demand : Nat) (s : State), s.phase = .running → k ≠ 1 → k ≠ 2 →
    exec (.heatSet k demand) s = .next (answering .range none [] s))
  ∧ ∀ (b : Burner) (demand : Nat) (s : State), s.phase = .running →
    let bound := min 250000 (s.live.burners.get b).maxHeat
    let t := s.onDemand b fun d => { d with hReq := min demand bound }
    exec (.heatSet (burnerCode b) demand) s = .next
      (answering (if demand ≤ bound then .done else .clamped) none (heatReply t b) t)

/-- R31 to R34: the split plans each eligible channel once, at rate 0 or within its own two rates, and the planned heat of
the channels that are not min-clamped never exceeds the heat that was divided. -/
def Obligations.SplitRespectsRates : Prop :=
  ∀ (heat : Nat) (l : List Fuel), l.length ≤ 6 → (l.map Fuel.chan).Nodup →
    (∀ f ∈ l, 0 < f.share ∧ 0 < f.cv ∧ f.minRate ≤ f.maxRate) →
    ((splitHeat heat l).map Planned.chan).Perm (l.map Fuel.chan)
    ∧ (∀ f ∈ l, ∀ x ∈ splitHeat heat l, x.chan = f.chan →
        x.entry.rate = 0 ∨ (f.minRate ≤ x.entry.rate ∧ x.entry.rate ≤ f.maxRate))
    ∧ (((splitHeat heat l).filter fun x => decide (x.entry.role ≠ .atMin)).map fun x => x.entry.heat).sum ≤ heat

/-- R11, R21, R24, R26, R28 to R35: a plan-cycle expiry restarts its timer, takes all six counts, gives a burner that is not
FIRING no heat and its channels the empty plan entry, and moves H_app of one that fires by one ramp step, MAIN's toward a
target that H_cap bounds, and plans its channels, unless the same expiry enters or leaves OVERLOAD, which caps MAIN (R105);
the shortfall check of each burner. R28, R37, R52: every channel then does the cycle work on the entry just planned, which
for one without a burner is empty, and what follows in the expiry may change its target alone, by a replan; no channel awaits
its plan then, and the planner has read the fuel parameters. R27, R28, R29, R38, R42, R44, R46, R47: a cap event, and the
replan: it plans MAIN's DOSING channels, but for one that has entered DOSING since the last plan-cycle hand-over, which keeps
its target until the next; it uses the fuel parameters that the last plan cycle read, and leaves every other entry standing.
It takes the heat of a standing entry from the demand, but not that of a min-clamped one of a channel out of HOLD, whose
excess stays in the surplus (R33, R34; log entry 44). R99 to R101, R103 to R106: the cooler's work of the expiry, for a clear
time of at least 1 s: the tables that come into use (log entry 49), the failure count and condition, the trim (log entry 17)
and the damper of each fan, a failure judged by the damper that stands (log entry 47), the pressure test, the entry to
OVERLOAD, the clear count and the exit, and the overload second. -/
def Obligations.PlanCycleExpiry : Prop :=
  (∀ s : State, s.phase = .running → s.planner.planTimer.isSome = true →
    let ramped := rampedHeat s
    let plan := planMade s
    let short := shortMade s
    let planned (b : Burner) (c : Channel) : PlanEntry :=
      if s.chans[c].state = .hold then { s.planner.entries[c] with role := .held }
      else if s.chans[c].state = .dosing then
        (((plan b).find? fun x => decide (x.chan = c)).map Planned.entry).getD ⟨0, 0, .zeroShare⟩
      else ⟨0, 0, .noRole⟩
    let entry (c : Channel) : PlanEntry :=
      match burnerOf s c with
      | none => ⟨0, 0, .noRole⟩
      | some b => if fires s b then planned b c else ⟨0, 0, .noRole⟩
    let worked (c : Channel) : State := cycleWork c (s.onEntry c fun _ => entry c)
    ∃ t, exec .planCycleExpiry s = .next t
      ∧ t.planner.planTimer = some 1000
      ∧ (∀ e : PulseIn, t.scan.pulse[e].count = 0
          ∧ t.scan.pulse[e].lastTaken = s.scan.pulse[e].force.getD s.scan.pulse[e].count)
      ∧ (∀ b : Burner, fires s b = false → (t.planner.demand.get b).hApp = 0
          ∧ (t.planner.demand.get b).shortfall = 0 ∧ (t.planner.demand.get b).surplus = 0
          ∧ ∀ c : Channel, feeds s c b = true → t.planner.entries[c] = ⟨0, 0, .noRole⟩)
      ∧ (∀ b : Burner, fires s b = true →
          b = .calciner ∨ (1 ≤ s.live.cooler.clearTime ∧ t.cooler.overload = s.cooler.overload) →
          (t.planner.demand.get b).hApp = ramped b
          ∧ (t.planner.demand.get b).shortfall = short b
          ∧ (t.planner.demand.get b).surplus = min 250000 ((plan b).map Planned.excess).sum
          ∧ ∀ c : Channel, feeds s c b = true →
              t.planner.entries[c] = planned b c
              ∧ (s.chans[c].state = .dosing →
                t.planner.excesses[c] = (((plan b).find? fun x => decide (x.chan = c)).map Planned.excess).getD 0))
      ∧ (∀ c : Channel, burnerOf s c = none → t.planner.entries[c] = ⟨0, 0, .noRole⟩)
      ∧ (∀ c : Channel,
          t.chans[c] = { (worked c).chans[c] with r := t.chans[c].r }
          ∧ (burnerOf s c ≠ some .main ∨ fires s .main = false
              ∨ (1 ≤ s.live.cooler.clearTime ∧ t.cooler.overload = s.cooler.overload) →
            t.chans[c].r = (worked c).chans[c].r)
          ∧ (t.chans[c].r = (worked c).chans[c].r ∨ t.chans[c].r = t.planner.entries[c].rate)
          ∧ t.shift.totals.chans[c] = (worked c).shift.totals.chans[c]
          ∧ t.alarm.points[deviationPoint c].cond = (worked c).alarm.points[deviationPoint c].cond
          ∧ t.alarm.points[faultPoint c].cond = (worked c).alarm.points[faultPoint c].cond)
      ∧ (fires s .main = true → s.cooler.overload = false → t.cooler.overload = true →
          t.planner.hCap = min 249999 (ramped .main * s.live.cooler.capPercent / 100)
          ∧ t.planner.demand.main.hApp = min (ramped .main) t.planner.hCap)
      ∧ (∀ b : Burner,
          let beyond := decide ((s.live.burners.get b).shortfallLimit < short b)
          (t.planner.demand.get b).shortfallCount =
              (if beyond then min ((s.planner.demand.get b).shortfallCount + 1) 10 else 0)
          ∧ (t.planner.demand.get b).shortfallCond =
              (beyond && ((s.planner.demand.get b).shortfallCond
                || decide ((t.planner.demand.get b).shortfallCount = 10)))
          ∧ t.alarm.points[shortfallPoint b].cond =
              (if (t.planner.demand.get b).shortfallCond = (s.planner.demand.get b).shortfallCond
               then s.alarm.points[shortfallPoint b].cond else (t.planner.demand.get b).shortfallCond))
      ∧ (∀ b : Burner, (t.planner.demand.get b).hReq = (s.planner.demand.get b).hReq)
      ∧ (∀ c : Channel, t.chans[c].awaitsPlan = false ∧ t.planner.fuels[c] = ⟨c, s.live.chans[c].cv, s.live.chans[c].share,
          s.live.chans[c].minRate, s.live.chans[c].maxRate⟩)
      ∧ t.burns = s.burns ∧ t.floor = s.floor ∧ t.link = s.link ∧ t.store = s.store)
  ∧ (∀ (cap : Nat) (s : State),
    (s.planner.demand.main.hApp ≤ cap → capEvent cap s = s.onPlanner fun x => { x with hCap := cap })
    ∧ (cap < s.planner.demand.main.hApp →
      let noticed (c : Channel) : Bool :=
        feeds s c .main && decide (s.chans[c].state = .dosing) && !s.chans[c].awaitsPlan
      let clamped (c : Channel) : Bool :=
        decide (s.planner.entries[c].role = .atMin) && decide (s.chans[c].state ≠ .hold)
      let fuels := (((List.finRange 6).filter noticed).map fun c => s.planner.fuels[c]).filter fun f => decide (0 < f.share)
      let aside := (((List.finRange 6).filter fun c => feeds s c .main && !noticed c).map fun c =>
        if clamped c then 0 else s.planner.entries[c].heat).sum
      let excess := (((List.finRange 6).filter fun c => feeds s c .main && !noticed c).map fun c =>
        if clamped c then s.planner.excesses[c] else 0).sum
      let plan := splitHeat (cap - aside) fuels
      let t := capEvent cap s
      t.planner.hCap = cap ∧ t.planner.demand.calciner = s.planner.demand.calciner
      ∧ t.planner.demand.main = { s.planner.demand.main with
          hApp := cap, shortfall := cap - carriedHeat plan - aside
          surplus := min 250000 ((plan.map Planned.excess).sum + excess) }
      ∧ (∀ c : Channel, noticed c = true →
          t.planner.entries[c] =
            ((plan.find? fun x => decide (x.chan = c)).map Planned.entry).getD ⟨0, 0, .zeroShare⟩
          ∧ t.planner.excesses[c] = ((plan.find? fun x => decide (x.chan = c)).map Planned.excess).getD 0
          ∧ t.chans[c] = { s.chans[c] with r := t.planner.entries[c].rate })
      ∧ (∀ c : Channel, noticed c = false → t.chans[c] = s.chans[c]
          ∧ t.planner.entries[c] = s.planner.entries[c] ∧ t.planner.excesses[c] = s.planner.excesses[c])
      ∧ t.planner.fuels = s.planner.fuels ∧ t.planner.planTimer = s.planner.planTimer
      ∧ Touches [.planner, .chans] s t))
  ∧ ∀ s : State, s.phase = .running → s.planner.planTimer.isSome = true → 1 ≤ s.live.cooler.clearTime →
    let updates (f : Fan) : Bool := s.cooler.fans[f].on && decide (s.floor.mode = .normal ∨ s.floor.mode = .fallback)
    let a (f : Fan) : AnalogRec := s.scan.analog[flowInput f]
    let judges (f : Fan) : Bool := updates f && decide ((a f).quality = .good ∨ (a f).quality = .forced)
    let low (f : Fan) : Bool := decide ((a f).value < (s.live.fans[f].failLevel : Int))
    let open100 (f : Fan) : Bool := decide (100 < s.cooler.fans[f].damper)
    let count (f : Fan) : Nat :=
      if judges f = false then s.cooler.fans[f].failCount
      else if low f && open100 f then
        if s.cooler.fans[f].failCount < s.live.fans[f].failTime then s.cooler.fans[f].failCount + 1
        else s.cooler.fans[f].failCount
      else 0
    let fails (f : Fan) : Bool :=
      if judges f = false then s.cooler.fans[f].failCond
      else low f && (s.cooler.fans[f].failCond || (open100 f && decide (s.live.fans[f].failTime ≤ count f)))
    let trim (f : Fan) : Int :=
      if judges f = false then s.cooler.fans[f].trim
      else max (-100) (min 100 (s.cooler.fans[f].trim
        + Int.tdiv (((s.cooler.fans[f].effTarget : Int) - (a f).value) * s.live.fans[f].gain) 1000))
    let w := s.cooler.window
    let met : Bool := decide (s.live.grates[(0 : Grate)].rateMax ≤ s.cooler.grates[(0 : Grate)].rate ∧ w ≠ []
      ∧ (s.live.cooler.overloadPressure : Int) < w.sum / w.length)
    let pcount : Nat :=
      if met = false then 0
      else if s.cooler.pressureCount < s.live.cooler.overloadTime then s.cooler.pressureCount + 1 else s.cooler.pressureCount
    let pressure : Bool := met && decide (s.live.cooler.overloadTime ≤ pcount)
    let entering : Bool := pressure || decide (s.cooler.grates[(0 : Grate)].state = .stalled) || fails 0 || fails 1 || fails 2
      || !s.scan.discrete[(4 : DiscreteIn)].debounced
    let newly : Bool := (pressure && !s.cooler.pressureCond) || (fails 0 && !s.cooler.fans[(0 : Fan)].failCond)
      || (fails 1 && !s.cooler.fans[(1 : Fan)].failCond) || (fails 2 && !s.cooler.fans[(2 : Fan)].failCond)
    let clear : Nat := if entering then 0 else s.cooler.clearCount.getD 0 + 1
    let leaves : Bool := s.cooler.overload && decide (s.live.cooler.clearTime ≤ clear)
    let inOver : Bool := (s.cooler.overload || newly) && !leaves
    ∃ t, exec .planCycleExpiry s = .next t
      ∧ t.cooler.grates = s.cooler.grates ∧ t.cooler.window = s.cooler.window
      ∧ t.cooler.pressureCount = pcount ∧ t.cooler.pressureCond = pressure ∧ t.cooler.overload = inOver
      ∧ t.cooler.clearCount =
          (if inOver then some clear else if s.cooler.overload then none else s.cooler.clearCount)
      ∧ (inOver = s.cooler.overload → t.cooler.cap = s.cooler.cap)
      ∧ (leaves = true → t.cooler.cap = 250000 ∧ t.planner.hCap = 250000)
      ∧ (inOver = true → s.cooler.overload = false → t.planner.hCap = t.cooler.cap ∧ (fires s .main = false → t.cooler.cap = 0))
      ∧ t.alarm.points[pt 70].cond = (if inOver = s.cooler.overload then s.alarm.points[pt 70].cond else inOver)
      ∧ t.shift.totals.overload =
          (if inOver then min (s.shift.totals.overload + 1) 4294967295 else s.shift.totals.overload)
      ∧ (∀ f : Fan,
          let eff := if inOver = true ∧ f.val < 3 then min 1200 (s.cooler.fans[f].target + s.live.cooler.boost)
            else s.cooler.fans[f].target
          let kept : FanRec := { s.cooler.fans[f] with
            failCount := count f, failCond := fails f, trim := trim f, table := s.live.fans[f].table }
          (updates f = true → t.cooler.fans[f] = { kept with
            effTarget := eff
            damper := (clampInt 0 1000 (tablePosition s.live.fans[f].table eff + trim f)).toNat })
          ∧ (updates f = false → inOver = s.cooler.overload ∨ 3 ≤ f.val → t.cooler.fans[f] = kept)
          ∧ (updates f = false → inOver ≠ s.cooler.overload → f.val < 3 → t.cooler.fans[f] = { kept with
            effTarget := eff, damper := if s.cooler.fans[f].on then s.live.fans[f].standby else 0 })
          ∧ t.alarm.points[fanPoint f].cond =
              (if fails f = s.cooler.fans[f].failCond then s.alarm.points[fanPoint f].cond else fails f))

/-! ## The channels -/

/-- R11, R52 to R58, R138: the cycle work of a channel in DOSING: the target handed, after which the channel no longer awaits
its plan (the model's own mark, DESIGN CHOICE, log entry 44), the measured rate, the residues, the totals, the lock, the
deviation condition, the three faults in their order, and otherwise the drive and trim of the drive law; and in HOLD, which
measures and accounts and does no more; the kJ go to the channel and to its burner alike. In IDLE, FAULT and CALIB it marks
the channel in service alone, in OUT not even that, and the measured rate is 0. PlanCycleExpiry says that a plan-cycle expiry
does this work for every channel. R15, R36, R54, R74, R138, R157: what the whole expiry adds to the running totals: to each
burner the kJ of its channels, a firing second and the surplus in full while it fires, and a second of shortfall; a
forced-input second, and a fallback or standby second by the floor mode; strokes and clinker none. -/
def Obligations.DosingCycle : Prop :=
  (∀ (c : Channel) (s : State),
    let set := s.live.chans[c]
    let x := s.chans[c]
    let r := s.planner.entries[c].rate
    let p := s.scan.pulse[c].force.getD s.scan.pulse[c].count
    let travel := (s.scan.analog[(⟨c.val, by omega⟩ : AnalogIn)].lastGood - set.tare) * set.span / 4096 * p.toNat
    let m := min 65535 (travel * 3600 / (set.ppm * 1000))
    let grams := if 0 < p then (travel + x.gramResidue) / set.ppm else 0
    let residue := if 0 < p then travel + x.gramResidue - set.ppm * grams else x.gramResidue
    let heat := grams * set.cv + x.kjResidue
    let e : Int := (r : Int) - m
    let beyond := decide (set.tolerance < e.natAbs)
    let devs := if beyond then (if x.devCount < set.devTime then x.devCount + 1 else x.devCount) else 0
    let trips := if 2 * set.tolerance < e.natAbs then x.devTrip + 1 else 0
    let stalls := if 2000 ≤ x.u ∧ p = 0 then x.stallCount + 1 else 0
    let reverses := if p < 0 then x.reverseCount + 1 else 0
    let found : Option FaultCause :=
      if 3 ≤ reverses then some .reverse else if 5 ≤ stalls then some .encoder
      else if 2 * set.devTime ≤ trips then some .deviation else none
    let raised := beyond && !x.devCond && decide (set.devTime ≤ devs)
    let held := !beyond && (x.locked || decide (9 ≤ x.inTol))
    let t := cycleWork c s
    let y := t.chans[c]
    let u := t.shift.totals.chans[c]
    let v := s.shift.totals.chans[c]
    (x.state = .dosing →
      y.m = m ∧ y.gramResidue = residue ∧ y.kjResidue = heat % 1000
      ∧ u = { mark := true, grams := min (v.grams + grams) 18446744073709551615
              kj := min (v.kj + heat / 1000) 18446744073709551615, dosing := min (v.dosing + 1) 4294967295
              deviations := if raised then min (v.deviations + 1) 4294967295 else v.deviations }
      ∧ y.lockLost = (x.lockLost || (x.locked && beyond) || (held && found.isSome))
      ∧ (found = none →
        y.state = .dosing ∧ y.r = r ∧ y.awaitsPlan = false
        ∧ y.inTol = (if beyond then 0 else min (x.inTol + 1) 10)
        ∧ y.locked = held
        ∧ y.devCount = devs ∧ y.devTrip = trips ∧ y.stallCount = stalls ∧ y.reverseCount = reverses
        ∧ y.devCond = (beyond && (x.devCond || raised))
        ∧ (y.devCond ≠ x.devCond → t.alarm.points[deviationPoint c].cond = y.devCond)
        ∧ y.trim = (if r = 0 ∨ x.u = 10000 ∧ 0 < e ∨ x.u = 0 ∧ e < 0 then x.trim
            else max (-(set.trimLimit : Int)) (min set.trimLimit (x.trim + Int.tdiv (e * set.trimGain) 1000)))
        ∧ (y.u : Int) = if r = 0 then 0 else max 0 (min 10000 (((r * 10000 / set.fullRate : Nat) : Int) + y.trim)))
      ∧ (∀ k : FaultCause, found = some k →
        y.state = .fault ∧ y.cause = some k ∧ y.u = 0 ∧ y.r = 0 ∧ y.trim = 0 ∧ y.locked = false ∧ y.devCond = false
        ∧ y.inTol = 0 ∧ y.devCount = 0 ∧ y.devTrip = 0 ∧ y.stallCount = 0 ∧ y.reverseCount = 0
        ∧ t.alarm.points[faultPoint c].cond = true))
    ∧ (x.state = .hold →
      y = { x with r := r, awaitsPlan := false, m := m, gramResidue := residue, kjResidue := heat % 1000 }
      ∧ u = { v with
          mark := true, grams := min (v.grams + grams) 18446744073709551615
          kj := min (v.kj + heat / 1000) 18446744073709551615 }
      ∧ t.alarm = s.alarm)
    ∧ (x.state = .dosing ∨ x.state = .hold → t.shift.totals.burns = (match burnerOf s c with
        | none => s.shift.totals.burns
        | some b => s.shift.totals.burns.upd b fun z => { z with kj := min (z.kj + heat / 1000) 18446744073709551615 }))
    ∧ (x.state = .idle ∨ x.state = .fault ∨ x.state = .calib →
      y = { x with r := r, awaitsPlan := false, m := 0 } ∧ t.alarm = s.alarm
      ∧ t.shift = { s.shift with totals := { s.shift.totals with
          chans := upd s.shift.totals.chans c fun z => { z with mark := true } } })
    ∧ (x.state = .out → y = { x with r := r, awaitsPlan := false, m := 0 } ∧ t.alarm = s.alarm ∧ t.shift = s.shift)
    ∧ ∀ d : Channel, d ≠ c → t.chans[d] = s.chans[d] ∧ t.shift.totals.chans[d] = s.shift.totals.chans[d])
  ∧ ∀ s : State, s.phase = .running → s.planner.planTimer.isSome = true →
    ∃ t, exec .planCycleExpiry s = .next t
      ∧ (∀ b : Burner, t.shift.totals.burns.get b =
          let x := s.shift.totals.burns.get b
          let dosed := (((List.finRange 6).filter fun c => feeds s c b).map (kjDosed s)).sum
          { kj := min (x.kj + dosed) 18446744073709551615, trips := x.trips
            firing := if fires s b then min (x.firing + 1) 4294967295 else x.firing
            shortfall := if 0 < shortMade s b then min (x.shortfall + 1) 4294967295 else x.shortfall
            surplus :=
              if fires s b then min (x.surplus + ((planMade s b).map Planned.excess).sum) 18446744073709551615 else x.surplus })
      ∧ t.shift.totals.forced =
          (if anyForced s then min (s.shift.totals.forced + 1) 4294967295 else s.shift.totals.forced)
      ∧ t.shift.totals.fallback =
          (if s.floor.mode = .fallback then min (s.shift.totals.fallback + 1) 4294967295 else s.shift.totals.fallback)
      ∧ t.shift.totals.standby =
          (if s.floor.mode = .standby ∨ s.floor.mode = .settle then min (s.shift.totals.standby + 1) 4294967295
           else s.shift.totals.standby)
      ∧ t.shift.totals.strokes = s.shift.totals.strokes ∧ t.shift.totals.clinker = s.shift.totals.clinker
      ∧ t.shift = { s.shift with totals := t.shift.totals }

/-- R45, and R44 with R46: SERVICE IN by the table of R44: an OUT channel with a burner is placed in service, in DOSING with
all at 0 and awaiting its plan (the model's own mark, DESIGN CHOICE, log entry 44) while the burner fires, else in IDLE, and
is refused without a burner and in SETTLE; it changes nothing in IDLE, DOSING and HOLD, is refused in FAULT and busy in
CALIB; SERVICE OUT takes a channel out of IDLE, and out of FAULT with the fault cause removed and its condition reported
absent, is refused in DOSING and HOLD, busy in CALIB, and changes nothing in OUT; and a number that names no channel. -/
def Obligations.ChannelService : Prop :=
  (∀ (k : Nat) (s : State), s.phase = .running → k = 0 ∨ 6 < k →
    exec (.channelServiceIn k) s = .next (answering .range none [] s)
    ∧ exec (.channelServiceOut k) s = .next (answering .range none [] s))
  ∧ ∀ (c : Channel) (s : State), s.phase = .running →
    (s.chans[c].state = .out → burnerOf s c ≠ none → s.floor.mode ≠ .settle →
      exec (.channelServiceIn (c.val + 1)) s = .next (answering .done none [] (s.onChan c fun x =>
        if burnerFires s c then
          { x with state := .dosing, awaitsPlan := true, r := 0, trim := 0, u := 0, inTol := 0, devCount := 0, devTrip := 0
                   stallCount := 0, reverseCount := 0 }
        else { x with state := .idle, u := 0 })))
    ∧ (s.chans[c].state = .out → burnerOf s c = none →
      exec (.channelServiceIn (c.val + 1)) s = .next (answering .refused (some .notAssigned) [] s))
    ∧ (s.chans[c].state = .out → burnerOf s c ≠ none → s.floor.mode = .settle →
      exec (.channelServiceIn (c.val + 1)) s = .next (answering .refused (some .unsettled) [] s))
    ∧ (s.chans[c].state = .idle ∨ s.chans[c].state = .dosing ∨ s.chans[c].state = .hold →
      exec (.channelServiceIn (c.val + 1)) s = .next (answering .done none [] s))
    ∧ (s.chans[c].state = .fault →
      exec (.channelServiceIn (c.val + 1)) s = .next (answering .refused (some .notOut) [] s))
    ∧ (s.chans[c].state = .calib → exec (.channelServiceIn (c.val + 1)) s = .next (answering .busy none [] s))
    ∧ (s.chans[c].state = .idle → exec (.channelServiceOut (c.val + 1)) s = .next
      (answering .done none [] (s.onChan c fun x => { x with state := .out, u := 0 })))
    ∧ (s.chans[c].state = .fault → ∃ t, exec (.channelServiceOut (c.val + 1)) s = .next t
        ∧ t.chans = upd s.chans c (fun x => { x with state := .out, u := 0, cause := none })
        ∧ t.alarm.points[faultPoint c].cond = false
        ∧ t.answer.map (fun a => (a.status, a.reason)) = some (.done, none)
        ∧ Touches [.chans, .alarm, .shift, .handed, .answer] s t)
    ∧ (s.chans[c].state = .dosing ∨ s.chans[c].state = .hold → exec (.channelServiceOut (c.val + 1)) s = .next
        (answering .refused (some .burnerActive) [] s))
    ∧ (s.chans[c].state = .out → exec (.channelServiceOut (c.val + 1)) s = .next (answering .done none [] s))
    ∧ (s.chans[c].state = .calib → exec (.channelServiceOut (c.val + 1)) s = .next (answering .busy none [] s))

/-- R50, with R46: CHANNEL RESET of a faulted channel with a usable load cell, into IDLE or, while its burner fires, DOSING
with all at 0 and awaiting its plan (the model's own mark, DESIGN CHOICE, log entry 44); with a BAD load cell it is refused;
in every other state it changes nothing; and a number that names no channel. -/
def Obligations.ChannelReset : Prop :=
  (∀ (k : Nat) (s : State), s.phase = .running → k = 0 ∨ 6 < k →
    exec (.channelReset k) s = .next (answering .range none [] s))
  ∧ ∀ (c : Channel) (s : State), s.phase = .running →
    (s.chans[c].state = .fault → cellBad s c = false →
      ∃ t, exec (.channelReset (c.val + 1)) s = .next t
        ∧ t.chans = upd s.chans c (fun x =>
            if burnerFires s c then
              { x with state := .dosing, awaitsPlan := true, cause := none, r := 0, trim := 0, u := 0, inTol := 0
                       devCount := 0, devTrip := 0, stallCount := 0, reverseCount := 0 }
            else { x with state := .idle, cause := none, u := 0 })
        ∧ t.alarm.points[faultPoint c].cond = false
        ∧ t.answer.map (fun a => (a.status, a.reason)) = some (.done, none)
        ∧ Touches [.chans, .alarm, .shift, .handed, .answer] s t)
    ∧ (s.chans[c].state = .fault → cellBad s c = true →
      exec (.channelReset (c.val + 1)) s = .next (answering .refused (some .causePresent) [] s))
    ∧ (s.chans[c].state ≠ .fault → exec (.channelReset (c.val + 1)) s = .next (answering .done none [] s))

/-- R59, R60: an accepted calibration stage, the refusals of a request in their order, and a channel, a test load or a
duration out of range. -/
def Obligations.CalibrationStarts : Prop :=
  (∀ (k testLoad duration : Nat) (s : State), s.phase = .running →
    (k = 0 ∨ 6 < k ∨ duration < 10 ∨ 600 < duration →
      exec (.calibrateZero k duration) s = .next (answering .range none [] s))
    ∧ (k = 0 ∨ 6 < k ∨ duration < 10 ∨ 600 < duration ∨ testLoad = 0 ∨ 65535 < testLoad →
      exec (.calibrateSpan k testLoad duration) s = .next (answering .range none [] s)))
  ∧ ∀ (c : Channel) (testLoad duration : Nat) (s : State), s.phase = .running → 10 ≤ duration → duration ≤ 600 →
    1 ≤ testLoad → testLoad ≤ 65535 →
    let zero := exec (.calibrateZero (c.val + 1) duration) s
    let span := exec (.calibrateSpan (c.val + 1) testLoad duration) s
    let refusal : Option (Status × Option Reason) :=
      if s.chans[c].state = .calib then some (.busy, none)
      else if s.chans[c].state ≠ .out then some (.refused, some .notOut)
      else if s.floor.mode = .settle then some (.refused, some .unsettled)
      else if cellBad s c = true ∨ stopLoopClosed s = false then some (.refused, some .causePresent)
      else none
    let stage (kind : StageKind) (load : Option Nat) : State := s.onChan c fun x =>
      { x with
        state := .calib, u := s.live.chans[c].calDrive, result := none
        stage := some { kind := kind, testLoad := load, duration := duration, timer := some (duration * 1000),
                        drive := s.live.chans[c].calDrive, sum := 0, count := 0 } }
    (∀ (status : Status) (reason : Option Reason), refusal = some (status, reason) →
      zero = .next (answering status reason [] s) ∧ span = .next (answering status reason [] s))
    ∧ (refusal = none →
      zero = .next (answering .done none [] (stage .zero none))
      ∧ span = .next (if s.chans[c].tareConfirmed then answering .done none [] (stage .span (some testLoad))
          else answering .refused (some .noTare) [] s))

/-- R61 to R63: CALIBRATE ABORT in CALIB, and that it changes nothing in another state; the completion of a zero stage that
took samples: a mean of at most 2 048 becomes the confirmed tare, a higher one fails; that of a span stage: a mean at or
below the tare fails, and so does a span above 65 535, else the span is the new one; no other record and no other setting
changes; and that of a stage without samples, whose mean is left open (log entry 14). -/
def Obligations.CalibrationEnds : Prop :=
  (∀ (c : Channel) (g : Stage) (s : State), s.phase = .running →
    (s.chans[c].state = .calib → s.chans[c].stage = some g →
      exec (.calibrateAbort (c.val + 1)) s = .next (answering .done none [] (s.onChan c fun x =>
        { x with
          state := .out, u := 0, stage := none
          result := some { kind := g.kind, outcome := .aborted, reason := some .command, count := none, mean := none,
                           newValue := none } })))
    ∧ (s.chans[c].state ≠ .calib → exec (.calibrateAbort (c.val + 1)) s = .next (answering .done none [] s)))
  ∧ (∀ (c : Channel) (g : Stage) (s : State), s.phase = .running → s.chans[c].state = .calib →
    s.chans[c].stage = some g → g.kind = .zero → 0 < g.count →
    let mean := g.sum / g.count
    ∃ t, exec (.stageTimerExpiry c) s = .next t
      ∧ t.chans = upd s.chans c (fun x => { x with
          state := .out, u := 0, stage := none
          tareConfirmed := x.tareConfirmed || decide (mean ≤ 2048)
          result := some
            { kind := .zero, outcome := if mean ≤ 2048 then .ok else .failed
              reason := if mean ≤ 2048 then none else some .zeroHigh, count := some g.count, mean := some mean
              newValue := if mean ≤ 2048 then some mean else none } })
      ∧ t.store = { s.store with live := { s.live with
          chans := upd s.live.chans c fun x => if mean ≤ 2048 then { x with tare := mean } else x } }
      ∧ Touches [.chans, .store] s t)
  ∧ (∀ (c : Channel) (g : Stage) (load : Nat) (s : State), s.phase = .running → s.chans[c].state = .calib →
    s.chans[c].stage = some g → g.kind = .span → g.testLoad = some load → 0 < g.count →
    let mean := g.sum / g.count
    let span := load * 4096 / (mean - s.live.chans[c].tare)
    let failure : Option CalReason :=
      if mean ≤ s.live.chans[c].tare then some .spanLow else if 65535 < span then some .spanRange else none
    ∃ t, exec (.stageTimerExpiry c) s = .next t
      ∧ t.chans = upd s.chans c (fun x => { x with
          state := .out, u := 0, stage := none
          result := some
            { kind := .span, outcome := if failure.isSome then .failed else .ok, reason := failure
              count := some g.count, mean := some mean, newValue := if failure.isSome then none else some span } })
      ∧ t.store = { s.store with live := { s.live with
          chans := upd s.live.chans c fun x => if failure.isSome then x else { x with span := span } } }
      ∧ Touches [.chans, .store] s t)
  ∧ ∀ (c : Channel) (g : Stage) (s : State), s.phase = .running → s.chans[c].state = .calib →
    s.chans[c].stage = some g → g.count = 0 →
    ∃ t, exec (.stageTimerExpiry c) s = .next t
      ∧ t.chans[c] = { s.chans[c] with state := .out, u := 0, stage := none, result := t.chans[c].result }
      ∧ t.chans[c].result.map (fun r => (r.kind, r.outcome, r.reason, r.count, r.newValue)) =
          some (g.kind, .failed, some .noSamples, some 0, none)
      ∧ (∀ d : Channel, d ≠ c → t.chans[d] = s.chans[d])
      ∧ Touches [.chans, .draws] s t

/-- R47 to R49: a BAD arrival at the load cell of a DOSING channel puts it in HOLD with its drive and target held, the next
good one returns it to DOSING, where both stand until the next plan cycle, which it awaits (the model's own mark, DESIGN
CHOICE, log entry 44), and the hold timer's expiry faults it. R60, R62: an arrival at the load cell of a channel in CALIB
that is not handed BAD adds the last good sample and 1 to the stage, and one that is aborts it; in OUT, IDLE and FAULT an
arrival changes no channel. -/
def Obligations.ChannelHold : Prop :=
  (∀ (c : Channel) (s : State), s.phase = .running → s.chans[c].state = .hold →
    s.chans[c].holdTimer.isSome = true →
    ∃ t, exec (.holdTimerExpiry c) s = .next t
      ∧ t.chans[c].state = .fault ∧ t.chans[c].cause = some .holdExpired ∧ t.chans[c].u = 0 ∧ t.chans[c].r = 0
      ∧ t.chans[c].trim = 0 ∧ t.chans[c].holdTimer = none ∧ t.chans[c].locked = false
      ∧ t.alarm.points[faultPoint c].cond = true ∧ t.alarm.points[holdPoint c].cond = false
      ∧ (∀ d : Channel, d ≠ c → t.chans[d] = s.chans[d])
      ∧ Touches [.chans, .alarm, .shift, .handed] s t)
  ∧ (∀ (c : Channel) (s : State) (sample : Nat), s.phase = .running →
    let i : AnalogIn := ⟨c.val, by omega⟩
    ∃ t, exec (.analogSampleArrival i sample) s = .next t
      ∧ (∀ g : Stage, s.chans[c].state = .calib → s.chans[c].stage = some g →
        let bad : Prop := s.scan.analog[i].force = none ∧ (sample = 0 ∨ 4095 ≤ sample)
          ∧ ¬(s.scan.analog[i].quality = .unsettled ∧ s.floor.mode = .settle)
        let taken : Nat := if s.scan.analog[i].force = none ∧ 1 ≤ sample ∧ sample ≤ 4094 then sample
          else s.scan.analog[i].lastGood
        (bad → t.chans = upd s.chans c (stageAborted .loadCellBad))
        ∧ (¬bad → s.scan.analog[i].force = none ∨ s.scan.analog[i].quality ≠ .bad →
            t.chans = upd s.chans c fun x =>
              { x with stage := some { g with sum := g.sum + taken, count := g.count + 1 } }))
      ∧ (s.chans[c].state = .out ∨ s.chans[c].state = .idle ∨ s.chans[c].state = .fault → t.chans = s.chans)
      ∧ (∀ d : Channel, d ≠ c → t.chans[d] = s.chans[d])
      ∧ Touches [.scan, .chans, .alarm, .shift, .handed] s t)
  ∧ ∀ (c : Channel) (s : State) (sample : Nat), s.phase = .running →
    let i : AnalogIn := ⟨c.val, by omega⟩
    s.scan.analog[i].force = none → s.scan.analog[i].quality ≠ .unsettled →
    (s.chans[c].state = .dosing → sample = 0 ∨ sample = 4095 →
      ∃ t, exec (.analogSampleArrival i sample) s = .next t ∧ t.chans[c].state = .hold ∧ t.chans[c].u = s.chans[c].u
        ∧ t.chans[c].r = s.chans[c].r ∧ t.chans[c].holdTimer = some (s.live.chans[c].holdTime * 1000)
        ∧ t.chans[c].locked = false
        ∧ t.alarm.points[holdPoint c].cond = true)
    ∧ (s.chans[c].state = .hold → 1 ≤ sample → sample ≤ 4094 →
      ∃ t, exec (.analogSampleArrival i sample) s = .next t ∧ t.chans[c].state = .dosing ∧ t.chans[c].u = s.chans[c].u
        ∧ t.chans[c].r = s.chans[c].r ∧ t.chans[c].awaitsPlan = true ∧ t.chans[c].holdTimer = none
        ∧ t.alarm.points[holdPoint c].cond = false)

/-! ## The burners -/

/-- R69, R70: a BURNER LIGHT that passes every check. -/
def Obligations.BurnerLightPurges : Prop :=
  ∀ (b : Burner) (s : State), s.phase = .running → (s.burns.get b).state = .off →
    s.floor.mode ≠ .standby → s.floor.mode ≠ .settle → stopLoopClosed s = true → tripPointInhibited s b = false →
    tripCondPresent s b = false →
    (b = .calciner → s.burns.main.state = .firing ∧
      (s.scan.analog[(20 : AnalogIn)].quality = .good ∨ s.scan.analog[(20 : AnalogIn)].quality = .forced) ∧
      (s.live.burners.calciner.permit : Int) ≤ s.scan.analog[(20 : AnalogIn)].value) →
    s.scan.analog[flameInput b].quality ≠ .bad →
    s.scan.analog[flameInput b].value < ((s.live.burners.get b).flameOn : Int) →
    ∃ t, exec (.burnerLight (burnerCode b)) s = .next t
      ∧ (t.burns.get b).state = .purge ∧ (t.burns.get b).proof = 0 ∧ (t.burns.get b).failure = 0
      ∧ shutoffOpen t b = false ∧ igniterOn t b = false
      ∧ (t.burns.get b).purgeTimer =
          (if draughtInWindow s b then some ((s.live.burners.get b).purgeTime * 1000) else none)
      ∧ (∀ c : Burner, c ≠ b → t.burns.get c = s.burns.get c)
      ∧ t.answer.map (fun a => (a.status, a.reason)) = some (.done, none)
      ∧ Touches [.burns, .answer] s t

/-- R69: BURNER LIGHT of a TRIPPED burner, of one that is lighting or firing, and of one in OFF by the first check that
matches; and a number that names no burner. -/
def Obligations.BurnerLightRefusals : Prop :=
  (∀ (k : Nat) (s : State), s.phase = .running → k ≠ 1 → k ≠ 2 →
    exec (.burnerLight k) s = .next (answering .range none [] s))
  ∧ ∀ (b : Burner) (s : State), s.phase = .running →
    ((s.burns.get b).state = .tripped →
      exec (.burnerLight (burnerCode b)) s = .next (answering .refused (some .tripped) [] s))
    ∧ ((s.burns.get b).state.isActive = true → exec (.burnerLight (burnerCode b)) s = .next (answering .done none [] s))
    ∧ ((s.burns.get b).state = .off →
      let inlet := s.scan.analog[(20 : AnalogIn)]
      let flame := s.scan.analog[flameInput b]
      let check : Option Reason :=
        if s.floor.mode = .standby then some .standby
        else if s.floor.mode = .settle then some .unsettled
        else if stopLoopClosed s = false then some .emergencyStop
        else if tripPointInhibited s b = true then some .tripPointInhibited
        else if tripCondPresent s b = true then some .causePresent
        else if b = .calciner ∧ s.burns.main.state ≠ .firing then some .mainNotFiring
        else if b = .calciner ∧ (inlet.quality = .bad ∨ inlet.quality = .unsettled
            ∨ inlet.value < (s.live.burners.calciner.permit : Int)) then some .inletCold
        else if flame.quality = .bad then some .causePresent
        else if ((s.live.burners.get b).flameOn : Int) ≤ flame.value then some .flamePresent
        else none
      ∀ r : Reason, check = some r →
        exec (.burnerLight (burnerCode b)) s = .next (answering .refused (some r) [] s))

/-- R68, R70 to R72, R76, R79: the purge timer's expiry starts the trial with the igniter on, the stabilise timer's makes the
burner FIRE with H_app at 0 and its IDLE channels in DOSING, awaiting their plan (the model's own mark, DESIGN CHOICE, log
entry 44), and the trial timer's trips it with IGNITION_FAILED. R70, R71, R73, R81: an arrival of the draught starts, keeps
or stops the purge timer, one of the flame counts toward its proof in IGNITION and toward its failure in PROVEN and FIRING,
and one of the inlet temperature trips a CALC that fires; the arrival's own cause is first-out (log entry 45). -/
def Obligations.LightingSequence : Prop :=
  (∀ (sample : Nat) (s : State), s.phase = .running →
    (∃ t, exec (.analogSampleArrival 21 sample) s = .next t ∧ ∀ b : Burner,
      let a := t.scan.analog[(21 : AnalogIn)]
      let set := s.live.burners.get b
      t.burns.get b =
        if (s.burns.get b).state = .purge then { s.burns.get b with
          purgeTimer :=
            if (a.quality = .good ∨ a.quality = .forced) ∧ set.purgeLow ≤ a.value ∧ a.value ≤ set.purgeHigh
            then some ((s.burns.get b).purgeTimer.getD (set.purgeTime * 1000)) else none }
        else s.burns.get b)
    ∧ (∃ t, exec (.analogSampleArrival 20 sample) s = .next t ∧
      let a := t.scan.analog[(20 : AnalogIn)]
      let cold := s.burns.calciner.state = .firing ∧ a.quality ≠ .bad
        ∧ a.value < (s.live.burners.calciner.permit : Int) - 50
      t.burns.main = s.burns.main
      ∧ (cold → t.burns.calciner.state = .tripped
        ∧ t.burns.calciner.firstOut.map (fun r => (r.cause, r.tripFrom)) = some (.inletCold, .firing))
      ∧ (¬cold → t.burns.calciner = s.burns.calciner)))
  ∧ (∀ (b : Burner) (sample : Nat) (s : State), s.phase = .running →
    ∃ t, exec (.analogSampleArrival (flameInput b) sample) s = .next t ∧
      let a := t.scan.analog[flameInput b]
      let set := s.live.burners.get b
      let x := s.burns.get b
      let y := t.burns.get b
      let proof := if a.quality ≠ .bad ∧ (set.flameOn : Int) ≤ a.value then x.proof + 1 else 0
      let failure := if a.quality = .bad ∨ a.value < (set.flameOff : Int) then x.failure + 1 else 0
      (x.state = .ignition → y =
        if 3 ≤ proof then
          { x with state := .proven, trialTimer := none, stabTimer := some 5000, proof := 0, failure := 0 }
        else { x with proof := proof })
      ∧ (x.state = .proven ∨ x.state = .firing →
        (0 < failure → set.failSamples ≤ failure →
          y.state = .tripped ∧ y.firstOut.map (fun r => (r.cause, r.tripFrom)) = some (.flameLost, x.state)
          ∧ shutoffOpen t b = false ∧ igniterOn t b = false ∧ t.alarm.points[tripPointOf b].cond = true)
        ∧ (failure = 0 ∨ failure < set.failSamples → y = { x with failure := failure }))
      ∧ (x.state ≠ .ignition → x.state ≠ .proven → x.state ≠ .firing → y = x)
      ∧ ∀ d : Burner, d ≠ b → t.burns.get d = s.burns.get d)
  ∧ (∀ (b : Burner) (s : State), s.phase = .running →
    ((s.burns.get b).state = .purge → (s.burns.get b).purgeTimer.isSome = true →
      ∃ t, exec (.purgeTimerExpiry b) s = .next t ∧ (t.burns.get b).state = .ignition
        ∧ (t.burns.get b).trialTimer = some ((s.live.burners.get b).trialTime * 1000) ∧ (t.burns.get b).proof = 0
        ∧ igniterOn t b = true ∧ shutoffOpen t b = false ∧ Touches [.burns] s t)
    ∧ ((s.burns.get b).state = .proven → (s.burns.get b).stabTimer.isSome = true →
      ∃ t, exec (.stabiliseTimerExpiry b) s = .next t ∧ (t.burns.get b).state = .firing
        ∧ shutoffOpen t b = true ∧ igniterOn t b = false ∧ (t.planner.demand.get b).hApp = 0
        ∧ (∀ c : Channel, t.chans[c] = if feeds s c b = true ∧ s.chans[c].state = .idle then
            { s.chans[c] with state := .dosing, awaitsPlan := true, r := 0, trim := 0, u := 0, inTol := 0, devCount := 0
                              devTrip := 0, stallCount := 0, reverseCount := 0 } else s.chans[c])
        ∧ Touches [.burns, .planner, .chans] s t))
  ∧ ∀ (b : Burner) (s : State), s.phase = .running → (s.burns.get b).state = .ignition →
    (s.burns.get b).trialTimer.isSome = true →
    ∃ t, exec (.trialTimerExpiry b) s = .next t
      ∧ (t.burns.get b).state = .tripped ∧ (t.burns.get b).trialTimer = none
      ∧ (t.burns.get b).firstOut = some
          { cause := .ignitionFailed, tripFrom := .ignition
            clock := if s.shift.isSet then some ⟨s.shift.seconds, s.shift.day, true⟩ else none, later := 0 }
      ∧ shutoffOpen t b = false ∧ igniterOn t b = false ∧ t.alarm.points[tripPointOf b].cond = true

/-- R76 to R80: a trip cause that is handed to an active burner trips it: the record, the outputs, H_app, the channels, the
point, the count, and MAIN_LOST for CALC when MAIN leaves PROVEN or FIRING; the other burner's demand, the other channels
and their entries, and the other points' records stay. The rest of a block that Touches names is left open. The command acts
whether or not the cause was handed (log entry 12). -/
def Obligations.HandedCauseTrips : Prop :=
  ∀ (b : Burner) (cause : Cause) (i : Instr) (s : State), s.phase = .running → handedCommand (b, cause) = some i →
    (s.burns.get b).state.isActive = true →
    ∃ t, exec i s = .next t
      ∧ t.burns = s.burns.upd b (fun x =>
          { state := .tripped, purgeTimer := none, trialTimer := none, stabTimer := none, proof := 0, failure := 0
            firstOut := some
              { cause := cause, tripFrom := x.state
                clock := if s.shift.isSet then some ⟨s.shift.seconds, s.shift.day, true⟩ else none, later := 0 } })
      ∧ shutoffOpen t b = false ∧ igniterOn t b = false
      ∧ (t.planner.demand.get b).hApp = 0 ∧ (t.planner.demand.get b).hReq = (s.planner.demand.get b).hReq
      ∧ (∀ c : Channel, feeds s c b = true → t.planner.entries[c] = ⟨0, 0, .noRole⟩
          ∧ (s.chans[c].state = .dosing ∨ s.chans[c].state = .hold → t.chans[c].state = .idle ∧ t.chans[c].u = 0)
          ∧ (s.chans[c].state ≠ .dosing → s.chans[c].state ≠ .hold → t.chans[c] = s.chans[c]))
      ∧ (∀ c : Channel, feeds s c b = false →
          t.chans[c] = s.chans[c] ∧ t.planner.entries[c] = s.planner.entries[c])
      ∧ (∀ d : Burner, d ≠ b → t.planner.demand.get d = s.planner.demand.get d)
      ∧ t.planner.hCap = s.planner.hCap ∧ t.planner.planTimer = s.planner.planTimer
      ∧ t.alarm.points[tripPointOf b].cond = true
      ∧ (∀ p : Point, p ≠ tripPointOf b →
          (∀ c : Channel, feeds s c b = true → p ≠ holdPoint c ∧ p ≠ deviationPoint c) →
          t.alarm.points[p] = s.alarm.points[p])
      ∧ t.shift = { s.shift with totals := t.shift.totals }
      ∧ (∀ d : Burner, d ≠ b → t.shift.totals.burns.get d = s.shift.totals.burns.get d)
      ∧ t.shift.totals.chans = s.shift.totals.chans ∧ t.shift.totals.strokes = s.shift.totals.strokes
      ∧ (t.shift.totals.burns.get b).trips = min ((s.shift.totals.burns.get b).trips + 1) 4294967295
      ∧ (b = .main → (s.burns.main.state = .proven ∨ s.burns.main.state = .firing) →
          (Burner.calciner, Cause.mainLost) ∈ t.handed)
      ∧ Touches [.burns, .planner, .chans, .alarm, .shift, .handed] s t

/-- R77: a trip cause, whichever it is, does nothing to a burner in OFF, trips an active one, and raises the later-cause
count alone of a TRIPPED one; a cause that was handed is no longer handed once it is taken (log entry 12). -/
def Obligations.CauseAfterTrip : Prop :=
  (∀ (b : Burner) (cause : Cause) (i : Instr) (s : State), s.phase = .running → handedCommand (b, cause) = some i →
    exec i s = .next (takeCause b cause (s.onHanded fun l => l.erase (b, cause))))
  ∧ ∀ (b : Burner) (cause : Cause) (s : State),
    ((s.burns.get b).state = .off → takeCause b cause s = s)
    ∧ ((s.burns.get b).state.isActive = true →
      ((takeCause b cause s).burns.get b).state = .tripped
      ∧ ((takeCause b cause s).burns.get b).firstOut.map FirstOut.cause = some cause
      ∧ ((takeCause b cause s).burns.get b).firstOut.map FirstOut.later = some 0)
    ∧ ((s.burns.get b).state = .tripped → takeCause b cause s = s.onBurn b fun x =>
      { x with firstOut := x.firstOut.map fun r => { r with later := min (r.later + 1) 255 } })

/-- R75: BURNER STOP of an active burner takes it, and for MAIN an active CALC, to OFF: the timers, the counts and the outputs, and
H_app and the channels of one that was FIRING; it raises no point and counts no trip. In OFF and TRIPPED it changes nothing;
and a number that names no burner. -/
def Obligations.BurnerStops : Prop :=
  (∀ (k : Nat) (s : State), s.phase = .running → k ≠ 1 → k ≠ 2 →
    exec (.burnerStop k) s = .next (answering .range none [] s))
  ∧ ∀ (b : Burner) (s : State), s.phase = .running →
    ((s.burns.get b).state = .off ∨ (s.burns.get b).state = .tripped →
      exec (.burnerStop (burnerCode b)) s = .next (answering .done none [] s))
    ∧ ((s.burns.get b).state.isActive = true →
      let stopped (d : Burner) : Prop := d = b ∨ (b = .main ∧ (s.burns.get d).state.isActive = true)
      ∃ t, exec (.burnerStop (burnerCode b)) s = .next t
        ∧ (∀ d : Burner, stopped d →
          t.burns.get d = { s.burns.get d with
            state := .off, purgeTimer := none, trialTimer := none, stabTimer := none, proof := 0, failure := 0 }
          ∧ shutoffOpen t d = false ∧ igniterOn t d = false
          ∧ (fires s d = true → (t.planner.demand.get d).hApp = 0
            ∧ ∀ c : Channel, feeds s c d = true → s.chans[c].state = .dosing ∨ s.chans[c].state = .hold →
                t.chans[c].state = .idle ∧ t.chans[c].u = 0))
        ∧ (∀ d : Burner, ¬stopped d → t.burns.get d = s.burns.get d)
        ∧ (∀ d : Burner, (t.planner.demand.get d).hReq = (s.planner.demand.get d).hReq
          ∧ (t.shift.totals.burns.get d).trips = (s.shift.totals.burns.get d).trips)
        ∧ (∀ p : Point, t.alarm.points[p].cond = true → s.alarm.points[p].cond = true)
        ∧ t.answer.map (fun a => (a.status, a.reason)) = some (.done, none)
        ∧ Touches [.burns, .planner, .chans, .alarm, .shift, .handed, .answer] s t)

/-- R82: BURNER RESET TRIP, in the order of its checks; in a state other than TRIPPED it changes nothing; and a number that
names no burner. -/
def Obligations.ResetTripReleases : Prop :=
  (∀ (k : Nat) (s : State), s.phase = .running → k ≠ 1 → k ≠ 2 →
    exec (.burnerResetTrip k) s = .next (answering .range none [] s))
  ∧ ∀ (b : Burner) (r : FirstOut) (s : State), s.phase = .running →
    let unacked := isUnacked s (tripPointOf b) = true ∨ ∃ p : Point, r.cause = .alarmPoint p ∧ isUnacked s p = true
    let present := (∃ p : Point, r.cause = .alarmPoint p ∧ s.alarm.points[p].cond = true)
      ∨ (r.cause = .emergencyStop ∧ stopLoopClosed s = false)
    ((s.burns.get b).state ≠ .tripped → exec (.burnerResetTrip (burnerCode b)) s = .next (answering .done none [] s))
    ∧ ((s.burns.get b).state = .tripped → (s.burns.get b).firstOut = some r →
      (unacked → exec (.burnerResetTrip (burnerCode b)) s = .next (answering .refused (some .unacknowledged) [] s))
      ∧ (¬unacked → present →
        exec (.burnerResetTrip (burnerCode b)) s = .next (answering .refused (some .causePresent) [] s))
      ∧ (¬unacked → ¬present →
        ∃ t, exec (.burnerResetTrip (burnerCode b)) s = .next t
          ∧ t.burns = s.burns.upd b (fun x => { x with state := .off, firstOut := none })
          ∧ t.alarm.points[tripPointOf b].cond = false
          ∧ t.alarm.points[tripPointOf b].state =
              (if s.alarm.points[tripPointOf b].cond = true ∧ s.alarm.points[tripPointOf b].state = .activeAck then .normal
               else s.alarm.points[tripPointOf b].state)
          ∧ t.answer.map (fun a => (a.status, a.reason)) = some (.done, none)
          ∧ Touches [.burns, .alarm, .shift, .handed, .answer] s t))

/-! ## The cooler -/

/-- R86, R90 to R92, R94: the end of FORWARD, on to DEAD_A when confirmed or at a first miss and STALLED at a second; and the
ends of DEAD_A, which counts a confirmed stroke with its carry and reports it with G1's clinker, RETURN, REST and the return
guard. R95: RETURN of a run-out ends the stroke; R90: the end of the guard starts a FORWARD that waits for it. R89, R91, R97,
R98: a FORWARD start takes any staged timing, the average of the window as G1's stroke pressure, and in AUTO the new rate of
G1, or of a follower of a RUNNING G1, with its timing staged. -/
def Obligations.StrokePhasesEnd : Prop :=
  (∀ (g : Grate) (s : State), s.phase = .running → s.cooler.grates[g].phase = some .forward →
    s.cooler.grates[g].phaseTimer.isSome = true →
    (s.cooler.grates[g].confirmed = true ∨ s.cooler.grates[g].miss = 0 →
      exec (.forwardExpiry g) s = .next (s.onGrate g fun x =>
        { x with miss := if x.confirmed then 0 else 1, phase := some .deadA, phaseTimer := some x.active.dead }))
    ∧ (s.cooler.grates[g].confirmed = false → s.cooler.grates[g].miss ≠ 0 →
      ∃ t, exec (.forwardExpiry g) s = .next t
        ∧ t.cooler.grates[g] = { s.cooler.grates[g] with
            state := .stalled, phase := none, phaseTimer := none, runOut := false, miss := 2 }
        ∧ forwardOpen t g = false ∧ returnOpen t g = false ∧ t.alarm.points[stallPoint g].cond = true
        ∧ (g = 0 → t.cooler.overload = true)))
  ∧ ∀ (g : Grate) (s : State), s.phase = .running →
    (s.cooler.grates[g].phaseTimer.isSome = true →
      (s.cooler.grates[g].phase = some .deadA → ∃ t, exec (.deadAExpiry g) s = .next t
        ∧ t.cooler.grates[g].phase = some .ret ∧ t.cooler.grates[g].phaseTimer = some s.cooler.grates[g].active.ret
        ∧ (s.cooler.grates[g].confirmed = false →
            t.shift = s.shift ∧ t.cooler.grates[g].strokesLow = s.cooler.grates[g].strokesLow)
        ∧ (s.cooler.grates[g].confirmed = true →
            (s.cooler.grates[g].strokesLow < 65535 →
              t.cooler.grates[g].strokesLow = s.cooler.grates[g].strokesLow + 1
              ∧ t.cooler.grates[g].strokesHigh = s.cooler.grates[g].strokesHigh)
            ∧ (65535 ≤ s.cooler.grates[g].strokesLow →
              t.cooler.grates[g].strokesLow = 0
              ∧ (s.cooler.grates[g].strokesHigh < 4294967295 →
                t.cooler.grates[g].strokesHigh = s.cooler.grates[g].strokesHigh + 1))
            ∧ t.shift.totals = { s.shift.totals with
                strokes := upd s.shift.totals.strokes g fun n =>
                  if n.low < 65535 then { n with low := n.low + 1 }
                  else if n.high < 4294967295 then { low := 0, high := n.high + 1 } else n
                clinker := if g = 0 then min (s.shift.totals.clinker +
                    ((s.cooler.grates[(0 : Grate)].strokePressure.getD 0)
                      * s.live.grates[(0 : Grate)].clinkerFactor / 1000).toNat) 18446744073709551615
                  else s.shift.totals.clinker }
            ∧ t.shift = { s.shift with totals := t.shift.totals })
        ∧ t.cooler.grates[g] = { s.cooler.grates[g] with
            phase := some .ret, phaseTimer := some s.cooler.grates[g].active.ret
            strokesLow := t.cooler.grates[g].strokesLow, strokesHigh := t.cooler.grates[g].strokesHigh }
        ∧ (∀ h : Grate, h ≠ g → t.cooler.grates[h] = s.cooler.grates[h])
        ∧ Touches [.cooler, .shift] s t)
      ∧ (s.cooler.grates[g].phase = some .ret → s.cooler.grates[g].state = .running →
          exec (.returnExpiry g) s = .next (s.onGrate g fun x =>
            { x with guard := some 0, phase := some .rest
                     phaseTimer := some (x.active.period - x.active.forward - x.active.ret - x.active.dead) }))
      ∧ (s.cooler.grates[g].phase = some .ret → s.cooler.grates[g].state = .single →
          exec (.returnExpiry g) s = .next (s.onGrate g fun x =>
            { x with guard := some 0, state := .stopped, phase := none, phaseTimer := none }))
      ∧ (s.cooler.grates[g].phase = some .ret → s.cooler.grates[g].state = .stopped →
          exec (.returnExpiry g) s = .next (s.onGrate g fun x =>
            { x with guard := some 0, runOut := false, phase := none, phaseTimer := none }))
      ∧ (s.cooler.grates[g].phase = some .rest → s.cooler.grates[g].guard.isSome = true →
          exec (.restExpiry g) s = .next (s.onGrate g fun x => { x with phaseTimer := none }))
      ∧ (s.cooler.grates[g].phase = some .rest → s.cooler.grates[g].guard = none →
          ∃ t, exec (.restExpiry g) s = .next t ∧ forwardOpen t g = true
            ∧ t.cooler.grates[g] = strokeBegun s g ∧ (∀ h : Grate, h ≠ g → t.cooler.grates[h] = s.cooler.grates[h])
            ∧ t.cooler.window = s.cooler.window
            ∧ t.cooler.grates[g].active = s.cooler.grates[g].staged.getD s.cooler.grates[g].active
            ∧ t.cooler.grates[g].phaseTimer = some t.cooler.grates[g].active.forward ∧ Touches [.cooler] s t))
    ∧ (s.cooler.grates[g].guard.isSome = true → s.cooler.grates[g].phase = some .rest →
        s.cooler.grates[g].phaseTimer = none → ∃ t, exec (.returnGuardEnd g) s = .next t
          ∧ forwardOpen t g = true ∧ returnOpen t g = false ∧ t.cooler.grates[g].guard = none
          ∧ t.cooler.grates[g] = strokeBegun s g ∧ (∀ h : Grate, h ≠ g → t.cooler.grates[h] = s.cooler.grates[h])
          ∧ t.cooler.window = s.cooler.window ∧ t.cooler.grates[g].confirmed = false
          ∧ t.cooler.grates[g].active = s.cooler.grates[g].staged.getD s.cooler.grates[g].active
          ∧ t.cooler.grates[g].phaseTimer = some t.cooler.grates[g].active.forward ∧ Touches [.cooler] s t)
    ∧ (s.cooler.grates[g].guard.isSome = true → ¬(s.cooler.grates[g].phase = some .rest
        ∧ s.cooler.grates[g].phaseTimer = none) →
        exec (.returnGuardEnd g) s = .next (s.onGrate g fun x => { x with guard := none }))

/-- R93, R94, R97, R98: GRATE RUN and GRATE SINGLE in every state of the section: a start of a STOPPED section that nothing
bars, which opens the forward valve in its event as every FORWARD start does, goes on with a run-out, or waits in REST for
the return guard; GRATE SINGLE of a section that still waits so takes it to STOPPED as R94 has it of a stroke in REST (DESIGN
CHOICE, log entry 53); the refusals, of which the first in the order of R93's sentences is answered where several hold
(DESIGN CHOICE, log entry 52); and a number that names no section. -/
def Obligations.GrateStarts : Prop :=
  (∀ (k : Nat) (s : State), s.phase = .running → k = 0 ∨ 3 < k →
    exec (.grateRun k) s = .next (answering .range none [] s)
    ∧ exec (.grateSingle k) s = .next (answering .range none [] s))
  ∧ ∀ (g : Grate) (s : State), s.phase = .running →
    let run := exec (.grateRun (g.val + 1)) s
    let once := exec (.grateSingle (g.val + 1)) s
    let x := s.cooler.grates[g]
    let check : Option Reason :=
      if s.floor.mode = .standby then some .standby
      else if s.floor.mode = .settle then some .unsettled
      else if stopLoopClosed s = false then some .emergencyStop
      else if g = 2 ∧ crusherRuns s = false then some .crusherStopped
      else none
    (x.state = .stalled → run = .next (answering .refused (some .stalled) [] s)
      ∧ once = .next (answering .refused (some .stalled) [] s))
    ∧ (x.state = .running → run = .next (answering .done none [] s)
      ∧ once = .next (answering .done none [] (s.onGrate g fun x =>
          if x.phase = some .rest then { x with state := .stopped, phase := none, phaseTimer := none }
          else { x with state := .single })))
    ∧ (x.state = .single → once = .next (answering .done none [] s)
      ∧ run = .next (answering .done none [] (s.onGrate g fun x => { x with state := .running })))
    ∧ (x.state = .stopped →
      (∀ r : Reason, check = some r → run = .next (answering .refused (some r) [] s)
        ∧ once = .next (answering .refused (some r) [] s))
      ∧ (check = none → ∀ single : Bool,
        let started : GrateState := if single then .single else .running
        let request : Instr := if single then .grateSingle (g.val + 1) else .grateRun (g.val + 1)
        (x.runOut = true → exec request s = .next (answering .done none [] (s.onGrate g fun x =>
          { x with state := started, runOut := false })))
        ∧ (x.runOut = false → x.guard.isSome = true → exec request s = .next (answering .done none [] (s.onGrate g fun x =>
          { x with state := started, phase := some .rest, phaseTimer := none })))
        ∧ (x.runOut = false → x.guard = none → ∃ t, exec request s = .next t
          ∧ t.cooler.grates[g].state = started
          ∧ t.cooler.grates[g] = { strokeBegun s g with state := started }
          ∧ forwardOpen t g = true ∧ returnOpen t g = false ∧ t.cooler.grates[g].confirmed = false
          ∧ t.cooler.grates[g].active = x.staged.getD x.active
          ∧ (∀ h : Grate, h ≠ g → t.cooler.grates[h] = s.cooler.grates[h])
          ∧ t.answer.map (fun a => (a.status, a.reason)) = some (.done, none)
          ∧ Touches [.cooler, .answer] s t)))

/-- R95, R96: GRATE STOP through the end of the stroke, and GRATE RESET out of STALLED; and a number that names no
section. -/
def Obligations.GrateStopsAndResets : Prop :=
  (∀ (k : Nat) (s : State), s.phase = .running → k = 0 ∨ 3 < k →
    exec (.grateStop k) s = .next (answering .range none [] s)
    ∧ exec (.grateReset k) s = .next (answering .range none [] s))
  ∧ ∀ (g : Grate) (s : State), s.phase = .running →
    (s.cooler.grates[g].state = .running ∨ s.cooler.grates[g].state = .single →
      (s.cooler.grates[g].phase = some .forward ∨ s.cooler.grates[g].phase = some .deadA
          ∨ s.cooler.grates[g].phase = some .ret →
        exec (.grateStop (g.val + 1)) s = .next (answering .done none [] (s.onGrate g fun x =>
          { x with state := .stopped, runOut := true })))
      ∧ (s.cooler.grates[g].phase = some .rest →
        exec (.grateStop (g.val + 1)) s = .next (answering .done none [] (s.onGrate g fun x =>
          { x with state := .stopped, phase := none, phaseTimer := none }))))
    ∧ (s.cooler.grates[g].state = .stopped ∨ s.cooler.grates[g].state = .stalled →
        exec (.grateStop (g.val + 1)) s = .next (answering .done none [] s))
    ∧ (s.cooler.grates[g].state = .stalled → ∃ t, exec (.grateReset (g.val + 1)) s = .next t
        ∧ t.cooler.grates[g] = { s.cooler.grates[g] with
            state := .stopped, phase := none, phaseTimer := none, runOut := false, miss := 0 }
        ∧ (∀ h : Grate, h ≠ g → t.cooler.grates[h] = s.cooler.grates[h])
        ∧ t.alarm.points[stallPoint g].cond = false
        ∧ t.answer.map (fun a => (a.status, a.reason)) = some (.done, none)
        ∧ Touches [.cooler, .alarm, .shift, .handed, .answer] s t)
    ∧ (s.cooler.grates[g].state ≠ .stalled →
        exec (.grateReset (g.val + 1)) s = .next (answering .done none [] s))

/-- R88, R89, R90, R97, R98: COOLER SET stores its five fields, sets the rate in MANUAL, and stages a timing whose REST is
no shorter than its dead time; a guard that the new dead time has outrun ends, and a FORWARD that waits for it starts; a
field or a section out of range. -/
def Obligations.CoolerSetStages : Prop :=
  (∀ (k mode rate forward ret dead : Nat) (s : State), s.phase = .running →
    k = 0 ∨ 3 < k ∨ 1 < mode ∨ rate < 20 ∨ 300 < rate ∨ forward < 200 ∨ 20000 < forward ∨ ret < 200 ∨ 20000 < ret
      ∨ dead < 50 ∨ 2000 < dead →
    exec (.coolerSet k mode rate forward ret dead) s = .next (answering .range none [] s))
  ∧ ∀ (g : Grate) (mode rate forward ret dead : Nat) (s : State), s.phase = .running → mode ≤ 1 →
    20 ≤ rate → rate ≤ 300 → 200 ≤ forward → forward ≤ 20000 → 200 ≤ ret → ret ≤ 20000 → 50 ≤ dead → dead ≤ 2000 →
    let x := s.cooler.grates[g]
    let r := if mode = 1 then rate else x.rate
    let period := max (600000 / r) (forward + ret + 2 * dead)
    let stored := s.onLive fun l => { l with grates := upd l.grates g fun y =>
      { y with mode := if mode = 1 then .manual else .auto, manualRate := rate, forward := forward, ret := ret
               dead := dead } }
    let staged := stored.onGrate g fun y => { y with rate := r, staged := some ⟨forward, ret, dead, period⟩ }
    dead ≤ period - forward - ret - dead
    ∧ ((∀ since : Nat, x.guard = some since → since < dead) →
      exec (.coolerSet (g.val + 1) mode rate forward ret dead) s = .next (answering .done none [] staged))
    ∧ (∀ since : Nat, x.guard = some since → dead ≤ since →
      (¬(x.phase = some .rest ∧ x.phaseTimer = none) →
        exec (.coolerSet (g.val + 1) mode rate forward ret dead) s = .next
          (answering .done none [] (staged.onGrate g fun y => { y with guard := none })))
      ∧ (x.phase = some .rest → x.phaseTimer = none →
        ∃ t, exec (.coolerSet (g.val + 1) mode rate forward ret dead) s = .next t
          ∧ forwardOpen t g = true ∧ t.cooler.grates[g].guard = none
          ∧ t.cooler.grates[g] = strokeBegun staged g
          ∧ t.cooler.grates[g].active = ⟨forward, ret, dead, period⟩ ∧ t.live = stored.live
          ∧ t.answer.map (fun a => (a.status, a.reason)) = some (.done, none)
          ∧ Touches [.cooler, .store, .answer] s t))

/-- R99, R100, R102: FAN SET in every mode and cooler state, with the damper of an on fan by its table in use; off, which
clears a failure condition; and a number, an option or a target out of range. Option 0 is on and 1 off, by their places in the
owner's list (R176, log entry 20), and the table in use is that of the last plan cycle (R99, log entry 49). -/
def Obligations.FanSetMovesDamper : Prop :=
  (∀ (k option target : Nat) (s : State), s.phase = .running → k = 0 ∨ 8 < k ∨ 1 < option ∨ 1200 < target →
    exec (.fanSet k option target) s = .next (answering .range none [] s))
  ∧ ∀ (f : Fan) (target : Nat) (s : State), s.phase = .running → target ≤ 1200 →
    let eff := if s.cooler.overload = true ∧ f.val < 3 then min 1200 (target + s.live.cooler.boost) else target
    exec (.fanSet (f.val + 1) 0 target) s = .next (answering .done none [] (s.onFan f fun x =>
      let trim := if x.on then x.trim else 0
      { x with
        on := true, target := target, effTarget := eff, trim := trim, failCount := if x.on then x.failCount else 0
        damper := if s.floor.mode = .standby ∨ s.floor.mode = .settle then s.live.fans[f].standby
                  else (clampInt 0 1000 (tablePosition x.table eff + trim)).toNat }))
    ∧ ∃ t, exec (.fanSet (f.val + 1) 1 target) s = .next t
      ∧ t.cooler = (s.onFan f fun x =>
          { x with on := false, target := target, effTarget := eff, trim := 0, damper := 0, failCount := 0
                   failCond := false }).cooler
      ∧ t.alarm.points[fanPoint f].cond =
          (if s.cooler.fans[f].failCond then false else s.alarm.points[fanPoint f].cond)
      ∧ t.answer.map (fun a => (a.status, a.reason)) = some (.done, none)
      ∧ Touches [.cooler, .alarm, .shift, .handed, .answer] s t

/-! ## The Alarm Table -/

/-- R112 to R114, R116, R123, R129: ALARM RAISE and ALARM CLEAR of an external point in each of its states: the activation,
with its placement, of one in NORMAL, and of one in CLEARED_UNACK, which keeps its place; the suppressed activation in
SHELVED and DISABLED; ACTIVE_UNACK to CLEARED_UNACK, which keeps its place, and ACTIVE_ACK to NORMAL; the trips of a point
that becomes present in any state; and a report that names the condition held, which changes nothing. Points 1 to 83 are
refused, and a number that names no point is answered RANGE. The list of causes handed is the model's own (log entry 12). -/
def Obligations.ExternalPoints : Prop :=
  (∀ (k : Nat) (s : State), s.phase = .running → k = 0 ∨ 96 < k →
    exec (.alarmRaise k) s = .next (answering .range none [] s)
    ∧ exec (.alarmClear k) s = .next (answering .range none [] s))
  ∧ ∀ (p : Point) (s : State), s.phase = .running →
    let raise : Instr := .alarmRaise (p.val + 1)
    let clear : Instr := .alarmClear (p.val + 1)
    let x := s.alarm.points[p]
    let stored := s.onPoint p fun x => { x with cond := true }
    (p.val < 83 → exec raise s = .next (answering .refused (some .notExternal) [] s)
        ∧ exec clear s = .next (answering .refused (some .notExternal) [] s))
    ∧ (83 ≤ p.val → x.cond = true →
        exec raise s = .next (answering .done none [] s)
        ∧ exec clear s = .next (answering .done none [] (s.onPoint p fun x =>
            { x with
              cond := false
              state := match x.state with
                | .activeUnack => .clearedUnack
                | .activeAck => .normal
                | y => y })))
    ∧ (83 ≤ p.val → x.cond = false →
        exec clear s = .next (answering .done none [] s)
        ∧ ∃ t, exec raise s = .next t
          ∧ (x.state = .normal ∨ x.state = .clearedUnack → Activated p stored t)
          ∧ (x.state = .activeUnack ∨ x.state = .activeAck → t.alarm = stored.alarm ∧ t.shift = s.shift)
          ∧ (x.state = .shelved ∨ x.state = .disabled → t.alarm = stored.alarm
            ∧ t.shift = { s.shift with totals := { s.shift.totals with
                suppressed := min (s.shift.totals.suppressed + 1) 4294967295 } })
          ∧ t.handed = s.handed ++ (match s.live.points[p].target with
              | .noTrip => []
              | .main => [(.main, .alarmPoint p)]
              | .calciner => [(.calciner, .alarmPoint p)]
              | .both => [(.main, .alarmPoint p), (.calciner, .alarmPoint p)])
          ∧ t.answer.map (fun a => (a.status, a.reason)) = some (.done, none)
          ∧ Touches [.alarm, .shift, .handed, .answer] s t)

/-- R113, R124 to R127: an acknowledgement of the point on top of the list, by either request, promotes the head of the
waiting queue; ALARM ACK TOP with an empty list names no point. The point number of the reply is one byte (DESIGN CHOICE,
log entry 48). -/
def Obligations.AcknowledgeTop : Prop :=
  (∀ s : State, s.phase = .running → s.alarm.list = [] →
    exec .alarmAckTop s = .next (answering .done none [0#8] s))
  ∧ ∀ (p : Point) (rest : List Point) (s : State), s.phase = .running → s.alarm.list = p :: rest →
    isUnacked s p = true →
    ∀ top : Bool, ∃ t, exec (if top then .alarmAckTop else .alarmAckPoint (p.val + 1)) s = .next t
      ∧ t.alarm.points = upd s.alarm.points p (fun x =>
          { x with state := if x.state = .activeUnack then .activeAck else .normal })
      ∧ t.alarm.list = (match s.alarm.queue with | [] => rest | q :: _ => q :: rest)
      ∧ t.alarm.queue = s.alarm.queue.drop 1
      ∧ t.alarm.silenced = (match s.alarm.queue with
          | [] => s.alarm.silenced
          | q :: _ => s.alarm.silenced && !decide (priorityOf s q ≤ 2))
      ∧ t.answer.map (fun a => (a.status, a.data)) = some (.done, if top then [BitVec.ofNat 8 (p.val + 1)] else [])
      ∧ Touches [.alarm, .answer] s t

/-- R125, R128: ACK ALL empties the list and the queue, places nothing and leaves the silenced flag; HORN SILENCE sets that
flag; the horn is off after either. The count of the reply is one byte (DESIGN CHOICE, log entry 48). -/
def Obligations.AcknowledgeAllAndSilence : Prop :=
  (∀ s : State, s.phase = .running → ∃ t, exec .alarmAckAll s = .next t
    ∧ t.alarm.list = [] ∧ t.alarm.queue = [] ∧ t.alarm.silenced = s.alarm.silenced
    ∧ (∀ p : Point, t.alarm.points[p] = { s.alarm.points[p] with
        state := match s.alarm.points[p].state with
          | .activeUnack => .activeAck
          | .clearedUnack => .normal
          | x => x })
    ∧ hornSounds t = false
    ∧ t.answer.map (fun a => (a.status, a.data)) =
        some (.done, [BitVec.ofNat 8 ((List.finRange 96).filter (isUnacked s)).length])
    ∧ Touches [.alarm, .answer] s t)
  ∧ ∀ s : State, s.phase = .running →
    exec .hornSilence s = .next (answering .done none [] (s.onAlarm fun x => { x with silenced := true }))
    ∧ ∀ t, exec .hornSilence s = .next t → hornSounds t = false

/-- R113, R114, R118 to R121, R123, R124: ALARM SHELVE by its checks in order, and ALARM DISABLE, each of which takes a point
with a place off the list, where the head of the waiting queue is promoted, or out of the queue; ALARM UNSHELVE, the shelve
expiry, which acts on any SHELVED point (log entry 16), and ALARM ENABLE, after which a present point is activated and placed
and an absent one is NORMAL, and which change nothing in another state; and a number that names no point. -/
def Obligations.ShelveAndDisable : Prop :=
  (∀ (k n : Nat) (s : State), s.phase = .running → k = 0 ∨ 96 < k →
    exec (.alarmShelve k n) s = .next (answering .range none [] s)
    ∧ exec (.alarmUnshelve k) s = .next (answering .range none [] s)
    ∧ exec (.alarmDisable k) s = .next (answering .range none [] s)
    ∧ exec (.alarmEnable k) s = .next (answering .range none [] s))
  ∧ ∀ (p : Point) (n : Nat) (s : State), s.phase = .running →
    let x := s.alarm.points[p]
    let freed := s.onPoint p fun x => { x with state := .normal, shelve := none }
    let shelved := s.onPoint p fun x =>
      { x with state := .shelved, shelve := some (if n = 0 then s.live.shelveDefault else if n ≤ 480 then n else 480) }
    let disabled := s.onPoint p fun x => { x with state := .disabled, shelve := none }
    let active : Prop := ∃ b : Burner, (tripTarget s p).includes b = true ∧ (s.burns.get b).state ≠ .off
    (tripTarget s p ≠ .noTrip →
        exec (.alarmShelve (p.val + 1) n) s = .next (answering .refused (some .tripPoint) [] s))
    ∧ (tripTarget s p = .noTrip → x.state = .disabled →
        exec (.alarmShelve (p.val + 1) n) s = .next (answering .refused (some .disabled) [] s))
    ∧ (tripTarget s p = .noTrip → x.state ≠ .disabled → ∃ t, exec (.alarmShelve (p.val + 1) n) s = .next t
        ∧ Unplaced p shelved t
        ∧ t.answer.map (fun a => (a.status, a.reason)) = some (if n ≤ 480 then .done else .clamped, none)
        ∧ Touches [.alarm, .answer] s t)
    ∧ (active → exec (.alarmDisable (p.val + 1)) s = .next (answering .refused (some .burnerActive) [] s))
    ∧ (¬active → ∃ t, exec (.alarmDisable (p.val + 1)) s = .next t
        ∧ Unplaced p disabled t
        ∧ t.answer.map (fun a => (a.status, a.reason)) = some (.done, none)
        ∧ Touches [.alarm, .answer] s t)
    ∧ (x.state ≠ .shelved → exec (.alarmUnshelve (p.val + 1)) s = .next (answering .done none [] s)
        ∧ exec (.shelveExpiry p) s = .next s)
    ∧ (x.state ≠ .disabled → exec (.alarmEnable (p.val + 1)) s = .next (answering .done none [] s))
    ∧ (∀ request : Instr, (x.state = .shelved ∧ (request = .alarmUnshelve (p.val + 1) ∨ request = .shelveExpiry p))
          ∨ (x.state = .disabled ∧ request = .alarmEnable (p.val + 1)) →
        ∃ t, exec request s = .next t
          ∧ (x.cond = true → Activated p freed t)
          ∧ (x.cond = false → t.alarm = freed.alarm ∧ t.shift = s.shift)
          ∧ (request = .shelveExpiry p → t.answer = s.answer)
          ∧ (request ≠ .shelveExpiry p → t.answer.map (fun a => (a.status, a.reason)) = some (.done, none))
          ∧ Touches [.alarm, .shift, .answer] s t)

/-! ## The shift -/

/-- R133, R135, R119: an expiry of the second timer advances the clock, around midnight too, closes the shift at a boundary of
a SET clock, and in a whole minute counts the shelves down; between minutes it does no more (log entry 7). R134: CLOCK SET
stores a time, or refuses one out of range. -/
def Obligations.ShiftClock : Prop :=
  (∀ s : State, s.phase = .running → s.shift.secondTimer.isSome = true → s.shift.seconds < 86399 →
    (s.shift.seconds + 1) % 60 ≠ 0 →
    exec .secondTimerExpiry s = .next (s.onShift fun x =>
      { x with seconds := x.seconds + 1, shiftSeconds := min (x.shiftSeconds + 1) 4294967295, secondTimer := some 1000 }))
  ∧ (∀ s : State, s.phase = .running → s.shift.secondTimer.isSome = true → s.live.shiftStart ≤ 1439 →
    s.live.shiftLength ∈ [240, 360, 480, 720] →
    let seconds := if 86399 ≤ s.shift.seconds then 0 else s.shift.seconds + 1
    let boundary := s.shift.isSet = true
      ∧ ∃ k : Fin 6, 60 * ((s.live.shiftStart + k.val * s.live.shiftLength) % 1440) = seconds
    ∃ t, exec .secondTimerExpiry s = .next t
      ∧ t.shift.seconds = seconds ∧ t.shift.secondTimer = some 1000 ∧ t.shift.isSet = s.shift.isSet
      ∧ t.shift.day = (if 86399 ≤ s.shift.seconds then min (s.shift.day + 1) 65535 else s.shift.day)
      ∧ (boundary → t.shift.shiftSeconds = 0 ∧ t.shift.unopened = true ∧ t.shift.startClock = ⟨seconds, t.shift.day, true⟩
          ∧ t.shift.ring.getLast?.map (fun r => (r.seq, r.reason, r.duration)) =
              some (s.shift.nextSeq, .boundary, min (s.shift.shiftSeconds + 1) 4294967295))
      ∧ (¬boundary → t.shift.shiftSeconds = min (s.shift.shiftSeconds + 1) 4294967295 ∧ t.shift.ring = s.shift.ring
          ∧ t.shift.nextSeq = s.shift.nextSeq ∧ t.shift.startClock = s.shift.startClock
          ∧ t.shift.unopened = s.shift.unopened)
      ∧ (seconds % 60 = 0 → ∀ (p : Point) (n : Nat), s.alarm.points[p].state = .shelved →
          s.alarm.points[p].shelve = some n →
          (1 < n → t.alarm.points[p].state = .shelved ∧ t.alarm.points[p].shelve = some (n - 1))
          ∧ (n ≤ 1 → t.alarm.points[p].shelve = none ∧ t.alarm.points[p].state =
              if s.alarm.points[p].cond then .activeUnack else .normal))
      ∧ t.shift.transfer = s.shift.transfer ∧ Touches [.shift, .alarm] s t)
  ∧ ∀ (seconds day : Nat) (s : State), s.phase = .running →
    (seconds ≤ 86399 → day ≤ 65535 →
      let t := s.onShift fun x => { x with seconds := seconds, day := day, isSet := true, secondTimer := some 1000 }
      exec (.clockSet seconds day) s = .next (answering .done none (clockBytes ⟨seconds, day, true⟩) t))
    ∧ (86399 < seconds ∨ 65535 < day → exec (.clockSet seconds day) s = .next (answering .range none [] s))

/-- R136, R139, R141: SHIFT CLOSE closes the report of the totals, restarts them, and keeps at most four reports; R131's
counts restart too. -/
def Obligations.ShiftCloseRestarts : Prop :=
  ∀ s : State, s.phase = .running → s.shift.nextSeq < 4294967295 → s.shift.ring.length ≤ 4 →
    ∃ t, exec .shiftClose s = .next t
      ∧ t.shift.ring = s.shift.ring.drop (s.shift.ring.length - 3) ++
          [{ seq := s.shift.nextSeq, reason := .command, startClock := s.shift.startClock
             endClock := ⟨s.shift.seconds, s.shift.day, s.shift.isSet⟩, duration := s.shift.shiftSeconds
             totals := s.shift.totals }]
      ∧ t.shift.totals = { ({} : Totals) with maxWaiting := s.alarm.queue.length }
      ∧ t.shift.nextSeq = s.shift.nextSeq + 1 ∧ t.shift.shiftSeconds = 0 ∧ t.shift.unopened = true
      ∧ t.shift.startClock = ⟨s.shift.seconds, s.shift.day, s.shift.isSet⟩ ∧ t.shift.isSet = s.shift.isSet
      ∧ t.shift.secondTimer = s.shift.secondTimer
      ∧ t.shift.transfer = s.shift.transfer ∧ t.shift.seconds = s.shift.seconds ∧ t.shift.day = s.shift.day
      ∧ (∀ p : Point, t.alarm.points[p] = { s.alarm.points[p] with count := 0 })
      ∧ t.alarm.list = s.alarm.list ∧ t.alarm.queue = s.alarm.queue
      ∧ t.answer.map Answered.data = some (be 4 s.shift.nextSeq)
      ∧ Touches [.shift, .alarm, .answer] s t

/-- R142, R143, R145, R177: the bytes of a FULL, a DELTA and a COMPARE record, and the length of a FULL one. R144, R145, R147:
REPORT OPEN of RUNNING, and of a closed report at each position, opens the transfer of that record, in FULL with the fallback
flag where no older report is there, answers what it has opened, and clears the unopened flag at the newest closed report; a
source or a form out of range leaves an open transfer. R146: REPORT PART answers the bytes of a part of every transfer whose
source is RUNNING or still in the ring, and NO_TRANSFER, GONE and RANGE. The fallback flag is answered by its place in the
owner's list (log entry 20), and the kJ of the specific heat are not wrapped (log entry 29). -/
def Obligations.ReportTransfer : Prop :=
  (∀ (r : Report) (fallback : Bool),
    let present := (List.finRange 6).filter fun c => r.totals.chans[c].mark
    fullRecord r fallback =
      recordHead r .full fallback (reportHeat r.totals).isSome none
      ++ (present.flatMap fun c => be 1 (c.val + 1)
          ++ (fieldsOfChannel r.totals.chans[c]).flatMap fun x => be x.1 x.2)
      ++ ((fieldsOfReport [] r.totals).flatMap fun x => be x.1 x.2)
      ++ (match reportHeat r.totals with | none => [] | some h => be 4 h)
    ∧ (fullRecord r fallback).length = 149 + 25 * present.length + (if 0 < r.totals.clinker then 4 else 0))
  ∧ (∀ r o : Report,
    let covered := (List.finRange 6).filter fun c => r.totals.chans[c].mark || o.totals.chans[c].mark
    let pairs := (fieldsOfReport covered r.totals).zip (fieldsOfReport covered o.totals)
    let heat := reportHeat r.totals
    let older := reportHeat o.totals
    let marks := (pairs.map fun x => decide (x.1.2 ≠ x.2.2)) ++ [heat.isSome && decide (heat ≠ older)]
    let size := (marks.length + 7) / 8
    let mask := ((deltaRecord r o).drop 31).take size
    let signed (a b : Nat) : List Byte := beS 8 (max (-9223372036854775808) (min 9223372036854775807 ((a : Int) - b)))
    deltaRecord r o =
      recordHead r .delta false heat.isSome (some o.seq) ++ be 1 (presentBits o.totals) ++ mask
      ++ ((pairs.filter fun x => decide (x.1.2 ≠ x.2.2)).flatMap fun x => be x.1.1 x.1.2)
      ++ (if heat = older then [] else match heat with | none => [] | some h => be 4 h)
    ∧ mask.length = size
    ∧ (∀ k : Fin 56, k.val < 8 * size →
        (mask.getD (k.val / 8) 0#8).getLsbD (7 - k.val % 8) = marks.getD k.val false)
    ∧ compareRecord r o =
      recordHead r .compare false (heat.isSome && older.isSome) (some o.seq) ++ be 1 (presentBits o.totals)
      ++ (pairs.flatMap fun x => signed x.1.2 x.2.2)
      ++ (match heat, older with | some a, some b => signed a b | _, _ => []))
  ∧ (∀ (source form : Nat) (s : State), s.phase = .running → form ≤ 2 →
    let asked : Form := if form = 0 then .full else if form = 1 then .delta else .compare
    let opened (r : Report) (older : Option Report) : Prop :=
      let x : Transfer :=
        { closed := decide (source ≠ 16), seq := r.seq
          form := if older = none then .full else asked
          fallback := decide (older = none ∧ form ≠ 0)
          older := if form = 0 then none else older.map Report.seq
          record := match older with
            | none => fullRecord r (decide (form ≠ 0))
            | some o => if form = 0 then fullRecord r false else if form = 1 then deltaRecord r o else compareRecord r o }
      ∃ t, exec (.reportOpen source form) s = .next t
        ∧ t.shift = { s.shift with unopened := s.shift.unopened && decide (source ≠ 0), transfer := some x }
        ∧ t.answer.map (fun a => (a.status, a.reason, a.data)) = some (.done, none,
            be 4 r.seq ++ be 1 x.form.code ++ be 1 (if x.fallback then 0 else 1)
            ++ (match x.older with | none => List.replicate 4 255#8 | some n => be 4 n)
            ++ be 2 x.record.length ++ be 1 ((x.record.length + 99) / 100))
        ∧ Touches [.shift, .answer] s t
    (source = 16 → opened
      { seq := s.shift.nextSeq, reason := .running, startClock := s.shift.startClock
        endClock := ⟨s.shift.seconds, s.shift.day, s.shift.isSet⟩, duration := s.shift.shiftSeconds
        totals := s.shift.totals } s.shift.ring.reverse[0]?)
    ∧ ∀ r : Report, s.shift.ring.reverse[source]? = some r → source ≤ 3 → opened r s.shift.ring.reverse[source + 1]?)
  ∧ (∀ (source form : Nat) (s : State), s.phase = .running →
    2 < form ∨ (3 < source ∧ source ≠ 16) ∨ (source ≤ 3 ∧ s.shift.ring.length ≤ source) →
    exec (.reportOpen source form) s = .next (answering .range none [] s))
  ∧ ∀ (k : Nat) (s : State), s.phase = .running →
    (s.shift.transfer = none → exec (.reportPart k) s = .next (answering .noTransfer none [] s))
    ∧ ∀ x : Transfer, s.shift.transfer = some x →
      let held := x.closed = false ∨ ∃ r ∈ s.shift.ring, r.seq = x.seq
      let parts := (x.record.length + 99) / 100
      (¬held → exec (.reportPart k) s = .next
        (answering .gone none [] (s.onShift fun y => { y with transfer := none })))
      ∧ (held → k = 0 ∨ parts < k → exec (.reportPart k) s = .next (answering .range none [] s))
      ∧ (held → 1 ≤ k → k ≤ parts → exec (.reportPart k) s = .next (answering .done none
          (be 1 k ++ be 1 parts ++ (x.record.drop (100 * (k - 1))).take 100) s))

/-! ## The floor -/

/-- R151, R152: the supervision expiry in NORMAL enters FALLBACK with both demands frozen and every calibration stage
aborted; in STANDBY and SETTLE it marks the link lost, with point 81, and changes nothing else; and the grace expiry lowers
the demands. -/
def Obligations.FallbackDemands : Prop :=
  ∀ s : State, s.phase = .running →
    (s.floor.mode = .normal → s.floor.supervision.isSome = true →
      ∃ t, exec .supervisionExpiry s = .next t
        ∧ t.floor = { mode := .fallback, supervision := none, linkLost := true, stage := some .frozen
                      grace := some (s.live.graceTime * 1000), settle := s.floor.settle }
        ∧ t.alarm.points[pt 81].cond = true
        ∧ (∀ b : Burner, t.planner.demand.get b =
            { s.planner.demand.get b with hReq := (s.planner.demand.get b).hApp })
        ∧ (∀ c : Channel, t.chans[c] =
            if s.chans[c].state = .calib then stageAborted .linkLost s.chans[c] else s.chans[c])
        ∧ t.planner = { s.planner with demand := t.planner.demand }
        ∧ (∀ p : Point, p ≠ pt 81 → t.alarm.points[p] = s.alarm.points[p])
        ∧ Touches [.floor, .planner, .chans, .alarm, .shift] s t)
    ∧ (s.floor.mode = .standby ∨ s.floor.mode = .settle → s.floor.supervision.isSome = true →
      ∃ t, exec .supervisionExpiry s = .next t
        ∧ t.floor = { s.floor with supervision := none, linkLost := true }
        ∧ t.alarm.points[pt 81].cond = true
        ∧ (∀ p : Point, p ≠ pt 81 → t.alarm.points[p] = s.alarm.points[p])
        ∧ Touches [.floor, .alarm, .shift] s t)
    ∧ (s.floor.mode = .fallback → s.floor.grace.isSome = true →
      ∃ t, exec .graceExpiry s = .next t
        ∧ t.floor = { s.floor with stage := some .lowered, grace := none }
        ∧ (∀ b : Burner, t.planner.demand.get b = { s.planner.demand.get b with
            hReq := min (s.planner.demand.get b).hApp (s.live.burners.get b).fallbackHeat })
        ∧ t.planner = { s.planner with demand := t.planner.demand }
        ∧ Touches [.floor, .planner] s t)

/-- R154, with the effect that R155 gives: ENTER STANDBY in the four cases of its table, taken in FALLBACK too, where R154 says
that the request is never served (DEDUCED, log entry 19). -/
def Obligations.EnterStandby : Prop :=
  (∀ s : State, s.phase = .running → s.floor.mode = .standby →
    exec .enterStandby s = .next (answering .done none [] s))
  ∧ ∀ s : State, s.phase = .running → s.floor.mode ≠ .standby →
    ((∀ b : Burner, (s.burns.get b).state = .off) → urgentUnacked s = false →
      ∃ t, exec .enterStandby s = .next t
        ∧ t.floor = { s.floor with mode := .standby, stage := none, grace := none, settle := none }
        ∧ (∀ g : Grate, t.cooler.grates[g].state ≠ .running ∧ t.cooler.grates[g].state ≠ .single)
        ∧ (∀ f : Fan, s.cooler.fans[f].on = true → t.cooler.fans[f].damper = s.live.fans[f].standby)
        ∧ (∀ c : Channel, t.chans[c] = if s.chans[c].state = .idle then { s.chans[c] with state := .out, u := 0 }
            else s.chans[c])
        ∧ t.answer.map (fun a => (a.status, a.reason)) = some (.done, none)
        ∧ Touches [.floor, .cooler, .chans, .alarm, .shift, .handed, .answer] s t)
    ∧ ((∃ b : Burner, (s.burns.get b).state ≠ .off) →
        exec .enterStandby s = .next (answering .refused (some .burnerActive) [] s))
    ∧ ((∀ b : Burner, (s.burns.get b).state = .off) → urgentUnacked s = true →
        exec .enterStandby s = .next (answering .notEntered none [] s))

/-- R6, R156: LEAVE STANDBY in STANDBY makes every unforced analog input UNSETTLED and starts the 2 s, and in NORMAL and
SETTLE changes nothing. R62, R100, R102, R152, R156: the settle expiry gives each input its judged quality and each fan that
is on the damper of its effective target and held trim, and enters NORMAL, or with the link lost FALLBACK, which freezes both
demands and does not report point 81 again; a calibration stage is aborted by a load cell that becomes BAD, or by the entry
to FALLBACK. No channel in DOSING or HOLD and both burners OFF, as these modes have it, nothing else changes. -/
def Obligations.SettlePeriod : Prop :=
  (∀ s : State, s.phase = .running → s.floor.mode = .normal ∨ s.floor.mode = .settle →
    exec .leaveStandby s = .next (answering .done none [] s))
  ∧ ∀ s : State, s.phase = .running →
    let quiet : Prop := (∀ b : Burner, (s.burns.get b).state = .off)
      ∧ ∀ c : Channel, s.chans[c].state ≠ .dosing ∧ s.chans[c].state ≠ .hold
    (s.floor.mode = .standby → ∃ t, exec .leaveStandby s = .next t
      ∧ t.floor = { s.floor with mode := .settle, settle := some 2000 }
      ∧ (∀ i : AnalogIn, t.scan.analog[i] = if s.scan.analog[i].force.isSome then s.scan.analog[i]
          else { s.scan.analog[i] with quality := .unsettled, judged := none })
      ∧ t.scan.pulse = s.scan.pulse ∧ t.scan.discrete = s.scan.discrete
      ∧ t.answer.map (fun a => (a.status, a.reason)) = some (.done, none)
      ∧ (quiet → Touches [.floor, .scan, .answer] s t)
      ∧ Touches [.floor, .scan, .chans, .burns, .alarm, .shift, .handed, .answer] s t)
    ∧ (s.floor.mode = .settle → s.floor.settle.isSome = true →
      let lost := s.floor.linkLost
      ∃ t, exec .settleExpiry s = .next t
        ∧ t.floor = (if lost then
            { s.floor with mode := .fallback, settle := none, stage := some .frozen
                           grace := some (s.live.graceTime * 1000) }
           else { s.floor with mode := .normal, settle := none })
        ∧ (∀ i : AnalogIn, t.scan.analog[i] =
            match s.scan.analog[i].quality, s.scan.analog[i].judged with
            | .unsettled, some .good => { s.scan.analog[i] with quality := .good, judged := none }
            | .unsettled, some .bad => { s.scan.analog[i] with quality := .bad, judged := none }
            | _, _ => s.scan.analog[i])
        ∧ t.scan.pulse = s.scan.pulse ∧ t.scan.discrete = s.scan.discrete
        ∧ (∀ f : Fan, t.cooler.fans[f] =
            let x := s.cooler.fans[f]
            let eff := if s.cooler.overload = true ∧ f.val < 3 then min 1200 (x.target + s.live.cooler.boost) else x.target
            if x.on then
              { x with effTarget := eff, damper := (clampInt 0 1000 (tablePosition x.table eff + x.trim)).toNat }
            else x)
        ∧ t.cooler = { s.cooler with fans := t.cooler.fans }
        ∧ (∀ b : Burner, t.planner.demand.get b = { s.planner.demand.get b with
            hReq := if lost then (s.planner.demand.get b).hApp else (s.planner.demand.get b).hReq })
        ∧ t.planner = { s.planner with demand := t.planner.demand }
        ∧ t.alarm.points[pt 81] = s.alarm.points[pt 81]
        ∧ (∀ c : Channel, s.chans[c].state ≠ .dosing → s.chans[c].state ≠ .hold → t.chans[c] =
            let a := s.scan.analog[(⟨c.val, by omega⟩ : AnalogIn)]
            if s.chans[c].state ≠ .calib then s.chans[c]
            else if a.quality = .unsettled ∧ a.judged = some .bad then
              stageAborted .loadCellBad s.chans[c]
            else if lost then stageAborted .linkLost s.chans[c] else s.chans[c])
        ∧ (quiet → Touches [.floor, .scan, .planner, .chans, .cooler] s t)
        ∧ Touches [.floor, .scan, .planner, .chans, .burns, .cooler, .alarm, .shift, .handed] s t)

/-! ## The link -/

/-- R160, R162, R163: the bytes of a frame, taken one by one in HUNT, are taken as that frame: it is handed to the Floor
Supervisor and its request is served, whatever its payload is; with any other received CRC the same bytes count a CRC error,
and nothing else has changed after them, neither at the Floor Supervisor nor of a request that pends. R160: in HUNT a byte
that is not the lead byte is discarded, and a length above 120 returns the assembly to HUNT with the gap timer stopped and
counts a length error. R150, R153, R170: the frame reaches the Floor Supervisor before its request meets the link, in the
image load it does not; there it restarts supervision, clears the link-lost mark with point 81, returns FALLBACK to NORMAL
with the stage removed and the grace timer stopped, and writes no demand. -/
def Obligations.FrameAssembles : Prop :=
  (∀ (seq kind : Byte) (payload : List Byte) (s : State), payload.length ≤ 120 → s.phase ≠ .held →
    s.link.broken = false → s.link.hunting = s.link →
    execAll ((frameBytes seq kind payload).map fun b => .linkByteArrival b true) s =
      .next (acceptFrame seq kind payload s)
    ∧ ∀ high low : Byte,
      let covered := BitVec.ofNat 8 payload.length :: seq :: kind :: payload
      high ++ low ≠ crc16 covered →
      execAll ((0x5A#8 :: covered ++ [high, low]).map fun b => .linkByteArrival b true) s = .next { s with link :=
        { s.link with counters := { s.link.counters with crc := min (s.link.counters.crc + 1) 65535 } } })
  ∧ (∀ (b : Byte) (s : State), s.phase ≠ .held → s.link.broken = false →
    (s.link.asm = .hunt → b ≠ 0x5A#8 → exec (.linkByteArrival b true) s = .next s)
    ∧ (s.link.asm = .length → 120 < b.toNat → exec (.linkByteArrival b true) s = .next { s with link := { s.link with
        asm := .hunt, length := 0, seq := 0, kind := 0, payload := [], crcHigh := 0, gapTimer := none
        counters := { s.link.counters with length := min (s.link.counters.length + 1) 65535 } } }))
  ∧ (∀ (seq kind : Byte) (payload : List Byte) (s : State),
    (s.phase = .running → acceptFrame seq kind payload s =
      meetRequest seq kind (requestService kind seq payload) (validFrame s))
    ∧ (s.phase = .loading → acceptFrame seq kind payload s = meetRequest seq kind (requestService kind seq payload) s))
  ∧ ∀ s : State,
    let t := validFrame s
    let fell := decide (s.floor.mode = .fallback)
    t.floor = { s.floor with
      supervision := some (s.live.supervisionTime * 1000), linkLost := false
      mode := if fell then .normal else s.floor.mode
      stage := if fell then none else s.floor.stage
      grace := if fell then none else s.floor.grace }
    ∧ t.alarm.points[pt 81].cond = (if s.floor.linkLost then false else s.alarm.points[pt 81].cond)
    ∧ (s.floor.linkLost = false → Touches [.floor] s t)
    ∧ Touches [.floor, .alarm] s t

/-- R163, R176: each well-formed request is what its own kind and payload spell. -/
def Obligations.RequestsDecode : Prop :=
  ∀ (i : Instr) (k : Nat) (p : List Byte) (seq : Byte), wellFormed i = true → requestFields i = some (k, p) →
    (∀ q, i = .restart q → q = seq) → requestOf (BitVec.ofNat 8 k) seq p = .ok i

/-- R163 to R165, R170: a request that meets no pending one is served: the state is what its owner and the answer leave, and
its reply is sent, or waits behind one in transmission; a request that meets a pending one is an overrun and no more,
whatever its frame has done at the Floor Supervisor; in the image load the same reply is BUSY and the owner is not asked.
RESTART is answered DONE and changes nothing until its reply has gone (the row hands its reply to the transmitter itself, log
entry 11). A kind byte that has the reply mark already is returned as it is (DESIGN CHOICE, log entry 51). -/
def Obligations.RequestMeetsTransmitter : Prop :=
  (∀ (seq kind : Byte) (f : Service) (s : State), s.phase = .running → s.link.waiting = none →
    let served := answered (f s)
    let reply : Reply :=
      { seq := seq, kind := kind ||| 0x80#8
        body := { status := (f s).2.status, reason := (f s).2.reason, summary := summaryOf (f s).1, data := (f s).2.data } }
    Touches [.link] served (meetRequest seq kind f s)
    ∧ (served.link.sending = none → (meetRequest seq kind f s).link = { served.link with sending := some reply })
    ∧ (served.link.sending.isSome = true →
        (meetRequest seq kind f s).link = { served.link with waiting := some reply }))
  ∧ (∀ (seq kind : Byte) (f : Service) (s : State), s.phase = .loading → s.link.waiting = none →
    let busy := answering .busy none [] s
    let reply : Reply :=
      { seq := seq, kind := kind ||| 0x80#8
        body := { status := .busy, reason := none, summary := summaryOf s, data := [] } }
    meetRequest seq kind f s = { busy with link :=
      if s.link.sending = none then { s.link with sending := some reply } else { s.link with waiting := some reply } })
  ∧ (∀ (seq kind : Byte) (f : Service) (s : State), s.link.waiting.isSome = true →
    meetRequest seq kind f s = { s with link := { s.link with
      overrun := true
      counters := { s.link.counters with overruns := min (s.link.counters.overruns + 1) 65535 } } })
  ∧ ∀ (seq : Byte) (s : State), s.phase = .running → s.link.waiting = none →
    let reply : Reply :=
      { seq := seq, kind := 0xFF#8, body := { status := .done, reason := none, summary := summaryOf s, data := [] } }
    exec (.restart seq) s = .next { answering .done none [] s with link :=
      if s.link.sending = none then { s.link with sending := some reply } else { s.link with waiting := some reply } }

/-- R161, R164, R167: a transmission that completes, of a reply that is not a RESTART's, hands the pending reply to the
transmitter and clears the flag the reply carried; the gap expiry, a framing fault, a break and its end. R170, R174: the end
of a RESTART reply's transmission, and a break that abandons one in transmission or discards one pending, are the full reset
with cause RESTART, whose image load starts at once. That a RESTART is not held, that the live settings stand until the load
has completed and that a break outlasts the reset are the model's readings (log entries 34, 32 and 33). -/
def Obligations.LineEvents : Prop :=
  (∀ (r : Reply) (s : State), s.phase ≠ .held → s.link.sending = some r → isRestartReply r = false →
    exec .transmissionCompletion s = .next { s with link := { s.link with
      sending := s.link.waiting, waiting := none
      overrun := s.link.overrun && !r.body.summary.overrun } })
  ∧ (∀ (r : Reply) (s : State), s.phase ≠ .held → s.link.sending = some r → isRestartReply r = true →
    ∃ t, exec .transmissionCompletion s = .next t ∧ FullyReset .restart .loading t
      ∧ t.live = s.live ∧ t.link.broken = s.link.broken)
  ∧ (∀ s : State, s.phase ≠ .held → s.link.broken = false →
    s.link.sending.any isRestartReply = true ∨ s.link.waiting.any isRestartReply = true →
    ∃ t, exec .linkBreak s = .next t ∧ FullyReset .restart .loading t ∧ t.live = s.live ∧ t.link.broken = true)
  ∧ ∀ (b : Byte) (s : State), s.phase = .running →
    (s.link.gapTimer.isSome = true → exec .gapExpiry s = .next { s with link := { s.link.hunting with
      counters := { s.link.counters with gap := min (s.link.counters.gap + 1) 65535 } } })
    ∧ (s.link.broken = false → exec (.linkByteArrival b false) s = .next { s with link := { s.link.hunting with
      counters := { s.link.counters with framing := min (s.link.counters.framing + 1) 65535 } } })
    ∧ (s.link.broken = false → s.link.sending.any isRestartReply = false → s.link.waiting.any isRestartReply = false →
        exec .linkBreak s = .next { s with
          shift := { s.shift with transfer := none }
          link := { s.link.hunting with
            sending := none, waiting := none, broken := true
            counters := { s.link.counters with breaks := min (s.link.counters.breaks + 1) 65535 } } })
    ∧ exec .breakEnd s = .next { s with link := { s.link with broken := false } }

/-! ## The store and the reset -/

/-- R170, R174: a full reset by the supply or the pin: the cause, the phase, and every output at its safe value; the end of
the cause starts the image load, and changes nothing at another time. One release ends a held reset (DESIGN CHOICE, log entry
34). -/
def Obligations.ResetIsSafe : Prop :=
  (∀ (i : Instr) (cause : ResetCause) (s : State),
    (i = .powerOn ∧ cause = .powerOn) ∨ (i = .supplyDip ∧ cause = .supplyDip) ∨ (i = .resetPin ∧ cause = .resetPin) →
    ∃ t, exec i s = .next t ∧ FullyReset cause .held t)
  ∧ ∀ s : State, exec .resetRelease s = .next (if s.phase = .held then { s with phase := .loading } else s)

/-- R20, R108, R175: the load completion installs what the image is judged to hold and starts the blocks; an image that is
not VALID reports point 83. A healthy D4 and D5 report nothing; an open D4 reports point 79, and is handed to both burners; a
low D5 reports point 80 and enters OVERLOAD with the cap at 0 and point 70. The list of causes handed is the model's own (log
entry 12). -/
def Obligations.LoadStartsBlocks : Prop :=
  ∀ s : State, s.phase = .loading →
    let closed := s.scan.discrete[(3 : DiscreteIn)].pin
    let crusher := s.scan.discrete[(4 : DiscreteIn)].pin
    ∃ t, exec .loadCompletion s = .next t ∧ t.phase = .running
      ∧ t.store.imageState = (judgeImage s.store.image).1 ∧ t.live = (judgeImage s.store.image).2
      ∧ t.store.job = none ∧ t.store.lastSave = .nothing ∧ t.store.causeUnread = true
      ∧ t.store.duringSave = (s.store.duringSave || s.store.marker)
      ∧ (∀ c : Channel, t.chans[c].state = .out ∧ t.chans[c].u = 0
          ∧ t.chans[c].tareConfirmed = decide ((judgeImage s.store.image).1 = .valid))
      ∧ (∀ b : Burner, (t.burns.get b).state = .off ∧ (t.planner.demand.get b).hReq = 0
          ∧ (t.planner.demand.get b).hApp = 0)
      ∧ (∀ i : AnalogIn, t.scan.analog[i].quality = .unsettled ∧ t.scan.analog[i].lastGood = 0)
      ∧ (∀ d : DiscreteIn, t.scan.discrete[d] =
          { pin := s.scan.discrete[d].pin, debounced := s.scan.discrete[d].pin, timer := none })
      ∧ t.floor.mode = .normal ∧ t.floor.supervision = some (t.live.supervisionTime * 1000)
      ∧ t.planner.planTimer = some 1000 ∧ t.shift.secondTimer = some 1000 ∧ t.shift.isSet = false
      ∧ t.shift.ring = []
      ∧ (∀ g : Grate, t.cooler.grates[g].state = .stopped ∧ t.cooler.grates[g].phase = none
          ∧ t.cooler.grates[g].guard.isSome = true)
      ∧ (∀ f : Fan, t.cooler.fans[f].on = false ∧ t.cooler.fans[f].damper = 0)
      ∧ t.cooler.overload = !crusher ∧ t.cooler.clearCount = (if crusher then none else some 0)
      ∧ t.cooler.cap = (if crusher then 250000 else 0) ∧ t.planner.hCap = (if crusher then 250000 else 0)
      ∧ (∀ p : Point, t.alarm.points[p].cond = decide
          ((p = pt 83 ∧ (judgeImage s.store.image).1 ≠ .valid) ∨ (p = pt 79 ∧ closed = false)
            ∨ ((p = pt 80 ∨ p = pt 70) ∧ crusher = false)))
      ∧ (closed = false → ∀ b : Burner, (b, Cause.emergencyStop) ∈ t.handed ∧ (b, Cause.alarmPoint (pt 79)) ∈ t.handed)
      ∧ t.link = s.link

/-- R173: SETTINGS SAVE starts a save or is BUSY; and the completion of a save, after which the flash holds the copy, or these
bytes, whose CRC-32 as read back decides between OK with a VALID image and FAILED with an INVALID one and point 83; without
a save it does nothing (its operand is the model's own, log entry 36). -/
def Obligations.SaveAndCompletion : Prop :=
  ∀ (copy : Settings) (bytes : List Byte) (s : State), s.phase = .running →
    (s.store.job = none → exec .settingsSave s = .next (answering .done none []
      (s.onStore fun x => { x with job := some x.live })))
    ∧ (s.store.job = some copy → exec .settingsSave s = .next (answering .busy none [] s))
    ∧ (s.store.job = none → exec (.saveCompletion none) s = .next s ∧ exec (.saveCompletion (some bytes)) s = .next s)
    ∧ (s.store.job = some copy → ∃ t, exec (.saveCompletion none) s = .next t
        ∧ t.store = { s.store with
            job := none, marker := false, lastSave := .ok, imageState := .valid, image := trimErased (imageBytes copy) }
        ∧ t.alarm.points[pt 83].cond = false
        ∧ Touches [.store, .alarm, .shift, .handed] s t)
    ∧ (s.store.job = some copy → ∃ t, exec (.saveCompletion (some bytes)) s = .next t
        ∧ (let agrees := crcAgrees (areaOf bytes)
           t.store = { s.store with
            job := none, marker := false, lastSave := if agrees then .ok else .failed
            imageState := if agrees then .valid else .invalid, image := t.store.image }
          ∧ t.alarm.points[pt 83].cond = !agrees)
        ∧ areaOf t.store.image = areaOf bytes
        ∧ Touches [.store, .alarm, .shift, .handed] s t)

/-- R179: the CRC-32 that an image carries is the one that the load computes over it, kept without the erased bytes at its
end (log entry 3). R175: the judgement of every image area: BLANK when all of it is erased (as bytes of ones, log entry 3),
and INVALID when its CRC-32 disagrees or its format number is not 1, with every item at its default; else each item is as
stored, but one out of range at its default, and both of a pair with an item out of range or with their constraint broken,
and the image is INVALID exactly when there is one of these. The instances that R4 and R87 have the load leave aside are at
their default and not judged (log entry 24). The image of a set that is in range, with its pairs kept and those instances at
their default, is VALID and gives that set. -/
def Obligations.ImageCrcAgrees : Prop :=
  let unloaded (r : Ref) : Bool := match r with
    | .input i .scaleLow | .input i .scaleHigh => decide (i.val < 8)
    | .grate g .ratio => decide (g = 0)
    | .grate g .setpoint | .grate g .rateGain | .grate g .clinkerFactor => decide (g ≠ 0)
    | _ => false
  (∀ set : Settings, (imageBytes set).length = 2644 ∧ crcAgrees (areaOf (trimErased (imageBytes set))) = true
    ∧ ((∀ r : Ref, unloaded r = true → set.get r = defaultSettings.get r) →
      (∀ r : Ref, unloaded r = false → inRange r (set.get r) = true ∧ pairKept set.get r = true) →
      judgeImage (trimErased (imageBytes set)) = (.valid, set)))
  ∧ ∀ image : List Byte,
    let area := areaOf image
    let judged := judgeImage image
    let right : Prop := crcAgrees area = true ∧ area.take 4 = [0#8, 0#8, 0#8, 1#8]
    let stored (r : Ref) : Int := ofBeS ((area.drop (4 + 4 * allRefs.idxOf r)).take 4)
    let out (r : Ref) : Bool := !unloaded r && !inRange r (stored r)
    let bad (r : Ref) : Bool := out r || (!unloaded r && ((partner r).any out || !pairKept stored r))
    area.length = 2644
    ∧ ((∀ b ∈ area, b = 255#8) → judged = (.blank, defaultSettings))
    ∧ ((∃ b ∈ area, b ≠ 255#8) → ¬right → judged = (.invalid, defaultSettings))
    ∧ (right →
        (judged.1 = .valid ↔ ∀ r : Ref, bad r = false) ∧ (judged.1 = .invalid ↔ ∃ r : Ref, bad r = true)
        ∧ ∀ r : Ref, judged.2.get r = if unloaded r = true ∨ bad r = true then defaultSettings.get r else stored r)

/-- R171, R172: SETTINGS READ shows an item of the live set, and a value stored in its range is the one read back, every
other item as it was. An accepted single SETTINGS WRITE stores its value, or for the three kinds that clamp the nearest in
range (R25, R42, R118), and answers it as stored, with the further effect of a maximum heat (R25), of the pulses per metre,
the trim limit and the tare (R42) and of the mode, the manual rate and the times of a section (R88), and no other; a refused
one changes nothing. R4, R9, R25, R42, R67, R87, R99, R111, R118, R135, R149: what is refused, by the owners' rules: a value
that the item may not be written to, or that breaks its constraint with its partner, RANGE; an assignment NOT_OUT; a flame
level BURNER_ACTIVE; a trip target TRIP_POINT or BURNER_ACTIVE; and nothing of a kind that clamps. Where two of these hold,
which is answered follows the order of the rules' sentences (DEDUCED, log entry 25). A write of ALL is the writes of its
instances in ascending order, but for its one answer; an item or an index that does not exist is answered RANGE. The value
answered for an ALL that stores nothing is all ones (DEDUCED, log entry 26). -/
def Obligations.SettingsReadAndWrite : Prop :=
  (∀ (r : Ref) (v : Int) (l : Settings), inRange r v = true →
    (l.put r v).get r = v ∧ ∀ q : Ref, q ≠ r → (l.put r v).get q = l.get q)
  ∧ (∀ (r : Ref) (v : Int), storedValue r v = match r with
      | .heat _ .rampRate => max 10 (min 10000 v)
      | .chan _ .tolerance => max 1 (min 5000 v)
      | .shelveDefault => max 1 (min 480 v)
      | _ => v)
  ∧ (∀ (r : Ref) (v : Int) (s : State),
    let range := admits r v && pairKept (fun q => if q = r then v else s.live.get q) r
    (admitted r ≠ none → inRange r v = admits r v)
    ∧ (writeRefusal s r v).map (fun a => (a.status, a.reason, a.data)) = match r with
      | .heat _ .rampRate | .chan _ .tolerance | .shelveDefault => none
      | .chan c .assign =>
        if range = false then some (.range, none, [])
        else if s.chans[c].state ≠ .out then some (.refused, some .notOut, []) else none
      | .burner b .flameOn | .burner b .flameOff =>
        if (s.burns.get b).state ≠ .off then some (.refused, some .burnerActive, [])
        else if range = false then some (.range, none, []) else none
      | .point p .target =>
        if range = false then some (.range, none, [])
        else if v ≠ 0 ∧ s.alarm.points[p].state = .shelved then some (.refused, some .tripPoint, [])
        else if s.alarm.points[p].state = .disabled ∧ ((v = 1 ∨ v = 3) ∧ s.burns.main.state ≠ .off
            ∨ (v = 2 ∨ v = 3) ∧ s.burns.calciner.state ≠ .off) then some (.refused, some .burnerActive, [])
        else none
      | _ => if range = false then some (.range, none, []) else none)
  ∧ (∀ (item index : Nat) (v : Int) (s : State), s.phase = .running →
    (refOf item index = none → exec (.settingsRead item index) s = .next (answering .range none [] s)
      ∧ (index ≠ 255 → exec (.settingsWrite item index v) s = .next (answering .range none [] s)))
    ∧ ((∀ n : Nat, indexKind item ≠ some (.instances n)) →
      exec (.settingsWrite item 255 v) s = .next (answering .range none [] s)))
  ∧ (∀ (item index : Nat) (r : Ref) (v : Int) (s : State), s.phase = .running → index < 255 →
    refOf item index = some r →
    let w := storedValue r v
    let stored := s.onLive fun l => l.put r w
    let written (t : State) : Host.Outcome State Fault Refusal :=
      .next (answering (if w = v then .done else .clamped) none (beS 4 w ++ List.replicate 15 0#8) t)
    let command : Instr := .settingsWrite item index v
    exec (.settingsRead item index) s = .next (answering .done none (beS 4 (s.live.get r)) s)
    ∧ (∀ a : Ans, writeRefusal s r v = some a → a.after = .nothing ∧
        exec command s = .next (answering a.status a.reason a.data s))
    ∧ ((∃ b : Burner, r = .heat b .rampRate) ∨ (∃ c : Channel, r = .chan c .tolerance) ∨ r = .shelveDefault →
        writeRefusal s r v = none)
    ∧ (writeRefusal s r v = none → match r with
      | .heat b .maxHeat => exec command s = written (stored.onDemand b fun d => { d with hReq := min d.hReq w.toNat })
      | .chan c .ppm => exec command s = written (stored.onChan c fun x => { x with gramResidue := 0 })
      | .chan c .trimLimit =>
        exec command s = written (stored.onChan c fun x => { x with trim := max (-w) (min w x.trim) })
      | .chan c .tare => exec command s = written (stored.onChan c fun x => { x with tareConfirmed := true })
      | .grate g k =>
        if k = .mode ∨ k = .manualRate ∨ k = .forward ∨ k = .ret ∨ k = .dead then
          let set := stored.live.grates[g]
          let x := s.cooler.grates[g]
          let timed := stored.onGrate g (retimed set)
          (x.guard = none → exec command s = written timed)
          ∧ (∀ since : Nat, x.guard = some since →
            exec command s = written
              (if since < set.dead then timed
               else if x.phase = some .rest ∧ x.phaseTimer = none then timed.onGrate g fun _ => strokeBegun timed g
               else timed.onGrate g fun y => { y with guard := none }))
        else exec command s = written stored
      | _ => exec command s = written stored))
  ∧ ∀ (item n : Nat) (v : Int) (s : State), s.phase = .running → indexKind item = some (.instances n) →
    let refs := (List.range n).filterMap fun k => (refOf item (k + 1)).map fun r => (k + 1, r)
    let refused := refs.filterMap fun x => (writeRefusal s x.2 v).map fun a => (x.1, a)
    let first := refused.head?
    let all := decide (refused.length = n)
    let clamps := decide (refs.head?.map (fun x => storedValue x.2 v) ≠ some v)
    ∃ t u a, exec (.settingsWrite item 255 v) s = .next t
      ∧ execAll ((List.range n).map fun k => .settingsWrite item (k + 1) v) s = .next u
      ∧ Touches [.answer] u t ∧ t.answer = some a
      ∧ refs.length = n ∧ a.data.length = 19
      ∧ a.data.take 4 = (if all then List.replicate 4 255#8
          else beS 4 ((refs.head?.map fun x => storedValue x.2 v).getD 0))
      ∧ (∀ k : Fin 96, ((a.data.getD (4 + k.val / 8) 0#8).getLsbD (k.val % 8)) =
          refused.any fun x => decide (x.1 = k.val + 1))
      ∧ a.data.drop 16 = (match first with
          | none => [0#8, 0#8, 0#8]
          | some (k, x) => be 1 x.status.code ++ be 1 ((x.reason.map Reason.code).getD 0) ++ be 1 k)
      ∧ (a.status, a.reason) = (match first with
          | some (_, x) => if all then (x.status, x.reason) else (if clamps then .clamped else .done, none)
          | none => (if clamps then .clamped else .done, none))

/-- R19, R64, R84, R107, R130, R149, R169, R174, R178: the reads answer a payload of the length of its layout and change
nothing; the three that clear answer what stood before, and clear it after; a number, an option or a start out of range is
answered RANGE. Option 0 is the clear option set and 1 clear, by their places in the owner's list (R176, log entry 20), the
OVERRUN flag of LINK READ is one byte (DESIGN CHOICE, log entry 48), and the permit of MAIN is the stored item (DESIGN
CHOICE, log entry 46). -/
def Obligations.Reads : Prop :=
  (∀ (k option start : Nat) (s : State), s.phase = .running →
    (k = 0 ∨ 6 < k ∨ 1 < option → exec (.channelRead k option) s = .next (answering .range none [] s))
    ∧ (1 < option → exec (.linkRead option) s = .next (answering .range none [] s))
    ∧ (k = 0 ∨ 2 < k → exec (.burnerRead k) s = .next (answering .range none [] s))
    ∧ (k = 0 ∨ 3 < k → exec (.coolerRead 0 k) s = .next (answering .range none [] s))
    ∧ (k = 0 ∨ 8 < k → exec (.coolerRead 1 k) s = .next (answering .range none [] s))
    ∧ (2 < option → exec (.coolerRead option k) s = .next (answering .range none [] s)
      ∧ exec (.inputRead option k) s = .next (answering .range none [] s))
    ∧ (k = 0 ∨ 22 < k → exec (.inputRead 0 k) s = .next (answering .range none [] s))
    ∧ (k = 0 ∨ 6 < k → exec (.inputRead 1 k) s = .next (answering .range none [] s))
    ∧ (k = 0 ∨ 5 < k → exec (.inputRead 2 k) s = .next (answering .range none [] s))
    ∧ (k = 0 ∨ 96 < k → exec (.alarmRead k) s = .next (answering .range none [] s))
    ∧ (start = 0 ∨ 88 < start → exec (.listRead 1 start) s = .next (answering .range none [] s))
    ∧ (1 < option → exec (.listRead option start) s = .next (answering .range none [] s))
    ∧ exec (.listRead 0 start) s = .next (answering .done none (listPayload s) s))
  ∧ (∀ (c : Channel) (s : State), s.phase = .running →
    exec .identRead s = .next { answering .done none (identPayload s) s with
      store := { s.store with cause := .noCause, duringSave := false, causeUnread := false } }
    ∧ (identPayload s).length = 9
    ∧ exec (.linkRead 0) s = .next { answering .done none (linkPayload s) s with
        link := { s.link with counters := {} } }
    ∧ exec (.channelRead (c.val + 1) 0) s = .next { answering .done none (channelPayload s c) s with
        chans := upd s.chans c fun x => { x with lockLost := false, result := none } })
  ∧ (∀ (e : PulseIn) (d : DiscreteIn) (start : Nat) (s : State), s.phase = .running →
    exec (.inputRead 1 (e.val + 1)) s = .next (answering .done none (pulsePayload s e) s)
    ∧ (pulsePayload s e).length = 17
    ∧ exec (.inputRead 2 (d.val + 1)) s = .next (answering .done none (discretePayload s d) s)
    ∧ (discretePayload s d).length = 5
    ∧ (1 ≤ start → start ≤ 88 → exec (.listRead 1 start) s = .next (answering .done none (waitingPayload s start) s)
      ∧ (waitingPayload s start).length = 3 + 2 * min 40 (s.alarm.queue.length - (start - 1))))
  ∧ ∀ (c : Channel) (b : Burner) (g : Grate) (f : Fan) (i : AnalogIn) (p : Point) (bytes : List Byte) (s : State),
    s.phase = .running →
    exec .statusRead s = .next (answering .done none (statusPayload s) s) ∧ (statusPayload s).length = 19
    ∧ exec (.channelRead (c.val + 1) 1) s = .next (answering .done none (channelPayload s c) s)
    ∧ (channelPayload s c).length = 71
    ∧ exec (.burnerRead (burnerCode b)) s = .next (answering .done none (burnerPayload s b) s)
    ∧ (burnerPayload s b).length = 66
    ∧ exec (.coolerRead 0 (g.val + 1)) s = .next (answering .done none (sectionPayload s g) s)
    ∧ (sectionPayload s g).length = 62
    ∧ exec (.coolerRead 1 (f.val + 1)) s = .next (answering .done none (fanPayload s f) s)
    ∧ (fanPayload s f).length = 40
    ∧ exec (.coolerRead 2 0) s = .next (answering .done none (coolerPayload s) s) ∧ (coolerPayload s).length = 26
    ∧ exec (.inputRead 0 (i.val + 1)) s = .next (answering .done none (analogPayload s i) s)
    ∧ (analogPayload s i).length = 12
    ∧ exec (.alarmRead (p.val + 1)) s = .next (answering .done none (pointPayload s p) s)
    ∧ (pointPayload s p).length = 19
    ∧ exec (.listRead 0 0) s = .next (answering .done none (listPayload s) s)
    ∧ (listPayload s).length = 4 + 10 * s.alarm.list.length
    ∧ exec (.linkRead 1) s = .next (answering .done none (linkPayload s) s) ∧ (linkPayload s).length = 13
    ∧ exec (.linkEcho bytes) s = .next (answering .done none bytes s)

/-! ## Laws of every step -/

/-- R122: every step keeps the facts of the annunciation list and the waiting queue. -/
def Obligations.StepKeepsAlarmInv : Prop := ∀ s t : State, AlarmInv s → step s = .next t → AlarmInv t

/-- R43: every step keeps each drive within its bounds, 0 where the state says so, and each trim within its limit. -/
def Obligations.StepKeepsDriveInv : Prop := ∀ s t : State, DriveInv s → step s = .next t → DriveInv t

/-- R43: every step keeps the hold and fault conditions present exactly in their states. -/
def Obligations.StepKeepsConditionInv : Prop := ∀ s t : State, ConditionInv s → step s = .next t → ConditionInv t

/-- R46: every step keeps a channel out of DOSING and HOLD while its burner is not FIRING. -/
def Obligations.StepKeepsFollowInv : Prop := ∀ s t : State, FollowInv s → step s = .next t → FollowInv t

/-- R69: every step keeps a burner in OFF while a point that guards it is SHELVED or DISABLED. -/
def Obligations.StepKeepsInhibitInv : Prop := ∀ s t : State, InhibitInv s → step s = .next t → InhibitInv t

/-- R155: every step keeps the burners OFF and the sections stopped in STANDBY. -/
def Obligations.StepKeepsStandbyInv : Prop := ∀ s t : State, StandbyInv s → step s = .next t → StandbyInv t

/-- R141: every step keeps at most four reports with sequence numbers that follow one another. -/
def Obligations.StepKeepsRingInv : Prop := ∀ s t : State, RingInv s → step s = .next t → RingInv t

/-- R86, R90: every step keeps the forward valve closed under a running return guard and the phases with their states. -/
def Obligations.StepKeepsStrokeInv : Prop := ∀ s t : State, StrokeInv s → step s = .next t → StrokeInv t

/-- Every law holds at the start, the model's State.reset (log entry 1). -/
def Obligations.ResetIsLawful : Prop := Safe State.reset
end

