-- ==== Sys2Proof/Laws/Bytes.lean ====
section
/-! SUPPORT. Numbers as bytes: lengths, and that reading what was written gives the number back (R176). -/

namespace Sys2Proof.Machine

@[simp] theorem be_length (w n : Nat) : (be w n).length = w := by
  induction w with
  | zero => rfl
  | succ k ih => simp [be, ih]

@[simp] theorem beS_length (w : Nat) (v : Int) : (beS w v).length = w := be_length w _

@[simp] theorem ones_length (w : Nat) : (ones w).length = w := by simp [ones]

@[simp] theorem zeros_length (w : Nat) : (zeros w).length = w := by simp [zeros]

@[simp] theorem beOr1_length (w : Nat) (o : Option Nat) : (beOr1 w o).length = w := by cases o <;> simp [beOr1]

@[simp] theorem beOr0_length (w : Nat) (o : Option Nat) : (beOr0 w o).length = w := by cases o <;> simp [beOr0]

@[simp] theorem clockBytes_length (c : Clock) : (clockBytes c).length = 7 := by simp [clockBytes]

@[simp] theorem clockOr_length (c : Option Clock) : (clockOr c).length = 7 := by cases c <;> simp [clockOr]

/-- What bytes spell after bytes that spell `a`. -/
theorem foldl_be (w n a : Nat) :
    (be w n).foldl (fun x b => x * 256 + b.toNat) a = a * 256 ^ w + n % 256 ^ w := by
  induction w generalizing a with
  | zero => simp [be, Nat.mod_one]
  | succ k ih =>
    have split : n % (256 ^ k * 256) = n % 256 ^ k + 256 ^ k * (n / 256 ^ k % 256) := Nat.mod_mul
    simp only [be, List.foldl_cons, BitVec.toNat_ofNat, ih, Nat.reducePow, Nat.pow_succ, split]
    ring

/-- A number that fits its width comes back (R176). -/
theorem ofBe_be (w n : Nat) (h : n < 256 ^ w) : ofBe (be w n) = n := by
  simp [ofBe, foldl_be, Nat.mod_eq_of_lt h]

/-- A signed number that fits its width comes back (R176). -/
theorem ofBeS_beS (w : Nat) (v : Int) (lo : -(256 ^ w : Nat) ≤ 2 * v) (hi : 2 * v < (256 ^ w : Nat)) :
    ofBeS (beS w v) = v := by
  have pos : (0 : Int) < (256 ^ w : Nat) := by positivity
  have fits : (v % (256 ^ w : Nat)).toNat < 256 ^ w := by
    have := Int.emod_lt_of_pos v pos
    have := Int.emod_nonneg v pos.ne'
    omega
  simp only [ofBeS, beS, be_length, ofBe_be w _ fits]
  generalize (256 ^ w : Nat) = m at *
  by_cases neg : v < 0
  · have e : v % (m : Int) = v + m := by
      rw [← Int.add_emod_right]
      exact Int.emod_eq_of_lt (by omega) (by omega)
    rw [e]
    split <;> omega
  · have e : v % (m : Int) = v := Int.emod_eq_of_lt (by omega) (by omega)
    rw [e]
    split <;> omega

end Sys2Proof.Machine
end

