-- ==== Sys2Proof/Laws/PerInstr.lean ====
section
/-! SUPPORT. Statements about every command as syntax, one lemma for each constructor. -/

namespace Sys2Proof.Laws.Catalogued

open Sys2Proof.Machine

/-- The kind of a request is in the catalogue and carries no reply mark, and a well-formed request's payload fits a frame
(R159, R163, R176); an event has no kind. -/
def Statement (i : Instr) : Prop :=
  ∀ k p, requestFields i = some (k, p) →
    (catalogue.lookup k).isSome = true ∧ k < 128 ∧ (wellFormed i = true → p.length ≤ 120)

theorem analogSampleArrival (input : AnalogIn) (sample : Nat) : Statement (.analogSampleArrival input sample) := by
  intro k p h; exact nomatch (show none = some (k, p) from h)
theorem alarmPoint (b : Burner) (p : Point) : Statement (.alarmPoint b p) := by
  intro k p h; exact nomatch (show none = some (k, p) from h)
theorem quadratureEdge (e : PulseIn) (levelA levelB : Bool) : Statement (.quadratureEdge e levelA levelB) := by
  intro k p h; exact nomatch (show none = some (k, p) from h)
theorem discretePinChange (d : DiscreteIn) (level : Bool) : Statement (.discretePinChange d level) := by
  intro k p h; exact nomatch (show none = some (k, p) from h)
theorem debounceExpiry (d : DiscreteIn) : Statement (.debounceExpiry d) := by
  intro k p h; exact nomatch (show none = some (k, p) from h)
theorem emergencyStopTrip (b : Burner) : Statement (.emergencyStopTrip b) := by
  intro k p h; exact nomatch (show none = some (k, p) from h)
theorem mainLost : Statement .mainLost := by
  intro k p h; exact nomatch (show none = some (k, p) from h)
theorem planCycleExpiry : Statement .planCycleExpiry := by
  intro k p h; exact nomatch (show none = some (k, p) from h)
theorem holdTimerExpiry (c : Channel) : Statement (.holdTimerExpiry c) := by
  intro k p h; exact nomatch (show none = some (k, p) from h)
theorem stageTimerExpiry (c : Channel) : Statement (.stageTimerExpiry c) := by
  intro k p h; exact nomatch (show none = some (k, p) from h)
theorem purgeTimerExpiry (b : Burner) : Statement (.purgeTimerExpiry b) := by
  intro k p h; exact nomatch (show none = some (k, p) from h)
theorem trialTimerExpiry (b : Burner) : Statement (.trialTimerExpiry b) := by
  intro k p h; exact nomatch (show none = some (k, p) from h)
theorem stabiliseTimerExpiry (b : Burner) : Statement (.stabiliseTimerExpiry b) := by
  intro k p h; exact nomatch (show none = some (k, p) from h)
theorem forwardExpiry (g : Grate) : Statement (.forwardExpiry g) := by
  intro k p h; exact nomatch (show none = some (k, p) from h)
theorem deadAExpiry (g : Grate) : Statement (.deadAExpiry g) := by
  intro k p h; exact nomatch (show none = some (k, p) from h)
theorem returnExpiry (g : Grate) : Statement (.returnExpiry g) := by
  intro k p h; exact nomatch (show none = some (k, p) from h)
theorem restExpiry (g : Grate) : Statement (.restExpiry g) := by
  intro k p h; exact nomatch (show none = some (k, p) from h)
theorem returnGuardEnd (g : Grate) : Statement (.returnGuardEnd g) := by
  intro k p h; exact nomatch (show none = some (k, p) from h)
theorem secondTimerExpiry : Statement .secondTimerExpiry := by
  intro k p h; exact nomatch (show none = some (k, p) from h)
theorem shelveExpiry (p : Point) : Statement (.shelveExpiry p) := by
  intro k p h; exact nomatch (show none = some (k, p) from h)
theorem supervisionExpiry : Statement .supervisionExpiry := by
  intro k p h; exact nomatch (show none = some (k, p) from h)
theorem graceExpiry : Statement .graceExpiry := by
  intro k p h; exact nomatch (show none = some (k, p) from h)
theorem settleExpiry : Statement .settleExpiry := by
  intro k p h; exact nomatch (show none = some (k, p) from h)
theorem linkByteArrival (byte : Byte) (stopBit : Bool) : Statement (.linkByteArrival byte stopBit) := by
  intro k p h; exact nomatch (show none = some (k, p) from h)
theorem gapExpiry : Statement .gapExpiry := by
  intro k p h; exact nomatch (show none = some (k, p) from h)
theorem transmissionCompletion : Statement .transmissionCompletion := by
  intro k p h; exact nomatch (show none = some (k, p) from h)
theorem linkBreak : Statement .linkBreak := by
  intro k p h; exact nomatch (show none = some (k, p) from h)
theorem powerOn : Statement .powerOn := by
  intro k p h; exact nomatch (show none = some (k, p) from h)
theorem supplyDip : Statement .supplyDip := by
  intro k p h; exact nomatch (show none = some (k, p) from h)
theorem resetPin : Statement .resetPin := by
  intro k p h; exact nomatch (show none = some (k, p) from h)
theorem resetRelease : Statement .resetRelease := by
  intro k p h; exact nomatch (show none = some (k, p) from h)
theorem loadCompletion : Statement .loadCompletion := by
  intro k p h; exact nomatch (show none = some (k, p) from h)
theorem saveCompletion (readBack : Option (List Byte)) : Statement (.saveCompletion readBack) := by
  intro k p h; exact nomatch (show none = some (k, p) from h)
theorem statusRead : Statement .statusRead := by
  intro k p h
  obtain ⟨rfl, rfl⟩ := Prod.mk.injEq _ _ _ _ ▸ Option.some.inj h
  exact ⟨rfl, by decide, by simp [wellFormed]⟩
theorem identRead : Statement .identRead := by
  intro k p h
  obtain ⟨rfl, rfl⟩ := Prod.mk.injEq _ _ _ _ ▸ Option.some.inj h
  exact ⟨rfl, by decide, by simp [wellFormed]⟩
theorem linkRead (clear : Nat) : Statement (.linkRead clear) := by
  intro k p h
  obtain ⟨rfl, rfl⟩ := Prod.mk.injEq _ _ _ _ ▸ Option.some.inj h
  exact ⟨rfl, by decide, by simp [wellFormed]⟩
theorem linkEcho (bytes : List Byte) : Statement (.linkEcho bytes) := by
  intro k p h
  obtain ⟨rfl, rfl⟩ := Prod.mk.injEq _ _ _ _ ▸ Option.some.inj h
  exact ⟨rfl, by decide, by simp [wellFormed]; omega⟩
theorem clockSet (seconds day : Nat) : Statement (.clockSet seconds day) := by
  intro k p h
  obtain ⟨rfl, rfl⟩ := Prod.mk.injEq _ _ _ _ ▸ Option.some.inj h
  exact ⟨rfl, by decide, by simp [wellFormed]⟩
theorem heatSet (burner demand : Nat) : Statement (.heatSet burner demand) := by
  intro k p h
  obtain ⟨rfl, rfl⟩ := Prod.mk.injEq _ _ _ _ ▸ Option.some.inj h
  exact ⟨rfl, by decide, by simp [wellFormed]⟩
theorem channelRead (channel clear : Nat) : Statement (.channelRead channel clear) := by
  intro k p h
  obtain ⟨rfl, rfl⟩ := Prod.mk.injEq _ _ _ _ ▸ Option.some.inj h
  exact ⟨rfl, by decide, by simp [wellFormed]⟩
theorem channelServiceIn (channel : Nat) : Statement (.channelServiceIn channel) := by
  intro k p h
  obtain ⟨rfl, rfl⟩ := Prod.mk.injEq _ _ _ _ ▸ Option.some.inj h
  exact ⟨rfl, by decide, by simp [wellFormed]⟩
theorem channelServiceOut (channel : Nat) : Statement (.channelServiceOut channel) := by
  intro k p h
  obtain ⟨rfl, rfl⟩ := Prod.mk.injEq _ _ _ _ ▸ Option.some.inj h
  exact ⟨rfl, by decide, by simp [wellFormed]⟩
theorem channelReset (channel : Nat) : Statement (.channelReset channel) := by
  intro k p h
  obtain ⟨rfl, rfl⟩ := Prod.mk.injEq _ _ _ _ ▸ Option.some.inj h
  exact ⟨rfl, by decide, by simp [wellFormed]⟩
theorem calibrateZero (channel duration : Nat) : Statement (.calibrateZero channel duration) := by
  intro k p h
  obtain ⟨rfl, rfl⟩ := Prod.mk.injEq _ _ _ _ ▸ Option.some.inj h
  exact ⟨rfl, by decide, by simp [wellFormed]⟩
theorem calibrateSpan (channel testLoad duration : Nat) : Statement (.calibrateSpan channel testLoad duration) := by
  intro k p h
  obtain ⟨rfl, rfl⟩ := Prod.mk.injEq _ _ _ _ ▸ Option.some.inj h
  exact ⟨rfl, by decide, by simp [wellFormed]⟩
theorem calibrateAbort (channel : Nat) : Statement (.calibrateAbort channel) := by
  intro k p h
  obtain ⟨rfl, rfl⟩ := Prod.mk.injEq _ _ _ _ ▸ Option.some.inj h
  exact ⟨rfl, by decide, by simp [wellFormed]⟩
theorem burnerRead (burner : Nat) : Statement (.burnerRead burner) := by
  intro k p h
  obtain ⟨rfl, rfl⟩ := Prod.mk.injEq _ _ _ _ ▸ Option.some.inj h
  exact ⟨rfl, by decide, by simp [wellFormed]⟩
theorem burnerLight (burner : Nat) : Statement (.burnerLight burner) := by
  intro k p h
  obtain ⟨rfl, rfl⟩ := Prod.mk.injEq _ _ _ _ ▸ Option.some.inj h
  exact ⟨rfl, by decide, by simp [wellFormed]⟩
theorem burnerStop (burner : Nat) : Statement (.burnerStop burner) := by
  intro k p h
  obtain ⟨rfl, rfl⟩ := Prod.mk.injEq _ _ _ _ ▸ Option.some.inj h
  exact ⟨rfl, by decide, by simp [wellFormed]⟩
theorem burnerResetTrip (burner : Nat) : Statement (.burnerResetTrip burner) := by
  intro k p h
  obtain ⟨rfl, rfl⟩ := Prod.mk.injEq _ _ _ _ ▸ Option.some.inj h
  exact ⟨rfl, by decide, by simp [wellFormed]⟩
theorem coolerRead (item number : Nat) : Statement (.coolerRead item number) := by
  intro k p h
  obtain ⟨rfl, rfl⟩ := Prod.mk.injEq _ _ _ _ ▸ Option.some.inj h
  exact ⟨rfl, by decide, by simp [wellFormed]⟩
theorem coolerSet (grate mode manualRate forward ret dead : Nat) :
    Statement (.coolerSet grate mode manualRate forward ret dead) := by
  intro k p h
  obtain ⟨rfl, rfl⟩ := Prod.mk.injEq _ _ _ _ ▸ Option.some.inj h
  exact ⟨rfl, by decide, by simp [wellFormed]⟩
theorem grateRun (grate : Nat) : Statement (.grateRun grate) := by
  intro k p h
  obtain ⟨rfl, rfl⟩ := Prod.mk.injEq _ _ _ _ ▸ Option.some.inj h
  exact ⟨rfl, by decide, by simp [wellFormed]⟩
theorem grateSingle (grate : Nat) : Statement (.grateSingle grate) := by
  intro k p h
  obtain ⟨rfl, rfl⟩ := Prod.mk.injEq _ _ _ _ ▸ Option.some.inj h
  exact ⟨rfl, by decide, by simp [wellFormed]⟩
theorem grateStop (grate : Nat) : Statement (.grateStop grate) := by
  intro k p h
  obtain ⟨rfl, rfl⟩ := Prod.mk.injEq _ _ _ _ ▸ Option.some.inj h
  exact ⟨rfl, by decide, by simp [wellFormed]⟩
theorem grateReset (grate : Nat) : Statement (.grateReset grate) := by
  intro k p h
  obtain ⟨rfl, rfl⟩ := Prod.mk.injEq _ _ _ _ ▸ Option.some.inj h
  exact ⟨rfl, by decide, by simp [wellFormed]⟩
theorem fanSet (fan on target : Nat) : Statement (.fanSet fan on target) := by
  intro k p h
  obtain ⟨rfl, rfl⟩ := Prod.mk.injEq _ _ _ _ ▸ Option.some.inj h
  exact ⟨rfl, by decide, by simp [wellFormed]⟩
theorem inputRead (cls number : Nat) : Statement (.inputRead cls number) := by
  intro k p h
  obtain ⟨rfl, rfl⟩ := Prod.mk.injEq _ _ _ _ ▸ Option.some.inj h
  exact ⟨rfl, by decide, by simp [wellFormed]⟩
theorem inputForce (cls number : Nat) (value : Int) : Statement (.inputForce cls number value) := by
  intro k p h
  obtain ⟨rfl, rfl⟩ := Prod.mk.injEq _ _ _ _ ▸ Option.some.inj h
  exact ⟨rfl, by decide, by simp [wellFormed]⟩
theorem inputRelease (cls number : Nat) : Statement (.inputRelease cls number) := by
  intro k p h
  obtain ⟨rfl, rfl⟩ := Prod.mk.injEq _ _ _ _ ▸ Option.some.inj h
  exact ⟨rfl, by decide, by simp [wellFormed]⟩
theorem alarmRead (point : Nat) : Statement (.alarmRead point) := by
  intro k p h
  obtain ⟨rfl, rfl⟩ := Prod.mk.injEq _ _ _ _ ▸ Option.some.inj h
  exact ⟨rfl, by decide, by simp [wellFormed]⟩
theorem listRead (part start : Nat) : Statement (.listRead part start) := by
  intro k p h
  obtain ⟨rfl, rfl⟩ := Prod.mk.injEq _ _ _ _ ▸ Option.some.inj h
  exact ⟨rfl, by decide, by simp [wellFormed]⟩
theorem alarmAckTop : Statement .alarmAckTop := by
  intro k p h
  obtain ⟨rfl, rfl⟩ := Prod.mk.injEq _ _ _ _ ▸ Option.some.inj h
  exact ⟨rfl, by decide, by simp [wellFormed]⟩
theorem alarmAckPoint (point : Nat) : Statement (.alarmAckPoint point) := by
  intro k p h
  obtain ⟨rfl, rfl⟩ := Prod.mk.injEq _ _ _ _ ▸ Option.some.inj h
  exact ⟨rfl, by decide, by simp [wellFormed]⟩
theorem alarmAckAll : Statement .alarmAckAll := by
  intro k p h
  obtain ⟨rfl, rfl⟩ := Prod.mk.injEq _ _ _ _ ▸ Option.some.inj h
  exact ⟨rfl, by decide, by simp [wellFormed]⟩
theorem alarmShelve (point duration : Nat) : Statement (.alarmShelve point duration) := by
  intro k p h
  obtain ⟨rfl, rfl⟩ := Prod.mk.injEq _ _ _ _ ▸ Option.some.inj h
  exact ⟨rfl, by decide, by simp [wellFormed]⟩
theorem alarmUnshelve (point : Nat) : Statement (.alarmUnshelve point) := by
  intro k p h
  obtain ⟨rfl, rfl⟩ := Prod.mk.injEq _ _ _ _ ▸ Option.some.inj h
  exact ⟨rfl, by decide, by simp [wellFormed]⟩
theorem alarmDisable (point : Nat) : Statement (.alarmDisable point) := by
  intro k p h
  obtain ⟨rfl, rfl⟩ := Prod.mk.injEq _ _ _ _ ▸ Option.some.inj h
  exact ⟨rfl, by decide, by simp [wellFormed]⟩
theorem alarmEnable (point : Nat) : Statement (.alarmEnable point) := by
  intro k p h
  obtain ⟨rfl, rfl⟩ := Prod.mk.injEq _ _ _ _ ▸ Option.some.inj h
  exact ⟨rfl, by decide, by simp [wellFormed]⟩
theorem alarmRaise (point : Nat) : Statement (.alarmRaise point) := by
  intro k p h
  obtain ⟨rfl, rfl⟩ := Prod.mk.injEq _ _ _ _ ▸ Option.some.inj h
  exact ⟨rfl, by decide, by simp [wellFormed]⟩
theorem alarmClear (point : Nat) : Statement (.alarmClear point) := by
  intro k p h
  obtain ⟨rfl, rfl⟩ := Prod.mk.injEq _ _ _ _ ▸ Option.some.inj h
  exact ⟨rfl, by decide, by simp [wellFormed]⟩
theorem hornSilence : Statement .hornSilence := by
  intro k p h
  obtain ⟨rfl, rfl⟩ := Prod.mk.injEq _ _ _ _ ▸ Option.some.inj h
  exact ⟨rfl, by decide, by simp [wellFormed]⟩
theorem shiftClose : Statement .shiftClose := by
  intro k p h
  obtain ⟨rfl, rfl⟩ := Prod.mk.injEq _ _ _ _ ▸ Option.some.inj h
  exact ⟨rfl, by decide, by simp [wellFormed]⟩
theorem reportOpen (source form : Nat) : Statement (.reportOpen source form) := by
  intro k p h
  obtain ⟨rfl, rfl⟩ := Prod.mk.injEq _ _ _ _ ▸ Option.some.inj h
  exact ⟨rfl, by decide, by simp [wellFormed]⟩
theorem reportPart (part : Nat) : Statement (.reportPart part) := by
  intro k p h
  obtain ⟨rfl, rfl⟩ := Prod.mk.injEq _ _ _ _ ▸ Option.some.inj h
  exact ⟨rfl, by decide, by simp [wellFormed]⟩
theorem enterStandby : Statement .enterStandby := by
  intro k p h
  obtain ⟨rfl, rfl⟩ := Prod.mk.injEq _ _ _ _ ▸ Option.some.inj h
  exact ⟨rfl, by decide, by simp [wellFormed]⟩
theorem leaveStandby : Statement .leaveStandby := by
  intro k p h
  obtain ⟨rfl, rfl⟩ := Prod.mk.injEq _ _ _ _ ▸ Option.some.inj h
  exact ⟨rfl, by decide, by simp [wellFormed]⟩
theorem settingsRead (item index : Nat) : Statement (.settingsRead item index) := by
  intro k p h
  obtain ⟨rfl, rfl⟩ := Prod.mk.injEq _ _ _ _ ▸ Option.some.inj h
  exact ⟨rfl, by decide, by simp [wellFormed]⟩
theorem settingsWrite (item index : Nat) (value : Int) : Statement (.settingsWrite item index value) := by
  intro k p h
  obtain ⟨rfl, rfl⟩ := Prod.mk.injEq _ _ _ _ ▸ Option.some.inj h
  exact ⟨rfl, by decide, by simp [wellFormed]⟩
theorem settingsSave : Statement .settingsSave := by
  intro k p h
  obtain ⟨rfl, rfl⟩ := Prod.mk.injEq _ _ _ _ ▸ Option.some.inj h
  exact ⟨rfl, by decide, by simp [wellFormed]⟩
theorem restart (seq : Byte) : Statement (.restart seq) := by
  intro k p h
  obtain ⟨rfl, rfl⟩ := Prod.mk.injEq _ _ _ _ ▸ Option.some.inj h
  exact ⟨rfl, by decide, by simp [wellFormed]⟩
theorem breakEnd : Statement .breakEnd := by
  intro k p h; exact nomatch (show none = some (k, p) from h)

end Sys2Proof.Laws.Catalogued
end

