-- ==== Sys2Proof/Laws/State.lean ====
section
/-! SUPPORT. For each update of a record of State, what each field holds after it; and what an update of one entry of a
vector or of a pair of burners leaves in the others. -/

namespace Sys2Proof.Machine

/-! ## Entries -/

/-- Entry `j` after an update of entry `i`; `v[j.val]` is the form to which `simp` brings `v[j]`. -/
theorem upd_at {α : Type} {n : Nat} (v : Vector α n) (i j : Fin n) (f : α → α) :
    (upd v i f)[j.val] = if i = j then f v[i.val] else v[j.val] := by
  by_cases h : i = j
  · subst h; simp [upd]
  · have : i.val ≠ j.val := fun e => h (Fin.ext e)
    simp [upd, h, this]

@[simp] theorem upd_same {α : Type} {n : Nat} (v : Vector α n) (i : Fin n) (f : α → α) :
    (upd v i f)[i.val] = f v[i.val] := by simp [upd_at]

theorem upd_other {α : Type} {n : Nat} (v : Vector α n) {i j : Fin n} (f : α → α) (h : i ≠ j) :
    (upd v i f)[j.val] = v[j.val] := by simp [upd_at, h]

@[simp] theorem PerBurner.get_upd {α : Type} (v : PerBurner α) (b : Burner) (f : α → α) :
    (v.upd b f).get b = f (v.get b) := by cases b <;> rfl

theorem PerBurner.get_upd_other {α : Type} (v : PerBurner α) {b c : Burner} (f : α → α) (h : b ≠ c) :
    (v.upd b f).get c = v.get c := by cases b <;> cases c <;> simp_all [PerBurner.upd, PerBurner.get]

/-! ## Fields -/

@[simp] theorem State.onScan_phase (f : Scanner → Scanner) (s : State) : (s.onScan f).phase = s.phase := rfl
@[simp] theorem State.onScan_scan (f : Scanner → Scanner) (s : State) : (s.onScan f).scan = f s.scan := rfl
@[simp] theorem State.onScan_planner (f : Scanner → Scanner) (s : State) : (s.onScan f).planner = s.planner := rfl
@[simp] theorem State.onScan_chans (f : Scanner → Scanner) (s : State) : (s.onScan f).chans = s.chans := rfl
@[simp] theorem State.onScan_burns (f : Scanner → Scanner) (s : State) : (s.onScan f).burns = s.burns := rfl
@[simp] theorem State.onScan_cooler (f : Scanner → Scanner) (s : State) : (s.onScan f).cooler = s.cooler := rfl
@[simp] theorem State.onScan_alarm (f : Scanner → Scanner) (s : State) : (s.onScan f).alarm = s.alarm := rfl
@[simp] theorem State.onScan_shift (f : Scanner → Scanner) (s : State) : (s.onScan f).shift = s.shift := rfl
@[simp] theorem State.onScan_floor (f : Scanner → Scanner) (s : State) : (s.onScan f).floor = s.floor := rfl
@[simp] theorem State.onScan_link (f : Scanner → Scanner) (s : State) : (s.onScan f).link = s.link := rfl
@[simp] theorem State.onScan_store (f : Scanner → Scanner) (s : State) : (s.onScan f).store = s.store := rfl
@[simp] theorem State.onScan_handed (f : Scanner → Scanner) (s : State) : (s.onScan f).handed = s.handed := rfl
@[simp] theorem State.onScan_answer (f : Scanner → Scanner) (s : State) : (s.onScan f).answer = s.answer := rfl
@[simp] theorem State.onScan_draws (f : Scanner → Scanner) (s : State) : (s.onScan f).draws = s.draws := rfl
@[simp] theorem State.onScan_pending (f : Scanner → Scanner) (s : State) : (s.onScan f).pending = s.pending := rfl
@[simp] theorem State.onScan_live (f : Scanner → Scanner) (s : State) : (s.onScan f).live = s.live := rfl

@[simp] theorem State.onPlanner_phase (f : Planner → Planner) (s : State) : (s.onPlanner f).phase = s.phase := rfl
@[simp] theorem State.onPlanner_scan (f : Planner → Planner) (s : State) : (s.onPlanner f).scan = s.scan := rfl
@[simp] theorem State.onPlanner_planner (f : Planner → Planner) (s : State) :
    (s.onPlanner f).planner = f s.planner := rfl
@[simp] theorem State.onPlanner_chans (f : Planner → Planner) (s : State) : (s.onPlanner f).chans = s.chans := rfl
@[simp] theorem State.onPlanner_burns (f : Planner → Planner) (s : State) : (s.onPlanner f).burns = s.burns := rfl
@[simp] theorem State.onPlanner_cooler (f : Planner → Planner) (s : State) : (s.onPlanner f).cooler = s.cooler := rfl
@[simp] theorem State.onPlanner_alarm (f : Planner → Planner) (s : State) : (s.onPlanner f).alarm = s.alarm := rfl
@[simp] theorem State.onPlanner_shift (f : Planner → Planner) (s : State) : (s.onPlanner f).shift = s.shift := rfl
@[simp] theorem State.onPlanner_floor (f : Planner → Planner) (s : State) : (s.onPlanner f).floor = s.floor := rfl
@[simp] theorem State.onPlanner_link (f : Planner → Planner) (s : State) : (s.onPlanner f).link = s.link := rfl
@[simp] theorem State.onPlanner_store (f : Planner → Planner) (s : State) : (s.onPlanner f).store = s.store := rfl
@[simp] theorem State.onPlanner_handed (f : Planner → Planner) (s : State) : (s.onPlanner f).handed = s.handed := rfl
@[simp] theorem State.onPlanner_answer (f : Planner → Planner) (s : State) : (s.onPlanner f).answer = s.answer := rfl
@[simp] theorem State.onPlanner_draws (f : Planner → Planner) (s : State) : (s.onPlanner f).draws = s.draws := rfl
@[simp] theorem State.onPlanner_pending (f : Planner → Planner) (s : State) :
    (s.onPlanner f).pending = s.pending := rfl
@[simp] theorem State.onPlanner_live (f : Planner → Planner) (s : State) : (s.onPlanner f).live = s.live := rfl

@[simp] theorem State.onChan_phase (c : Channel) (f : Chan → Chan) (s : State) : (s.onChan c f).phase = s.phase := rfl
@[simp] theorem State.onChan_scan (c : Channel) (f : Chan → Chan) (s : State) : (s.onChan c f).scan = s.scan := rfl
@[simp] theorem State.onChan_planner (c : Channel) (f : Chan → Chan) (s : State) :
    (s.onChan c f).planner = s.planner := rfl
@[simp] theorem State.onChan_chans (c : Channel) (f : Chan → Chan) (s : State) :
    (s.onChan c f).chans = upd s.chans c f := rfl
@[simp] theorem State.onChan_burns (c : Channel) (f : Chan → Chan) (s : State) : (s.onChan c f).burns = s.burns := rfl
@[simp] theorem State.onChan_cooler (c : Channel) (f : Chan → Chan) (s : State) :
    (s.onChan c f).cooler = s.cooler := rfl
@[simp] theorem State.onChan_alarm (c : Channel) (f : Chan → Chan) (s : State) : (s.onChan c f).alarm = s.alarm := rfl
@[simp] theorem State.onChan_shift (c : Channel) (f : Chan → Chan) (s : State) : (s.onChan c f).shift = s.shift := rfl
@[simp] theorem State.onChan_floor (c : Channel) (f : Chan → Chan) (s : State) : (s.onChan c f).floor = s.floor := rfl
@[simp] theorem State.onChan_link (c : Channel) (f : Chan → Chan) (s : State) : (s.onChan c f).link = s.link := rfl
@[simp] theorem State.onChan_store (c : Channel) (f : Chan → Chan) (s : State) : (s.onChan c f).store = s.store := rfl
@[simp] theorem State.onChan_handed (c : Channel) (f : Chan → Chan) (s : State) :
    (s.onChan c f).handed = s.handed := rfl
@[simp] theorem State.onChan_answer (c : Channel) (f : Chan → Chan) (s : State) :
    (s.onChan c f).answer = s.answer := rfl
@[simp] theorem State.onChan_draws (c : Channel) (f : Chan → Chan) (s : State) : (s.onChan c f).draws = s.draws := rfl
@[simp] theorem State.onChan_pending (c : Channel) (f : Chan → Chan) (s : State) :
    (s.onChan c f).pending = s.pending := rfl
@[simp] theorem State.onChan_live (c : Channel) (f : Chan → Chan) (s : State) : (s.onChan c f).live = s.live := rfl

@[simp] theorem State.onBurn_phase (b : Burner) (f : Burn → Burn) (s : State) : (s.onBurn b f).phase = s.phase := rfl
@[simp] theorem State.onBurn_scan (b : Burner) (f : Burn → Burn) (s : State) : (s.onBurn b f).scan = s.scan := rfl
@[simp] theorem State.onBurn_planner (b : Burner) (f : Burn → Burn) (s : State) :
    (s.onBurn b f).planner = s.planner := rfl
@[simp] theorem State.onBurn_chans (b : Burner) (f : Burn → Burn) (s : State) : (s.onBurn b f).chans = s.chans := rfl
@[simp] theorem State.onBurn_burns (b : Burner) (f : Burn → Burn) (s : State) :
    (s.onBurn b f).burns = s.burns.upd b f := rfl
@[simp] theorem State.onBurn_cooler (b : Burner) (f : Burn → Burn) (s : State) :
    (s.onBurn b f).cooler = s.cooler := rfl
@[simp] theorem State.onBurn_alarm (b : Burner) (f : Burn → Burn) (s : State) : (s.onBurn b f).alarm = s.alarm := rfl
@[simp] theorem State.onBurn_shift (b : Burner) (f : Burn → Burn) (s : State) : (s.onBurn b f).shift = s.shift := rfl
@[simp] theorem State.onBurn_floor (b : Burner) (f : Burn → Burn) (s : State) : (s.onBurn b f).floor = s.floor := rfl
@[simp] theorem State.onBurn_link (b : Burner) (f : Burn → Burn) (s : State) : (s.onBurn b f).link = s.link := rfl
@[simp] theorem State.onBurn_store (b : Burner) (f : Burn → Burn) (s : State) : (s.onBurn b f).store = s.store := rfl
@[simp] theorem State.onBurn_handed (b : Burner) (f : Burn → Burn) (s : State) :
    (s.onBurn b f).handed = s.handed := rfl
@[simp] theorem State.onBurn_answer (b : Burner) (f : Burn → Burn) (s : State) :
    (s.onBurn b f).answer = s.answer := rfl
@[simp] theorem State.onBurn_draws (b : Burner) (f : Burn → Burn) (s : State) : (s.onBurn b f).draws = s.draws := rfl
@[simp] theorem State.onBurn_pending (b : Burner) (f : Burn → Burn) (s : State) :
    (s.onBurn b f).pending = s.pending := rfl
@[simp] theorem State.onBurn_live (b : Burner) (f : Burn → Burn) (s : State) : (s.onBurn b f).live = s.live := rfl

@[simp] theorem State.onCooler_phase (f : Cooler → Cooler) (s : State) : (s.onCooler f).phase = s.phase := rfl
@[simp] theorem State.onCooler_scan (f : Cooler → Cooler) (s : State) : (s.onCooler f).scan = s.scan := rfl
@[simp] theorem State.onCooler_planner (f : Cooler → Cooler) (s : State) : (s.onCooler f).planner = s.planner := rfl
@[simp] theorem State.onCooler_chans (f : Cooler → Cooler) (s : State) : (s.onCooler f).chans = s.chans := rfl
@[simp] theorem State.onCooler_burns (f : Cooler → Cooler) (s : State) : (s.onCooler f).burns = s.burns := rfl
@[simp] theorem State.onCooler_cooler (f : Cooler → Cooler) (s : State) : (s.onCooler f).cooler = f s.cooler := rfl
@[simp] theorem State.onCooler_alarm (f : Cooler → Cooler) (s : State) : (s.onCooler f).alarm = s.alarm := rfl
@[simp] theorem State.onCooler_shift (f : Cooler → Cooler) (s : State) : (s.onCooler f).shift = s.shift := rfl
@[simp] theorem State.onCooler_floor (f : Cooler → Cooler) (s : State) : (s.onCooler f).floor = s.floor := rfl
@[simp] theorem State.onCooler_link (f : Cooler → Cooler) (s : State) : (s.onCooler f).link = s.link := rfl
@[simp] theorem State.onCooler_store (f : Cooler → Cooler) (s : State) : (s.onCooler f).store = s.store := rfl
@[simp] theorem State.onCooler_handed (f : Cooler → Cooler) (s : State) : (s.onCooler f).handed = s.handed := rfl
@[simp] theorem State.onCooler_answer (f : Cooler → Cooler) (s : State) : (s.onCooler f).answer = s.answer := rfl
@[simp] theorem State.onCooler_draws (f : Cooler → Cooler) (s : State) : (s.onCooler f).draws = s.draws := rfl
@[simp] theorem State.onCooler_pending (f : Cooler → Cooler) (s : State) : (s.onCooler f).pending = s.pending := rfl
@[simp] theorem State.onCooler_live (f : Cooler → Cooler) (s : State) : (s.onCooler f).live = s.live := rfl

@[simp] theorem State.onAlarm_phase (f : AlarmTable → AlarmTable) (s : State) : (s.onAlarm f).phase = s.phase := rfl
@[simp] theorem State.onAlarm_scan (f : AlarmTable → AlarmTable) (s : State) : (s.onAlarm f).scan = s.scan := rfl
@[simp] theorem State.onAlarm_planner (f : AlarmTable → AlarmTable) (s : State) :
    (s.onAlarm f).planner = s.planner := rfl
@[simp] theorem State.onAlarm_chans (f : AlarmTable → AlarmTable) (s : State) : (s.onAlarm f).chans = s.chans := rfl
@[simp] theorem State.onAlarm_burns (f : AlarmTable → AlarmTable) (s : State) : (s.onAlarm f).burns = s.burns := rfl
@[simp] theorem State.onAlarm_cooler (f : AlarmTable → AlarmTable) (s : State) :
    (s.onAlarm f).cooler = s.cooler := rfl
@[simp] theorem State.onAlarm_alarm (f : AlarmTable → AlarmTable) (s : State) : (s.onAlarm f).alarm = f s.alarm := rfl
@[simp] theorem State.onAlarm_shift (f : AlarmTable → AlarmTable) (s : State) : (s.onAlarm f).shift = s.shift := rfl
@[simp] theorem State.onAlarm_floor (f : AlarmTable → AlarmTable) (s : State) : (s.onAlarm f).floor = s.floor := rfl
@[simp] theorem State.onAlarm_link (f : AlarmTable → AlarmTable) (s : State) : (s.onAlarm f).link = s.link := rfl
@[simp] theorem State.onAlarm_store (f : AlarmTable → AlarmTable) (s : State) : (s.onAlarm f).store = s.store := rfl
@[simp] theorem State.onAlarm_handed (f : AlarmTable → AlarmTable) (s : State) :
    (s.onAlarm f).handed = s.handed := rfl
@[simp] theorem State.onAlarm_answer (f : AlarmTable → AlarmTable) (s : State) :
    (s.onAlarm f).answer = s.answer := rfl
@[simp] theorem State.onAlarm_draws (f : AlarmTable → AlarmTable) (s : State) : (s.onAlarm f).draws = s.draws := rfl
@[simp] theorem State.onAlarm_pending (f : AlarmTable → AlarmTable) (s : State) :
    (s.onAlarm f).pending = s.pending := rfl
@[simp] theorem State.onAlarm_live (f : AlarmTable → AlarmTable) (s : State) : (s.onAlarm f).live = s.live := rfl

@[simp] theorem State.onShift_phase (f : Shift → Shift) (s : State) : (s.onShift f).phase = s.phase := rfl
@[simp] theorem State.onShift_scan (f : Shift → Shift) (s : State) : (s.onShift f).scan = s.scan := rfl
@[simp] theorem State.onShift_planner (f : Shift → Shift) (s : State) : (s.onShift f).planner = s.planner := rfl
@[simp] theorem State.onShift_chans (f : Shift → Shift) (s : State) : (s.onShift f).chans = s.chans := rfl
@[simp] theorem State.onShift_burns (f : Shift → Shift) (s : State) : (s.onShift f).burns = s.burns := rfl
@[simp] theorem State.onShift_cooler (f : Shift → Shift) (s : State) : (s.onShift f).cooler = s.cooler := rfl
@[simp] theorem State.onShift_alarm (f : Shift → Shift) (s : State) : (s.onShift f).alarm = s.alarm := rfl
@[simp] theorem State.onShift_shift (f : Shift → Shift) (s : State) : (s.onShift f).shift = f s.shift := rfl
@[simp] theorem State.onShift_floor (f : Shift → Shift) (s : State) : (s.onShift f).floor = s.floor := rfl
@[simp] theorem State.onShift_link (f : Shift → Shift) (s : State) : (s.onShift f).link = s.link := rfl
@[simp] theorem State.onShift_store (f : Shift → Shift) (s : State) : (s.onShift f).store = s.store := rfl
@[simp] theorem State.onShift_handed (f : Shift → Shift) (s : State) : (s.onShift f).handed = s.handed := rfl
@[simp] theorem State.onShift_answer (f : Shift → Shift) (s : State) : (s.onShift f).answer = s.answer := rfl
@[simp] theorem State.onShift_draws (f : Shift → Shift) (s : State) : (s.onShift f).draws = s.draws := rfl
@[simp] theorem State.onShift_pending (f : Shift → Shift) (s : State) : (s.onShift f).pending = s.pending := rfl
@[simp] theorem State.onShift_live (f : Shift → Shift) (s : State) : (s.onShift f).live = s.live := rfl

@[simp] theorem State.onFloor_phase (f : Floor → Floor) (s : State) : (s.onFloor f).phase = s.phase := rfl
@[simp] theorem State.onFloor_scan (f : Floor → Floor) (s : State) : (s.onFloor f).scan = s.scan := rfl
@[simp] theorem State.onFloor_planner (f : Floor → Floor) (s : State) : (s.onFloor f).planner = s.planner := rfl
@[simp] theorem State.onFloor_chans (f : Floor → Floor) (s : State) : (s.onFloor f).chans = s.chans := rfl
@[simp] theorem State.onFloor_burns (f : Floor → Floor) (s : State) : (s.onFloor f).burns = s.burns := rfl
@[simp] theorem State.onFloor_cooler (f : Floor → Floor) (s : State) : (s.onFloor f).cooler = s.cooler := rfl
@[simp] theorem State.onFloor_alarm (f : Floor → Floor) (s : State) : (s.onFloor f).alarm = s.alarm := rfl
@[simp] theorem State.onFloor_shift (f : Floor → Floor) (s : State) : (s.onFloor f).shift = s.shift := rfl
@[simp] theorem State.onFloor_floor (f : Floor → Floor) (s : State) : (s.onFloor f).floor = f s.floor := rfl
@[simp] theorem State.onFloor_link (f : Floor → Floor) (s : State) : (s.onFloor f).link = s.link := rfl
@[simp] theorem State.onFloor_store (f : Floor → Floor) (s : State) : (s.onFloor f).store = s.store := rfl
@[simp] theorem State.onFloor_handed (f : Floor → Floor) (s : State) : (s.onFloor f).handed = s.handed := rfl
@[simp] theorem State.onFloor_answer (f : Floor → Floor) (s : State) : (s.onFloor f).answer = s.answer := rfl
@[simp] theorem State.onFloor_draws (f : Floor → Floor) (s : State) : (s.onFloor f).draws = s.draws := rfl
@[simp] theorem State.onFloor_pending (f : Floor → Floor) (s : State) : (s.onFloor f).pending = s.pending := rfl
@[simp] theorem State.onFloor_live (f : Floor → Floor) (s : State) : (s.onFloor f).live = s.live := rfl

@[simp] theorem State.onLink_phase (f : Link → Link) (s : State) : (s.onLink f).phase = s.phase := rfl
@[simp] theorem State.onLink_scan (f : Link → Link) (s : State) : (s.onLink f).scan = s.scan := rfl
@[simp] theorem State.onLink_planner (f : Link → Link) (s : State) : (s.onLink f).planner = s.planner := rfl
@[simp] theorem State.onLink_chans (f : Link → Link) (s : State) : (s.onLink f).chans = s.chans := rfl
@[simp] theorem State.onLink_burns (f : Link → Link) (s : State) : (s.onLink f).burns = s.burns := rfl
@[simp] theorem State.onLink_cooler (f : Link → Link) (s : State) : (s.onLink f).cooler = s.cooler := rfl
@[simp] theorem State.onLink_alarm (f : Link → Link) (s : State) : (s.onLink f).alarm = s.alarm := rfl
@[simp] theorem State.onLink_shift (f : Link → Link) (s : State) : (s.onLink f).shift = s.shift := rfl
@[simp] theorem State.onLink_floor (f : Link → Link) (s : State) : (s.onLink f).floor = s.floor := rfl
@[simp] theorem State.onLink_link (f : Link → Link) (s : State) : (s.onLink f).link = f s.link := rfl
@[simp] theorem State.onLink_store (f : Link → Link) (s : State) : (s.onLink f).store = s.store := rfl
@[simp] theorem State.onLink_handed (f : Link → Link) (s : State) : (s.onLink f).handed = s.handed := rfl
@[simp] theorem State.onLink_answer (f : Link → Link) (s : State) : (s.onLink f).answer = s.answer := rfl
@[simp] theorem State.onLink_draws (f : Link → Link) (s : State) : (s.onLink f).draws = s.draws := rfl
@[simp] theorem State.onLink_pending (f : Link → Link) (s : State) : (s.onLink f).pending = s.pending := rfl
@[simp] theorem State.onLink_live (f : Link → Link) (s : State) : (s.onLink f).live = s.live := rfl

@[simp] theorem State.onStore_phase (f : Store → Store) (s : State) : (s.onStore f).phase = s.phase := rfl
@[simp] theorem State.onStore_scan (f : Store → Store) (s : State) : (s.onStore f).scan = s.scan := rfl
@[simp] theorem State.onStore_planner (f : Store → Store) (s : State) : (s.onStore f).planner = s.planner := rfl
@[simp] theorem State.onStore_chans (f : Store → Store) (s : State) : (s.onStore f).chans = s.chans := rfl
@[simp] theorem State.onStore_burns (f : Store → Store) (s : State) : (s.onStore f).burns = s.burns := rfl
@[simp] theorem State.onStore_cooler (f : Store → Store) (s : State) : (s.onStore f).cooler = s.cooler := rfl
@[simp] theorem State.onStore_alarm (f : Store → Store) (s : State) : (s.onStore f).alarm = s.alarm := rfl
@[simp] theorem State.onStore_shift (f : Store → Store) (s : State) : (s.onStore f).shift = s.shift := rfl
@[simp] theorem State.onStore_floor (f : Store → Store) (s : State) : (s.onStore f).floor = s.floor := rfl
@[simp] theorem State.onStore_link (f : Store → Store) (s : State) : (s.onStore f).link = s.link := rfl
@[simp] theorem State.onStore_store (f : Store → Store) (s : State) : (s.onStore f).store = f s.store := rfl
@[simp] theorem State.onStore_handed (f : Store → Store) (s : State) : (s.onStore f).handed = s.handed := rfl
@[simp] theorem State.onStore_answer (f : Store → Store) (s : State) : (s.onStore f).answer = s.answer := rfl
@[simp] theorem State.onStore_draws (f : Store → Store) (s : State) : (s.onStore f).draws = s.draws := rfl
@[simp] theorem State.onStore_pending (f : Store → Store) (s : State) : (s.onStore f).pending = s.pending := rfl
@[simp] theorem State.onStore_live (f : Store → Store) (s : State) : (s.onStore f).live = (f s.store).live := rfl

@[simp] theorem State.onHanded_phase (f : List (Burner × Cause) → List (Burner × Cause)) (s : State) :
    (s.onHanded f).phase = s.phase := rfl
@[simp] theorem State.onHanded_scan (f : List (Burner × Cause) → List (Burner × Cause)) (s : State) :
    (s.onHanded f).scan = s.scan := rfl
@[simp] theorem State.onHanded_planner (f : List (Burner × Cause) → List (Burner × Cause)) (s : State) :
    (s.onHanded f).planner = s.planner := rfl
@[simp] theorem State.onHanded_chans (f : List (Burner × Cause) → List (Burner × Cause)) (s : State) :
    (s.onHanded f).chans = s.chans := rfl
@[simp] theorem State.onHanded_burns (f : List (Burner × Cause) → List (Burner × Cause)) (s : State) :
    (s.onHanded f).burns = s.burns := rfl
@[simp] theorem State.onHanded_cooler (f : List (Burner × Cause) → List (Burner × Cause)) (s : State) :
    (s.onHanded f).cooler = s.cooler := rfl
@[simp] theorem State.onHanded_alarm (f : List (Burner × Cause) → List (Burner × Cause)) (s : State) :
    (s.onHanded f).alarm = s.alarm := rfl
@[simp] theorem State.onHanded_shift (f : List (Burner × Cause) → List (Burner × Cause)) (s : State) :
    (s.onHanded f).shift = s.shift := rfl
@[simp] theorem State.onHanded_floor (f : List (Burner × Cause) → List (Burner × Cause)) (s : State) :
    (s.onHanded f).floor = s.floor := rfl
@[simp] theorem State.onHanded_link (f : List (Burner × Cause) → List (Burner × Cause)) (s : State) :
    (s.onHanded f).link = s.link := rfl
@[simp] theorem State.onHanded_store (f : List (Burner × Cause) → List (Burner × Cause)) (s : State) :
    (s.onHanded f).store = s.store := rfl
@[simp] theorem State.onHanded_handed (f : List (Burner × Cause) → List (Burner × Cause)) (s : State) :
    (s.onHanded f).handed = f s.handed := rfl
@[simp] theorem State.onHanded_answer (f : List (Burner × Cause) → List (Burner × Cause)) (s : State) :
    (s.onHanded f).answer = s.answer := rfl
@[simp] theorem State.onHanded_draws (f : List (Burner × Cause) → List (Burner × Cause)) (s : State) :
    (s.onHanded f).draws = s.draws := rfl
@[simp] theorem State.onHanded_pending (f : List (Burner × Cause) → List (Burner × Cause)) (s : State) :
    (s.onHanded f).pending = s.pending := rfl
@[simp] theorem State.onHanded_live (f : List (Burner × Cause) → List (Burner × Cause)) (s : State) :
    (s.onHanded f).live = s.live := rfl

@[simp] theorem State.onAnalog_phase (i : AnalogIn) (f : AnalogRec → AnalogRec) (s : State) :
    (s.onAnalog i f).phase = s.phase := rfl
@[simp] theorem State.onAnalog_scan (i : AnalogIn) (f : AnalogRec → AnalogRec) (s : State) :
    (s.onAnalog i f).scan = { s.scan with analog := upd s.scan.analog i f } := rfl
@[simp] theorem State.onAnalog_planner (i : AnalogIn) (f : AnalogRec → AnalogRec) (s : State) :
    (s.onAnalog i f).planner = s.planner := rfl
@[simp] theorem State.onAnalog_chans (i : AnalogIn) (f : AnalogRec → AnalogRec) (s : State) :
    (s.onAnalog i f).chans = s.chans := rfl
@[simp] theorem State.onAnalog_burns (i : AnalogIn) (f : AnalogRec → AnalogRec) (s : State) :
    (s.onAnalog i f).burns = s.burns := rfl
@[simp] theorem State.onAnalog_cooler (i : AnalogIn) (f : AnalogRec → AnalogRec) (s : State) :
    (s.onAnalog i f).cooler = s.cooler := rfl
@[simp] theorem State.onAnalog_alarm (i : AnalogIn) (f : AnalogRec → AnalogRec) (s : State) :
    (s.onAnalog i f).alarm = s.alarm := rfl
@[simp] theorem State.onAnalog_shift (i : AnalogIn) (f : AnalogRec → AnalogRec) (s : State) :
    (s.onAnalog i f).shift = s.shift := rfl
@[simp] theorem State.onAnalog_floor (i : AnalogIn) (f : AnalogRec → AnalogRec) (s : State) :
    (s.onAnalog i f).floor = s.floor := rfl
@[simp] theorem State.onAnalog_link (i : AnalogIn) (f : AnalogRec → AnalogRec) (s : State) :
    (s.onAnalog i f).link = s.link := rfl
@[simp] theorem State.onAnalog_store (i : AnalogIn) (f : AnalogRec → AnalogRec) (s : State) :
    (s.onAnalog i f).store = s.store := rfl
@[simp] theorem State.onAnalog_handed (i : AnalogIn) (f : AnalogRec → AnalogRec) (s : State) :
    (s.onAnalog i f).handed = s.handed := rfl
@[simp] theorem State.onAnalog_answer (i : AnalogIn) (f : AnalogRec → AnalogRec) (s : State) :
    (s.onAnalog i f).answer = s.answer := rfl
@[simp] theorem State.onAnalog_draws (i : AnalogIn) (f : AnalogRec → AnalogRec) (s : State) :
    (s.onAnalog i f).draws = s.draws := rfl
@[simp] theorem State.onAnalog_pending (i : AnalogIn) (f : AnalogRec → AnalogRec) (s : State) :
    (s.onAnalog i f).pending = s.pending := rfl
@[simp] theorem State.onAnalog_live (i : AnalogIn) (f : AnalogRec → AnalogRec) (s : State) :
    (s.onAnalog i f).live = s.live := rfl

@[simp] theorem State.onPulse_phase (e : PulseIn) (f : PulseRec → PulseRec) (s : State) :
    (s.onPulse e f).phase = s.phase := rfl
@[simp] theorem State.onPulse_scan (e : PulseIn) (f : PulseRec → PulseRec) (s : State) :
    (s.onPulse e f).scan = { s.scan with pulse := upd s.scan.pulse e f } := rfl
@[simp] theorem State.onPulse_planner (e : PulseIn) (f : PulseRec → PulseRec) (s : State) :
    (s.onPulse e f).planner = s.planner := rfl
@[simp] theorem State.onPulse_chans (e : PulseIn) (f : PulseRec → PulseRec) (s : State) :
    (s.onPulse e f).chans = s.chans := rfl
@[simp] theorem State.onPulse_burns (e : PulseIn) (f : PulseRec → PulseRec) (s : State) :
    (s.onPulse e f).burns = s.burns := rfl
@[simp] theorem State.onPulse_cooler (e : PulseIn) (f : PulseRec → PulseRec) (s : State) :
    (s.onPulse e f).cooler = s.cooler := rfl
@[simp] theorem State.onPulse_alarm (e : PulseIn) (f : PulseRec → PulseRec) (s : State) :
    (s.onPulse e f).alarm = s.alarm := rfl
@[simp] theorem State.onPulse_shift (e : PulseIn) (f : PulseRec → PulseRec) (s : State) :
    (s.onPulse e f).shift = s.shift := rfl
@[simp] theorem State.onPulse_floor (e : PulseIn) (f : PulseRec → PulseRec) (s : State) :
    (s.onPulse e f).floor = s.floor := rfl
@[simp] theorem State.onPulse_link (e : PulseIn) (f : PulseRec → PulseRec) (s : State) :
    (s.onPulse e f).link = s.link := rfl
@[simp] theorem State.onPulse_store (e : PulseIn) (f : PulseRec → PulseRec) (s : State) :
    (s.onPulse e f).store = s.store := rfl
@[simp] theorem State.onPulse_handed (e : PulseIn) (f : PulseRec → PulseRec) (s : State) :
    (s.onPulse e f).handed = s.handed := rfl
@[simp] theorem State.onPulse_answer (e : PulseIn) (f : PulseRec → PulseRec) (s : State) :
    (s.onPulse e f).answer = s.answer := rfl
@[simp] theorem State.onPulse_draws (e : PulseIn) (f : PulseRec → PulseRec) (s : State) :
    (s.onPulse e f).draws = s.draws := rfl
@[simp] theorem State.onPulse_pending (e : PulseIn) (f : PulseRec → PulseRec) (s : State) :
    (s.onPulse e f).pending = s.pending := rfl
@[simp] theorem State.onPulse_live (e : PulseIn) (f : PulseRec → PulseRec) (s : State) :
    (s.onPulse e f).live = s.live := rfl

@[simp] theorem State.onDiscrete_phase (d : DiscreteIn) (f : DiscreteRec → DiscreteRec) (s : State) :
    (s.onDiscrete d f).phase = s.phase := rfl
@[simp] theorem State.onDiscrete_scan (d : DiscreteIn) (f : DiscreteRec → DiscreteRec) (s : State) :
    (s.onDiscrete d f).scan = { s.scan with discrete := upd s.scan.discrete d f } := rfl
@[simp] theorem State.onDiscrete_planner (d : DiscreteIn) (f : DiscreteRec → DiscreteRec) (s : State) :
    (s.onDiscrete d f).planner = s.planner := rfl
@[simp] theorem State.onDiscrete_chans (d : DiscreteIn) (f : DiscreteRec → DiscreteRec) (s : State) :
    (s.onDiscrete d f).chans = s.chans := rfl
@[simp] theorem State.onDiscrete_burns (d : DiscreteIn) (f : DiscreteRec → DiscreteRec) (s : State) :
    (s.onDiscrete d f).burns = s.burns := rfl
@[simp] theorem State.onDiscrete_cooler (d : DiscreteIn) (f : DiscreteRec → DiscreteRec) (s : State) :
    (s.onDiscrete d f).cooler = s.cooler := rfl
@[simp] theorem State.onDiscrete_alarm (d : DiscreteIn) (f : DiscreteRec → DiscreteRec) (s : State) :
    (s.onDiscrete d f).alarm = s.alarm := rfl
@[simp] theorem State.onDiscrete_shift (d : DiscreteIn) (f : DiscreteRec → DiscreteRec) (s : State) :
    (s.onDiscrete d f).shift = s.shift := rfl
@[simp] theorem State.onDiscrete_floor (d : DiscreteIn) (f : DiscreteRec → DiscreteRec) (s : State) :
    (s.onDiscrete d f).floor = s.floor := rfl
@[simp] theorem State.onDiscrete_link (d : DiscreteIn) (f : DiscreteRec → DiscreteRec) (s : State) :
    (s.onDiscrete d f).link = s.link := rfl
@[simp] theorem State.onDiscrete_store (d : DiscreteIn) (f : DiscreteRec → DiscreteRec) (s : State) :
    (s.onDiscrete d f).store = s.store := rfl
@[simp] theorem State.onDiscrete_handed (d : DiscreteIn) (f : DiscreteRec → DiscreteRec) (s : State) :
    (s.onDiscrete d f).handed = s.handed := rfl
@[simp] theorem State.onDiscrete_answer (d : DiscreteIn) (f : DiscreteRec → DiscreteRec) (s : State) :
    (s.onDiscrete d f).answer = s.answer := rfl
@[simp] theorem State.onDiscrete_draws (d : DiscreteIn) (f : DiscreteRec → DiscreteRec) (s : State) :
    (s.onDiscrete d f).draws = s.draws := rfl
@[simp] theorem State.onDiscrete_pending (d : DiscreteIn) (f : DiscreteRec → DiscreteRec) (s : State) :
    (s.onDiscrete d f).pending = s.pending := rfl
@[simp] theorem State.onDiscrete_live (d : DiscreteIn) (f : DiscreteRec → DiscreteRec) (s : State) :
    (s.onDiscrete d f).live = s.live := rfl

@[simp] theorem State.onDemand_phase (b : Burner) (f : Demand → Demand) (s : State) :
    (s.onDemand b f).phase = s.phase := rfl
@[simp] theorem State.onDemand_scan (b : Burner) (f : Demand → Demand) (s : State) :
    (s.onDemand b f).scan = s.scan := rfl
@[simp] theorem State.onDemand_planner (b : Burner) (f : Demand → Demand) (s : State) :
    (s.onDemand b f).planner = { s.planner with demand := s.planner.demand.upd b f } := rfl
@[simp] theorem State.onDemand_chans (b : Burner) (f : Demand → Demand) (s : State) :
    (s.onDemand b f).chans = s.chans := rfl
@[simp] theorem State.onDemand_burns (b : Burner) (f : Demand → Demand) (s : State) :
    (s.onDemand b f).burns = s.burns := rfl
@[simp] theorem State.onDemand_cooler (b : Burner) (f : Demand → Demand) (s : State) :
    (s.onDemand b f).cooler = s.cooler := rfl
@[simp] theorem State.onDemand_alarm (b : Burner) (f : Demand → Demand) (s : State) :
    (s.onDemand b f).alarm = s.alarm := rfl
@[simp] theorem State.onDemand_shift (b : Burner) (f : Demand → Demand) (s : State) :
    (s.onDemand b f).shift = s.shift := rfl
@[simp] theorem State.onDemand_floor (b : Burner) (f : Demand → Demand) (s : State) :
    (s.onDemand b f).floor = s.floor := rfl
@[simp] theorem State.onDemand_link (b : Burner) (f : Demand → Demand) (s : State) :
    (s.onDemand b f).link = s.link := rfl
@[simp] theorem State.onDemand_store (b : Burner) (f : Demand → Demand) (s : State) :
    (s.onDemand b f).store = s.store := rfl
@[simp] theorem State.onDemand_handed (b : Burner) (f : Demand → Demand) (s : State) :
    (s.onDemand b f).handed = s.handed := rfl
@[simp] theorem State.onDemand_answer (b : Burner) (f : Demand → Demand) (s : State) :
    (s.onDemand b f).answer = s.answer := rfl
@[simp] theorem State.onDemand_draws (b : Burner) (f : Demand → Demand) (s : State) :
    (s.onDemand b f).draws = s.draws := rfl
@[simp] theorem State.onDemand_pending (b : Burner) (f : Demand → Demand) (s : State) :
    (s.onDemand b f).pending = s.pending := rfl
@[simp] theorem State.onDemand_live (b : Burner) (f : Demand → Demand) (s : State) :
    (s.onDemand b f).live = s.live := rfl

@[simp] theorem State.onEntry_phase (c : Channel) (f : PlanEntry → PlanEntry) (s : State) :
    (s.onEntry c f).phase = s.phase := rfl
@[simp] theorem State.onEntry_scan (c : Channel) (f : PlanEntry → PlanEntry) (s : State) :
    (s.onEntry c f).scan = s.scan := rfl
@[simp] theorem State.onEntry_planner (c : Channel) (f : PlanEntry → PlanEntry) (s : State) :
    (s.onEntry c f).planner = { s.planner with entries := upd s.planner.entries c f } := rfl
@[simp] theorem State.onEntry_chans (c : Channel) (f : PlanEntry → PlanEntry) (s : State) :
    (s.onEntry c f).chans = s.chans := rfl
@[simp] theorem State.onEntry_burns (c : Channel) (f : PlanEntry → PlanEntry) (s : State) :
    (s.onEntry c f).burns = s.burns := rfl
@[simp] theorem State.onEntry_cooler (c : Channel) (f : PlanEntry → PlanEntry) (s : State) :
    (s.onEntry c f).cooler = s.cooler := rfl
@[simp] theorem State.onEntry_alarm (c : Channel) (f : PlanEntry → PlanEntry) (s : State) :
    (s.onEntry c f).alarm = s.alarm := rfl
@[simp] theorem State.onEntry_shift (c : Channel) (f : PlanEntry → PlanEntry) (s : State) :
    (s.onEntry c f).shift = s.shift := rfl
@[simp] theorem State.onEntry_floor (c : Channel) (f : PlanEntry → PlanEntry) (s : State) :
    (s.onEntry c f).floor = s.floor := rfl
@[simp] theorem State.onEntry_link (c : Channel) (f : PlanEntry → PlanEntry) (s : State) :
    (s.onEntry c f).link = s.link := rfl
@[simp] theorem State.onEntry_store (c : Channel) (f : PlanEntry → PlanEntry) (s : State) :
    (s.onEntry c f).store = s.store := rfl
@[simp] theorem State.onEntry_handed (c : Channel) (f : PlanEntry → PlanEntry) (s : State) :
    (s.onEntry c f).handed = s.handed := rfl
@[simp] theorem State.onEntry_answer (c : Channel) (f : PlanEntry → PlanEntry) (s : State) :
    (s.onEntry c f).answer = s.answer := rfl
@[simp] theorem State.onEntry_draws (c : Channel) (f : PlanEntry → PlanEntry) (s : State) :
    (s.onEntry c f).draws = s.draws := rfl
@[simp] theorem State.onEntry_pending (c : Channel) (f : PlanEntry → PlanEntry) (s : State) :
    (s.onEntry c f).pending = s.pending := rfl
@[simp] theorem State.onEntry_live (c : Channel) (f : PlanEntry → PlanEntry) (s : State) :
    (s.onEntry c f).live = s.live := rfl

@[simp] theorem State.onGrate_phase (g : Grate) (f : GrateRec → GrateRec) (s : State) :
    (s.onGrate g f).phase = s.phase := rfl
@[simp] theorem State.onGrate_scan (g : Grate) (f : GrateRec → GrateRec) (s : State) :
    (s.onGrate g f).scan = s.scan := rfl
@[simp] theorem State.onGrate_planner (g : Grate) (f : GrateRec → GrateRec) (s : State) :
    (s.onGrate g f).planner = s.planner := rfl
@[simp] theorem State.onGrate_chans (g : Grate) (f : GrateRec → GrateRec) (s : State) :
    (s.onGrate g f).chans = s.chans := rfl
@[simp] theorem State.onGrate_burns (g : Grate) (f : GrateRec → GrateRec) (s : State) :
    (s.onGrate g f).burns = s.burns := rfl
@[simp] theorem State.onGrate_cooler (g : Grate) (f : GrateRec → GrateRec) (s : State) :
    (s.onGrate g f).cooler = { s.cooler with grates := upd s.cooler.grates g f } := rfl
@[simp] theorem State.onGrate_alarm (g : Grate) (f : GrateRec → GrateRec) (s : State) :
    (s.onGrate g f).alarm = s.alarm := rfl
@[simp] theorem State.onGrate_shift (g : Grate) (f : GrateRec → GrateRec) (s : State) :
    (s.onGrate g f).shift = s.shift := rfl
@[simp] theorem State.onGrate_floor (g : Grate) (f : GrateRec → GrateRec) (s : State) :
    (s.onGrate g f).floor = s.floor := rfl
@[simp] theorem State.onGrate_link (g : Grate) (f : GrateRec → GrateRec) (s : State) :
    (s.onGrate g f).link = s.link := rfl
@[simp] theorem State.onGrate_store (g : Grate) (f : GrateRec → GrateRec) (s : State) :
    (s.onGrate g f).store = s.store := rfl
@[simp] theorem State.onGrate_handed (g : Grate) (f : GrateRec → GrateRec) (s : State) :
    (s.onGrate g f).handed = s.handed := rfl
@[simp] theorem State.onGrate_answer (g : Grate) (f : GrateRec → GrateRec) (s : State) :
    (s.onGrate g f).answer = s.answer := rfl
@[simp] theorem State.onGrate_draws (g : Grate) (f : GrateRec → GrateRec) (s : State) :
    (s.onGrate g f).draws = s.draws := rfl
@[simp] theorem State.onGrate_pending (g : Grate) (f : GrateRec → GrateRec) (s : State) :
    (s.onGrate g f).pending = s.pending := rfl
@[simp] theorem State.onGrate_live (g : Grate) (f : GrateRec → GrateRec) (s : State) :
    (s.onGrate g f).live = s.live := rfl

@[simp] theorem State.onFan_phase (n : Fan) (f : FanRec → FanRec) (s : State) : (s.onFan n f).phase = s.phase := rfl
@[simp] theorem State.onFan_scan (n : Fan) (f : FanRec → FanRec) (s : State) : (s.onFan n f).scan = s.scan := rfl
@[simp] theorem State.onFan_planner (n : Fan) (f : FanRec → FanRec) (s : State) :
    (s.onFan n f).planner = s.planner := rfl
@[simp] theorem State.onFan_chans (n : Fan) (f : FanRec → FanRec) (s : State) : (s.onFan n f).chans = s.chans := rfl
@[simp] theorem State.onFan_burns (n : Fan) (f : FanRec → FanRec) (s : State) : (s.onFan n f).burns = s.burns := rfl
@[simp] theorem State.onFan_cooler (n : Fan) (f : FanRec → FanRec) (s : State) :
    (s.onFan n f).cooler = { s.cooler with fans := upd s.cooler.fans n f } := rfl
@[simp] theorem State.onFan_alarm (n : Fan) (f : FanRec → FanRec) (s : State) : (s.onFan n f).alarm = s.alarm := rfl
@[simp] theorem State.onFan_shift (n : Fan) (f : FanRec → FanRec) (s : State) : (s.onFan n f).shift = s.shift := rfl
@[simp] theorem State.onFan_floor (n : Fan) (f : FanRec → FanRec) (s : State) : (s.onFan n f).floor = s.floor := rfl
@[simp] theorem State.onFan_link (n : Fan) (f : FanRec → FanRec) (s : State) : (s.onFan n f).link = s.link := rfl
@[simp] theorem State.onFan_store (n : Fan) (f : FanRec → FanRec) (s : State) : (s.onFan n f).store = s.store := rfl
@[simp] theorem State.onFan_handed (n : Fan) (f : FanRec → FanRec) (s : State) :
    (s.onFan n f).handed = s.handed := rfl
@[simp] theorem State.onFan_answer (n : Fan) (f : FanRec → FanRec) (s : State) :
    (s.onFan n f).answer = s.answer := rfl
@[simp] theorem State.onFan_draws (n : Fan) (f : FanRec → FanRec) (s : State) : (s.onFan n f).draws = s.draws := rfl
@[simp] theorem State.onFan_pending (n : Fan) (f : FanRec → FanRec) (s : State) :
    (s.onFan n f).pending = s.pending := rfl
@[simp] theorem State.onFan_live (n : Fan) (f : FanRec → FanRec) (s : State) : (s.onFan n f).live = s.live := rfl

@[simp] theorem State.onPoint_phase (p : Point) (f : PointRec → PointRec) (s : State) :
    (s.onPoint p f).phase = s.phase := rfl
@[simp] theorem State.onPoint_scan (p : Point) (f : PointRec → PointRec) (s : State) :
    (s.onPoint p f).scan = s.scan := rfl
@[simp] theorem State.onPoint_planner (p : Point) (f : PointRec → PointRec) (s : State) :
    (s.onPoint p f).planner = s.planner := rfl
@[simp] theorem State.onPoint_chans (p : Point) (f : PointRec → PointRec) (s : State) :
    (s.onPoint p f).chans = s.chans := rfl
@[simp] theorem State.onPoint_burns (p : Point) (f : PointRec → PointRec) (s : State) :
    (s.onPoint p f).burns = s.burns := rfl
@[simp] theorem State.onPoint_cooler (p : Point) (f : PointRec → PointRec) (s : State) :
    (s.onPoint p f).cooler = s.cooler := rfl
@[simp] theorem State.onPoint_alarm (p : Point) (f : PointRec → PointRec) (s : State) :
    (s.onPoint p f).alarm = { s.alarm with points := upd s.alarm.points p f } := rfl
@[simp] theorem State.onPoint_shift (p : Point) (f : PointRec → PointRec) (s : State) :
    (s.onPoint p f).shift = s.shift := rfl
@[simp] theorem State.onPoint_floor (p : Point) (f : PointRec → PointRec) (s : State) :
    (s.onPoint p f).floor = s.floor := rfl
@[simp] theorem State.onPoint_link (p : Point) (f : PointRec → PointRec) (s : State) :
    (s.onPoint p f).link = s.link := rfl
@[simp] theorem State.onPoint_store (p : Point) (f : PointRec → PointRec) (s : State) :
    (s.onPoint p f).store = s.store := rfl
@[simp] theorem State.onPoint_handed (p : Point) (f : PointRec → PointRec) (s : State) :
    (s.onPoint p f).handed = s.handed := rfl
@[simp] theorem State.onPoint_answer (p : Point) (f : PointRec → PointRec) (s : State) :
    (s.onPoint p f).answer = s.answer := rfl
@[simp] theorem State.onPoint_draws (p : Point) (f : PointRec → PointRec) (s : State) :
    (s.onPoint p f).draws = s.draws := rfl
@[simp] theorem State.onPoint_pending (p : Point) (f : PointRec → PointRec) (s : State) :
    (s.onPoint p f).pending = s.pending := rfl
@[simp] theorem State.onPoint_live (p : Point) (f : PointRec → PointRec) (s : State) :
    (s.onPoint p f).live = s.live := rfl

@[simp] theorem State.onTotals_phase (f : Totals → Totals) (s : State) : (s.onTotals f).phase = s.phase := rfl
@[simp] theorem State.onTotals_scan (f : Totals → Totals) (s : State) : (s.onTotals f).scan = s.scan := rfl
@[simp] theorem State.onTotals_planner (f : Totals → Totals) (s : State) : (s.onTotals f).planner = s.planner := rfl
@[simp] theorem State.onTotals_chans (f : Totals → Totals) (s : State) : (s.onTotals f).chans = s.chans := rfl
@[simp] theorem State.onTotals_burns (f : Totals → Totals) (s : State) : (s.onTotals f).burns = s.burns := rfl
@[simp] theorem State.onTotals_cooler (f : Totals → Totals) (s : State) : (s.onTotals f).cooler = s.cooler := rfl
@[simp] theorem State.onTotals_alarm (f : Totals → Totals) (s : State) : (s.onTotals f).alarm = s.alarm := rfl
@[simp] theorem State.onTotals_shift (f : Totals → Totals) (s : State) :
    (s.onTotals f).shift = { s.shift with totals := f s.shift.totals } := rfl
@[simp] theorem State.onTotals_floor (f : Totals → Totals) (s : State) : (s.onTotals f).floor = s.floor := rfl
@[simp] theorem State.onTotals_link (f : Totals → Totals) (s : State) : (s.onTotals f).link = s.link := rfl
@[simp] theorem State.onTotals_store (f : Totals → Totals) (s : State) : (s.onTotals f).store = s.store := rfl
@[simp] theorem State.onTotals_handed (f : Totals → Totals) (s : State) : (s.onTotals f).handed = s.handed := rfl
@[simp] theorem State.onTotals_answer (f : Totals → Totals) (s : State) : (s.onTotals f).answer = s.answer := rfl
@[simp] theorem State.onTotals_draws (f : Totals → Totals) (s : State) : (s.onTotals f).draws = s.draws := rfl
@[simp] theorem State.onTotals_pending (f : Totals → Totals) (s : State) : (s.onTotals f).pending = s.pending := rfl
@[simp] theorem State.onTotals_live (f : Totals → Totals) (s : State) : (s.onTotals f).live = s.live := rfl

@[simp] theorem State.onLive_phase (f : Settings → Settings) (s : State) : (s.onLive f).phase = s.phase := rfl
@[simp] theorem State.onLive_scan (f : Settings → Settings) (s : State) : (s.onLive f).scan = s.scan := rfl
@[simp] theorem State.onLive_planner (f : Settings → Settings) (s : State) : (s.onLive f).planner = s.planner := rfl
@[simp] theorem State.onLive_chans (f : Settings → Settings) (s : State) : (s.onLive f).chans = s.chans := rfl
@[simp] theorem State.onLive_burns (f : Settings → Settings) (s : State) : (s.onLive f).burns = s.burns := rfl
@[simp] theorem State.onLive_cooler (f : Settings → Settings) (s : State) : (s.onLive f).cooler = s.cooler := rfl
@[simp] theorem State.onLive_alarm (f : Settings → Settings) (s : State) : (s.onLive f).alarm = s.alarm := rfl
@[simp] theorem State.onLive_shift (f : Settings → Settings) (s : State) : (s.onLive f).shift = s.shift := rfl
@[simp] theorem State.onLive_floor (f : Settings → Settings) (s : State) : (s.onLive f).floor = s.floor := rfl
@[simp] theorem State.onLive_link (f : Settings → Settings) (s : State) : (s.onLive f).link = s.link := rfl
@[simp] theorem State.onLive_store (f : Settings → Settings) (s : State) :
    (s.onLive f).store = { s.store with live := f s.store.live } := rfl
@[simp] theorem State.onLive_handed (f : Settings → Settings) (s : State) : (s.onLive f).handed = s.handed := rfl
@[simp] theorem State.onLive_answer (f : Settings → Settings) (s : State) : (s.onLive f).answer = s.answer := rfl
@[simp] theorem State.onLive_draws (f : Settings → Settings) (s : State) : (s.onLive f).draws = s.draws := rfl
@[simp] theorem State.onLive_pending (f : Settings → Settings) (s : State) : (s.onLive f).pending = s.pending := rfl
@[simp] theorem State.onLive_live (f : Settings → Settings) (s : State) : (s.onLive f).live = f s.live := rfl

@[simp] theorem State.drawn_phase (s : State) : (s.drawn).phase = s.phase := rfl
@[simp] theorem State.drawn_scan (s : State) : (s.drawn).scan = s.scan := rfl
@[simp] theorem State.drawn_planner (s : State) : (s.drawn).planner = s.planner := rfl
@[simp] theorem State.drawn_chans (s : State) : (s.drawn).chans = s.chans := rfl
@[simp] theorem State.drawn_burns (s : State) : (s.drawn).burns = s.burns := rfl
@[simp] theorem State.drawn_cooler (s : State) : (s.drawn).cooler = s.cooler := rfl
@[simp] theorem State.drawn_alarm (s : State) : (s.drawn).alarm = s.alarm := rfl
@[simp] theorem State.drawn_shift (s : State) : (s.drawn).shift = s.shift := rfl
@[simp] theorem State.drawn_floor (s : State) : (s.drawn).floor = s.floor := rfl
@[simp] theorem State.drawn_link (s : State) : (s.drawn).link = s.link := rfl
@[simp] theorem State.drawn_store (s : State) : (s.drawn).store = s.store := rfl
@[simp] theorem State.drawn_handed (s : State) : (s.drawn).handed = s.handed := rfl
@[simp] theorem State.drawn_answer (s : State) : (s.drawn).answer = s.answer := rfl
@[simp] theorem State.drawn_draws (s : State) : (s.drawn).draws = s.draws + 1 := rfl
@[simp] theorem State.drawn_pending (s : State) : (s.drawn).pending = s.pending := rfl
@[simp] theorem State.drawn_live (s : State) : (s.drawn).live = s.live := rfl

end Sys2Proof.Machine
end

