-- ==== Sys2Proof/Laws/Touches.lean ====
section
/-! SUPPORT. For each shared operation, the parts of State outside which it changes nothing: what a frame is proved from,
in place of unfolding the operation. -/

namespace Sys2Proof.Machine

/-! ## The relation -/

theorem Touches.refl (l : List Part) (s : State) : Touches l s s := by intro p _; cases p <;> rfl

theorem Touches.trans {l : List Part} {s t u : State} (h : Touches l s t) (k : Touches l t u) : Touches l s u := by
  intro p hp
  have a := h p hp
  have b := k p hp
  cases p <;> exact Eq.trans b a

theorem Touches.mono {l m : List Part} {s t : State} (h : Touches l s t) (hm : ∀ p ∈ l, p ∈ m := by decide) :
    Touches m s t := fun p hp => h p fun hl => hp (hm p hl)

theorem Touches.ite {l : List Part} {s t u : State} {c : Prop} [Decidable c] (h : Touches l s t) (k : Touches l s u) :
    Touches l s (if c then t else u) := by split <;> assumption

theorem Touches.each {α : Type} {l : List Part} {f : α → State → State} (h : ∀ a t, Touches l t (f a t)) (xs : List α)
    (s : State) : Touches l s (forEach xs f s) := by
  induction xs generalizing s with
  | nil => exact .refl _ _
  | cons x xs ih => exact (h x s).trans (ih (f x s))

/-! ## The updates -/

theorem onScan_touches (f : Scanner → Scanner) (s : State) : Touches [.scan] s (s.onScan f) := by
  intro p hp; cases p <;> first | rfl | simp at hp
theorem onPlanner_touches (f : Planner → Planner) (s : State) : Touches [.planner] s (s.onPlanner f) := by
  intro p hp; cases p <;> first | rfl | simp at hp
theorem onChan_touches (c : Channel) (f : Chan → Chan) (s : State) : Touches [.chans] s (s.onChan c f) := by
  intro p hp; cases p <;> first | rfl | simp at hp
theorem onBurn_touches (b : Burner) (f : Burn → Burn) (s : State) : Touches [.burns] s (s.onBurn b f) := by
  intro p hp; cases p <;> first | rfl | simp at hp
theorem onCooler_touches (f : Cooler → Cooler) (s : State) : Touches [.cooler] s (s.onCooler f) := by
  intro p hp; cases p <;> first | rfl | simp at hp
theorem onAlarm_touches (f : AlarmTable → AlarmTable) (s : State) : Touches [.alarm] s (s.onAlarm f) := by
  intro p hp; cases p <;> first | rfl | simp at hp
theorem onShift_touches (f : Shift → Shift) (s : State) : Touches [.shift] s (s.onShift f) := by
  intro p hp; cases p <;> first | rfl | simp at hp
theorem onFloor_touches (f : Floor → Floor) (s : State) : Touches [.floor] s (s.onFloor f) := by
  intro p hp; cases p <;> first | rfl | simp at hp
theorem onLink_touches (f : Link → Link) (s : State) : Touches [.link] s (s.onLink f) := by
  intro p hp; cases p <;> first | rfl | simp at hp
theorem onStore_touches (f : Store → Store) (s : State) : Touches [.store] s (s.onStore f) := by
  intro p hp; cases p <;> first | rfl | simp at hp
theorem onHanded_touches (f : List (Burner × Cause) → List (Burner × Cause)) (s : State) :
    Touches [.handed] s (s.onHanded f) := by
  intro p hp; cases p <;> first | rfl | simp at hp
theorem drawn_touches (s : State) : Touches [.draws] s s.drawn := by
  intro p hp; cases p <;> first | rfl | simp at hp
theorem answer_touches (a : Option Answered) (s : State) : Touches [.answer] s { s with answer := a } := by
  intro p hp; cases p <;> first | rfl | simp at hp
theorem onAnalog_touches (i : AnalogIn) (f : AnalogRec → AnalogRec) (s : State) :
    Touches [.scan] s (s.onAnalog i f) := onScan_touches _ s
theorem onPulse_touches (e : PulseIn) (f : PulseRec → PulseRec) (s : State) : Touches [.scan] s (s.onPulse e f) :=
  onScan_touches _ s
theorem onDiscrete_touches (d : DiscreteIn) (f : DiscreteRec → DiscreteRec) (s : State) :
    Touches [.scan] s (s.onDiscrete d f) := onScan_touches _ s
theorem onDemand_touches (b : Burner) (f : Demand → Demand) (s : State) : Touches [.planner] s (s.onDemand b f) :=
  onPlanner_touches _ s
theorem onEntry_touches (c : Channel) (f : PlanEntry → PlanEntry) (s : State) :
    Touches [.planner] s (s.onEntry c f) := onPlanner_touches _ s
theorem onGrate_touches (g : Grate) (f : GrateRec → GrateRec) (s : State) : Touches [.cooler] s (s.onGrate g f) :=
  onCooler_touches _ s
theorem onFan_touches (n : Fan) (f : FanRec → FanRec) (s : State) : Touches [.cooler] s (s.onFan n f) :=
  onCooler_touches _ s
theorem onPoint_touches (p : Point) (f : PointRec → PointRec) (s : State) : Touches [.alarm] s (s.onPoint p f) :=
  onAlarm_touches _ s
theorem onTotals_touches (f : Totals → Totals) (s : State) : Touches [.shift] s (s.onTotals f) := onShift_touches _ s
theorem onLive_touches (f : Settings → Settings) (s : State) : Touches [.store] s (s.onLive f) := onStore_touches _ s

/-! ## The Alarm Table -/

theorem placeOnList_touches (p : Point) (s : State) : Touches [.alarm] s (placeOnList p s) := onAlarm_touches _ s

theorem addActivation_touches (k : Nat) (s : State) : Touches [.shift] s (addActivation k s) := by
  unfold addActivation; split
  · exact .refl _ _
  · exact onTotals_touches _ s

theorem place_touches (p : Point) (s : State) : Touches [.alarm, .shift] s (place p s) := by
  unfold place
  exact .ite (placeOnList_touches p s).mono ((onAlarm_touches _ s).mono.trans (onTotals_touches _ _).mono)

theorem leavePlacement_touches (p : Point) (s : State) : Touches [.alarm] s (leavePlacement p s) := by
  unfold leavePlacement
  refine .ite ?_ (onAlarm_touches _ s)
  dsimp only
  split
  · exact onAlarm_touches _ s
  · exact ((onAlarm_touches _ s).trans (onAlarm_touches _ _)).trans (placeOnList_touches _ _)

theorem activate_touches (p : Point) (s : State) : Touches [.alarm, .shift] s (activate p s) := by
  unfold activate
  exact .ite (.trans (.mono (onPoint_touches p _ s)) (.mono (addActivation_touches _ _)))
    (.trans (.trans (.mono (onPoint_touches p _ s)) (.mono (addActivation_touches _ _))) (place_touches p _))

theorem handTrips_touches (p : Point) (s : State) : Touches [.handed] s (handTrips p s) := onHanded_touches _ s

theorem conditionChanged_touches (p : Point) (c : Bool) (s : State) :
    Touches [.alarm, .shift] s (conditionChanged p c s) := by
  unfold conditionChanged
  split
  · exact activate_touches p s
  · exact (onPoint_touches p _ s).mono
  · exact (onPoint_touches p _ s).mono
  · exact activate_touches p s
  · exact (onTotals_touches _ s).mono
  · exact (onTotals_touches _ s).mono
  · exact .refl _ _

/-- A condition report touches the Alarm Table, the running totals and the trips handed. -/
theorem reportCond_touches (p : Point) (c : Bool) (s : State) :
    Touches [.alarm, .shift, .handed] s (reportCond p c s) := by
  unfold reportCond
  have h := (onPoint_touches p (fun x => { x with cond := c }) s).mono (m := [.alarm, .shift, .handed]) |>.trans
    (conditionChanged_touches p c _).mono
  exact .ite (.refl _ _) (.ite (h.trans (handTrips_touches _ _).mono) h)

theorem ackPoint_touches (p : Point) (s : State) : Touches [.alarm] s (ackPoint p s) := by
  unfold ackPoint
  split
  · exact (onPoint_touches p _ s).trans (leavePlacement_touches _ _)
  · exact (onPoint_touches p _ s).trans (leavePlacement_touches _ _)
  · exact .refl _ _

theorem resumePoint_touches (p : Point) (s : State) : Touches [.alarm, .shift] s (resumePoint p s) := by
  unfold resumePoint
  have h := (onPoint_touches p (fun x => { x with state := .normal, shelve := none }) s).mono (m := [.alarm, .shift])
  exact .ite (h.trans (activate_touches _ _)) h

theorem expireShelve_touches (p : Point) (s : State) : Touches [.alarm, .shift] s (expireShelve p s) := by
  unfold expireShelve; exact .ite (resumePoint_touches p s) (.refl _ _)

theorem shelvePoint_touches (p : Point) (n : Nat) (s : State) : Touches [.alarm] s (shelvePoint p n s) := by
  unfold shelvePoint
  exact .ite ((onPoint_touches p _ s).trans (leavePlacement_touches _ _)) (onPoint_touches p _ s)

theorem disablePoint_touches (p : Point) (s : State) : Touches [.alarm] s (disablePoint p s) := by
  unfold disablePoint
  exact .ite ((onPoint_touches p _ s).trans (leavePlacement_touches _ _)) (onPoint_touches p _ s)

theorem minuteAt_touches (p : Point) (s : State) : Touches [.alarm, .shift] s (minuteAt p s) := by
  unfold minuteAt
  exact .ite (.ite (expireShelve_touches p s) (onPoint_touches p _ s).mono) (.refl _ _)

theorem minuteEvent_touches (s : State) : Touches [.alarm, .shift] s (minuteEvent s) := .each minuteAt_touches _ s

theorem closeAlarms_touches (s : State) : Touches [.alarm, .shift] s (closeAlarms s) :=
  (onAlarm_touches _ s).mono.trans (onTotals_touches _ _).mono

/-! ## The channels -/

theorem enterDosing_touches (c : Channel) (s : State) : Touches [.chans] s (enterDosing c s) := onChan_touches c _ s

theorem enterHold_touches (c : Channel) (s : State) :
    Touches [.chans, .alarm, .shift, .handed] s (enterHold c s) :=
  (onChan_touches c _ s).mono.trans (reportCond_touches _ _ _).mono

theorem returnFromHold_touches (c : Channel) (s : State) :
    Touches [.chans, .alarm, .shift, .handed] s (returnFromHold c s) :=
  (onChan_touches c _ s).mono.trans (reportCond_touches _ _ _).mono

theorem enterFault_touches (c : Channel) (cause : FaultCause) (s : State) :
    Touches [.chans, .alarm, .shift, .handed] s (enterFault c cause s) := by
  have h := (onChan_touches c (fun x =>
    { x.lockDropped.countsCleared with
      state := .fault, u := 0, r := 0, trim := 0, cause := some cause, holdTimer := none, devCond := false }) s).mono
    (m := [.chans, .alarm, .shift, .handed]) |>.trans (reportCond_touches (faultPoint c) true _).mono
  unfold enterFault
  by_cases d : s.chans[c].devCond = true
  · have h := h.trans (reportCond_touches (deviationPoint c) false _).mono
    simp only [d, ↓reduceIte]
    exact .ite (h.trans (reportCond_touches _ _ _).mono) h
  · simp only [d]
    exact .ite (h.trans (reportCond_touches _ _ _).mono) h

theorem leaveToIdle_touches (c : Channel) (s : State) :
    Touches [.chans, .alarm, .shift, .handed] s (leaveToIdle c s) := by
  have h := (onChan_touches c (fun x =>
    { x.countsCleared with
      state := .idle, u := 0, r := 0, trim := 0, locked := false, holdTimer := none, devCond := false }) s).mono
    (m := [.chans, .alarm, .shift, .handed])
  unfold leaveToIdle
  refine .ite ?_ (.refl _ _)
  by_cases d : s.chans[c].state = .hold
  · have h := h.trans (reportCond_touches (holdPoint c) false _).mono
    simp only [d, ↓reduceIte]
    exact .ite (h.trans (reportCond_touches _ _ _).mono) h
  · simp only [d]
    exact .ite (h.trans (reportCond_touches _ _ _).mono) h

theorem channelsFollowFiring_touches (b : Burner) (s : State) : Touches [.chans] s (channelsFollowFiring b s) :=
  .each (fun _ _ => .ite (enterDosing_touches _ _) (.refl _ _)) _ s

theorem channelsFollowStop_touches (b : Burner) (s : State) :
    Touches [.chans, .alarm, .shift, .handed] s (channelsFollowStop b s) :=
  .each (fun _ _ => .ite (leaveToIdle_touches _ _) (.refl _ _)) _ s

theorem channelsToOut_touches (s : State) : Touches [.chans] s (channelsToOut s) :=
  .each (fun _ _ => .ite (onChan_touches _ _ _) (.refl _ _)) _ s

theorem abortStage_touches (c : Channel) (r : CalReason) (s : State) : Touches [.chans] s (abortStage c r s) := by
  unfold abortStage; exact .ite (onChan_touches _ _ _) (.refl _ _)

theorem abortStages_touches (r : CalReason) (s : State) : Touches [.chans] s (abortStages r s) :=
  .each (fun c t => abortStage_touches c r t) _ s

theorem handLoadCell_touches (c : Channel) (a : Bool) (s : State) :
    Touches [.chans, .alarm, .shift, .handed] s (handLoadCell c a s) := by
  unfold handLoadCell
  split
  · exact .ite (enterHold_touches c s) (.refl _ _)
  · exact .ite (.refl _ _) (returnFromHold_touches c s)
  · exact .ite (abortStage_touches c _ s).mono (.ite (onChan_touches c _ s).mono (.refl _ _))
  all_goals exact .refl _ _

/-! ## The planner -/

theorem storePlan_touches (b : Burner) (aside excess : Nat) (plan : List Planned) (l : List Channel)
    (entry : Channel → PlanEntry) (s : State) : Touches [.planner] s (storePlan b aside excess plan l entry s) :=
  (Touches.each (fun _ _ => (onEntry_touches _ _ _).trans (onPlanner_touches _ _)) _ s).trans (onDemand_touches _ _ _)

theorem planBurner_touches (b : Burner) (s : State) : Touches [.planner] s (planBurner b s) :=
  storePlan_touches _ _ _ _ _ _ _

theorem replan_touches (s : State) : Touches [.planner] s (replan s) :=
  storePlan_touches _ _ _ _ _ _ _

theorem emptyPlan_touches (b : Burner) (s : State) : Touches [.planner] s (emptyPlan b s) :=
  (Touches.each (fun _ _ => onEntry_touches _ _ _) _ s).trans (onDemand_touches _ _ _)

theorem plannerLeavesFiring_touches (b : Burner) (s : State) : Touches [.planner] s (plannerLeavesFiring b s) :=
  (onDemand_touches _ _ s).trans (emptyPlan_touches _ _)

theorem handReplan_touches (s : State) : Touches [.chans] s (handReplan s) :=
  .each (fun _ _ => onChan_touches _ _ _) _ s

theorem capEvent_touches (cap : Nat) (s : State) : Touches [.planner, .chans] s (capEvent cap s) := by
  unfold capEvent
  have h := (onPlanner_touches (fun x => { x with hCap := cap }) s).mono (m := [.planner, .chans])
  exact .ite (((h.trans (onDemand_touches _ _ _).mono).trans (replan_touches _).mono).trans
    (handReplan_touches _).mono) h

/-! ## The burners -/

theorem followLeaving_touches (b : Burner) (s : State) :
    Touches [.planner, .chans, .alarm, .shift, .handed] s (followLeaving b s) :=
  (plannerLeavesFiring_touches b s).mono.trans (channelsFollowStop_touches b _).mono

theorem enterTripped_touches (b : Burner) (cause : Cause) (s : State) :
    Touches [.burns, .planner, .chans, .alarm, .shift, .handed] s (enterTripped b cause s) := by
  unfold enterTripped
  have h := (((onBurn_touches b (fun x =>
      { x.shut .tripped with
        firstOut := some { cause := cause, tripFrom := (s.burns.get b).state,
                           clock := if s.shift.isSet then some (shiftClock s) else none, later := 0 } }) s).mono
      (m := [.burns, .planner, .chans, .alarm, .shift, .handed]) |>.trans
      (followLeaving_touches b _).mono).trans (reportCond_touches (tripPointOf b) true _).mono).trans
      (onTotals_touches (fun t => { t with burns := t.burns.upd b fun x => { x with trips := satInc top32 x.trips } })
        _).mono
  exact .ite (h.trans (onHanded_touches _ _).mono) h

/-- A trip cause touches the burner, its plan and its channels, the Alarm Table, the totals and the causes handed. -/
theorem takeCause_touches (b : Burner) (cause : Cause) (s : State) :
    Touches [.burns, .planner, .chans, .alarm, .shift, .handed] s (takeCause b cause s) := by
  unfold takeCause
  split
  · exact .refl _ _
  · exact (onBurn_touches b _ s).mono
  all_goals exact enterTripped_touches b cause s

theorem purgeJudged_touches (b : Burner) (s : State) : Touches [.burns] s (purgeJudged b s) := by
  unfold purgeJudged; exact .ite (onBurn_touches _ _ _) (onBurn_touches _ _ _)

theorem handDraught_touches (b : Burner) (s : State) : Touches [.burns] s (handDraught b s) := by
  unfold handDraught; exact .ite (purgeJudged_touches b s) (.refl _ _)

theorem handFlame_touches (b : Burner) (s : State) :
    Touches [.burns, .planner, .chans, .alarm, .shift, .handed] s (handFlame b s) := by
  have flame : Touches [.burns, .planner, .chans, .alarm, .shift, .handed] s (flameSample b s) := by
    unfold flameSample
    exact .ite ((onBurn_touches b _ s).mono.trans (takeCause_touches _ _ _)) (onBurn_touches b _ s).mono
  unfold handFlame
  split
  · unfold provingSample provenFlame
    exact .ite (onBurn_touches b _ s).mono (onBurn_touches b _ s).mono
  · exact flame
  · exact flame
  all_goals exact .refl _ _

theorem enterFiring_touches (b : Burner) (s : State) :
    Touches [.burns, .planner, .chans] s (enterFiring b s) :=
  ((onBurn_touches b _ s).mono.trans (onDemand_touches b _ _).mono).trans (channelsFollowFiring_touches b _).mono

theorem stopBurner_touches (b : Burner) (s : State) :
    Touches [.burns, .planner, .chans, .alarm, .shift, .handed] s (stopBurner b s) := by
  unfold stopBurner
  have h := (onBurn_touches b (fun x => x.shut .off) s).mono
    (m := [.burns, .planner, .chans, .alarm, .shift, .handed])
  exact .ite (.ite (h.trans (followLeaving_touches b _).mono) h) (.refl _ _)

/-! ## The cooler -/

theorem computeDamper_touches (f : Fan) (s : State) : Touches [.cooler] s (computeDamper f s) :=
  (onFan_touches f _ s).trans (onFan_touches f _ _)

theorem enterOverload_touches (s : State) :
    Touches [.cooler, .planner, .chans, .alarm, .shift, .handed] s (enterOverload s) :=
  ((((onCooler_touches _ s).mono.trans (capEvent_touches _ _).mono).trans
    (Touches.each computeDamper_touches hotFans _).mono).trans (reportCond_touches _ _ _).mono).trans
    (onCooler_touches _ _).mono

theorem leaveOverload_touches (s : State) :
    Touches [.cooler, .planner, .chans, .alarm, .shift, .handed] s (leaveOverload s) :=
  ((((onCooler_touches _ s).mono.trans (capEvent_touches _ _).mono).trans
    (Touches.each computeDamper_touches hotFans _).mono).trans (reportCond_touches _ _ _).mono).trans
    (onCooler_touches _ _).mono

theorem enteringEvent_touches (s : State) :
    Touches [.cooler, .planner, .chans, .alarm, .shift, .handed] s (enteringEvent s) := by
  unfold enteringEvent; exact .ite (onCooler_touches _ s).mono (enterOverload_touches s)

/-- The tables that come into use are the fans' alone (R99). -/
theorem takeTables_touches (s : State) : Touches [.cooler] s (takeTables s) := onCooler_touches _ s

theorem trimFan_touches (f : Fan) (s : State) : Touches [.cooler] s (trimFan f s) :=
  .ite (onFan_touches f _ s) (.refl _ s)

theorem judgeFan_touches (f : Fan) (s : State) :
    Touches [.cooler, .alarm, .shift, .handed] s (judgeFan f s) :=
  have h (g : FanRec → FanRec) (t : State) : Touches [.cooler, .alarm, .shift, .handed] t (t.onFan f g) :=
    (onFan_touches f g t).mono
  .ite (.ite (.ite (.ite (((h _ s).trans (h _ _)).trans (reportCond_touches _ _ _).mono) (h _ s)) (h _ s))
    (.ite ((h _ s).trans (reportCond_touches _ _ _).mono) (h _ s))) (.refl _ s)

theorem updateFan_touches (f : Fan) (s : State) :
    Touches [.cooler, .alarm, .shift, .handed] s (updateFan f s) :=
  .ite (((judgeFan_touches f s).trans (trimFan_touches f _).mono).trans (computeDamper_touches f _).mono) (.refl _ s)

theorem pressureTest_touches (s : State) : Touches [.cooler] s (pressureTest s) :=
  .ite (onCooler_touches _ s) (onCooler_touches _ s)

theorem clearTest_touches (s : State) :
    Touches [.cooler, .planner, .chans, .alarm, .shift, .handed] s (clearTest s) :=
  .ite (.ite ((onCooler_touches _ s).mono.trans (leaveOverload_touches _)) (onCooler_touches _ s).mono) (.refl _ s)

theorem forwardStart_touches (g : Grate) (s : State) : Touches [.cooler] s (forwardStart g s) := by
  have h (t : State) : Touches [.cooler] t (match newRate t g with
      | none => t
      | some r => t.onGrate g fun x => { x with rate := r, staged := some (timingFor r t.live.grates[g]) }) := by
    split
    · exact .refl _ _
    · exact onGrate_touches g _ t
  unfold forwardStart
  exact (Touches.ite ((onGrate_touches g _ s).trans (onGrate_touches g _ _)) (onGrate_touches g _ s)).trans (h _)

theorem guardEnds_touches (g : Grate) (s : State) : Touches [.cooler] s (guardEnds g s) := by
  unfold guardEnds
  exact .ite ((onGrate_touches g _ s).trans (forwardStart_touches g _)) (onGrate_touches g _ s)

theorem stageTiming_touches (g : Grate) (x : Timing) (s : State) : Touches [.cooler] s (stageTiming g x s) := by
  unfold stageTiming
  dsimp only
  split
  · exact onGrate_touches g _ s
  · exact .ite ((onGrate_touches g _ s).trans (guardEnds_touches g _)) (onGrate_touches g _ s)

theorem stallGrate_touches (g : Grate) (s : State) :
    Touches [.cooler, .planner, .chans, .alarm, .shift, .handed] s (stallGrate g s) := by
  have h := (onGrate_touches g (fun x =>
      { x with state := .stalled, phase := none, phaseTimer := none, runOut := false, miss := 2 }) s).mono
    (m := [.cooler, .planner, .chans, .alarm, .shift, .handed]) |>.trans (reportCond_touches (stallPoint g) true _).mono
  unfold stallGrate
  exact .ite (h.trans (enteringEvent_touches _)) h

theorem stopGrate_touches (g : Grate) (s : State) : Touches [.cooler] s (stopGrate g s) := onGrate_touches g _ s

theorem stopGrates_touches (s : State) : Touches [.cooler] s (stopGrates s) := .each stopGrate_touches _ s

theorem startGrateStroke_touches (g : Grate) (st : GrateState) (s : State) :
    Touches [.cooler] s (startGrateStroke g st s) := by
  have h := onGrate_touches g (fun x => { x with state := st, runOut := false }) s
  unfold startGrateStroke
  exact .ite h (.ite (h.trans (onGrate_touches g _ _)) (h.trans (forwardStart_touches g _)))

theorem restage_touches (g : Grate) (s : State) : Touches [.cooler] s (restage g s) := by
  unfold restage
  exact (Touches.ite (onGrate_touches g _ s) (.refl _ _)).trans (stageTiming_touches g _ _)

/-! ## The inputs -/

theorem evaluate_touches (i : AnalogIn) (s : State) :
    Touches [.scan, .alarm, .shift, .handed] s (evaluate i s) := by
  have h (f : AnalogRec → AnalogRec) := (onAnalog_touches i f s).mono (m := [.scan, .alarm, .shift, .handed])
  have r (p : Point) (c : Bool) (t : State) := (reportCond_touches p c t).mono (m := [.scan, .alarm, .shift, .handed])
  unfold evaluate
  have low := (h _).trans (Touches.ite (c := lowAfter s.live.inputs[i] s.scan.analog[i].value s.scan.analog[i].lowCond
      = s.scan.analog[i].lowCond) (.refl _ (s.onAnalog i fun x =>
        { x with lowCond := lowAfter s.live.inputs[i] s.scan.analog[i].value s.scan.analog[i].lowCond
                 highCond := highAfter s.live.inputs[i] s.scan.analog[i].value s.scan.analog[i].highCond }))
      (r (lowPoint i) (lowAfter s.live.inputs[i] s.scan.analog[i].value s.scan.analog[i].lowCond) _))
  exact .ite low (low.trans (r _ _ _))

/-- A hand-over touches what the consumers of the input keep, never the inputs themselves. -/
theorem handOver_touches (i : AnalogIn) (a : Bool) (s : State) :
    Touches [.burns, .planner, .chans, .cooler, .alarm, .shift, .handed] s (handOver i a s) := by
  have inlet : Touches [.burns, .planner, .chans, .cooler, .alarm, .shift, .handed] s (handInlet s) := by
    unfold handInlet; exact .ite (takeCause_touches _ _ _).mono (.refl _ _)
  unfold handOver
  split
  · exact (handLoadCell_touches _ _ _).mono
  · exact .ite (.ite (handFlame_touches _ _).mono (.refl _ _))
      (.ite (.ite (handFlame_touches _ _).mono (.refl _ _))
        (.ite (.ite (onCooler_touches _ s).mono (.refl _ _))
          (.ite (.ite inlet (.refl _ _))
            (.ite ((handDraught_touches _ s).mono.trans (handDraught_touches _ _).mono) (.refl _ _)))))

/-! ## The floor, the shift, the store, the link -/

theorem writeRequest_touches (b : Burner) (heat : Nat) (s : State) : Touches [.planner] s (writeRequest b heat s) :=
  onDemand_touches b _ s

theorem enterFallback_touches (s : State) : Touches [.floor, .planner, .chans] s (enterFallback s) := by
  unfold enterFallback
  refine .trans (.trans (.trans (.mono (onFloor_touches _ s)) (.mono (l := [.planner]) (.each ?_ bothBurners _)))
    (.mono (abortStages_touches _ _))) (.mono (onFloor_touches _ _))
  exact fun b t => writeRequest_touches b _ t

theorem validFrame_touches (s : State) : Touches [.floor, .alarm, .shift, .handed] s (validFrame s) := by
  have found (t : State) : Touches [.floor, .alarm, .shift, .handed] t (linkFoundAgain t) := by
    unfold linkFoundAgain
    exact .ite ((onFloor_touches _ t).mono.trans (reportCond_touches _ _ _).mono) (.refl _ _)
  have left (t : State) : Touches [.floor, .alarm, .shift, .handed] t (leaveFallback t) := by
    unfold leaveFallback; exact .ite (onFloor_touches _ t).mono (.refl _ _)
  exact ((onFloor_touches _ s).mono.trans (found _)).trans (left _)

theorem closeShift_touches (r : CloseReason) (s : State) : Touches [.shift, .alarm] s (closeShift r s) :=
  (onShift_touches _ s).mono.trans (closeAlarms_touches _).mono

theorem writeEffect_touches (r : Ref) (w : Int) (t : State) :
    Touches [.store, .planner, .chans, .cooler] t (writeEffect r w t) := by
  cases r with
  | heat b k => cases k <;> simp only [writeEffect] <;> first | exact .refl _ _ | exact (onDemand_touches _ _ _).mono
  | chan c k => cases k <;> simp only [writeEffect] <;> first | exact .refl _ _ | exact (onChan_touches _ _ _).mono
  | grate g k => cases k <;> simp only [writeEffect] <;> first | exact .refl _ _ | exact (restage_touches _ _).mono
  | input _ _ => exact .refl _ _
  | burner _ _ => exact .refl _ _
  | cooler _ => exact .refl _ _
  | fan _ _ => exact .refl _ _
  | point _ _ => exact .refl _ _
  | shelveDefault => exact .refl _ _
  | shiftStart => exact .refl _ _
  | shiftLength => exact .refl _ _
  | supervisionTime => exact .refl _ _
  | graceTime => exact .refl _ _
  | fallbackHeat _ => exact .refl _ _

theorem storeItem_touches (r : Ref) (v : Int) (s : State) :
    Touches [.store, .planner, .chans, .cooler] s (storeItem r v s) := by
  unfold storeItem
  exact (onLive_touches _ s).mono.trans (writeEffect_touches r _ _)

theorem deliver_touches (r : Reply) (s : State) : Touches [.link] s (deliver r s) := onLink_touches _ s

/-! ## Requests -/

/-- A request in the run phase is the owner's service, answered. -/
theorem takeRequest_running (f : Service) (s : State) (h : s.phase = .running) : takeRequest f s = answered (f s) := by
  simp [takeRequest, h]

/-- A request during the image load is answered BUSY and not passed on (R163). -/
theorem takeRequest_loading (f : Service) (s : State) (h : s.phase = .loading) :
    takeRequest f s = answered (s, plain .busy) := by simp [takeRequest, h]

/-- A request in a held reset is not received (R170). -/
theorem takeRequest_held (f : Service) (s : State) (h : s.phase = .held) : takeRequest f s = s := by
  simp [takeRequest, h]

/-- The answer that nothing follows. -/
theorem answered_plain (s : State) (a : Ans) (h : a.after = .nothing) :
    answered (s, a) = { s with answer := some (compose s a) } := by simp [answered, applyAfter, h]

end Sys2Proof.Machine
end

