-- ==== Sys2Proof/Tests/Slice0.lean ====
section
/-! SUPPORT. Tests: each shows one step on a small state, with its expected values taken from the worked examples and the
tables of the spec, which the comments name; and for every obligation with hypotheses a witness that meets them. -/

namespace Sys2Proof.Tests

open Sys2Proof.Machine

set_option Elab.async false

/-! ## Helpers -/

/-- The state a command leaves; the state itself where it stops. -/
def after (i : Instr) (s : State) : State :=
  match exec i s with
  | .next t => t
  | .fault _ => s
  | .refused _ => s

/-- What a request is answered: its status and its reason. -/
def reply (i : Instr) (s : State) : Option (Status × Option Reason) :=
  (after i s).answer.map fun a => (a.status, a.reason)

/-- The bytes after the head of what a request is answered. -/
def replyData (i : Instr) (s : State) : Option (List Byte) := (after i s).answer.map Answered.data

/-- The floor after start-up. -/
abbrev s0 : State := State.reset

def withBurner (b : Burner) (state : BurnState) (s : State) : State := s.onBurn b fun x => { x with state := state }
def withChan (c : Channel) (state : ChanState) (s : State) : State := s.onChan c fun x => { x with state := state }
def withMode (mode : FloorMode) (s : State) : State := s.onFloor fun x => { x with mode := mode }
def withPhase (phase : RunPhase) (s : State) : State := { s with phase := phase }
def assigned (c : Channel) (a : Assign) (s : State) : State :=
  s.onLive fun l => { l with chans := upd l.chans c fun x => { x with assign := a } }
def withValue (i : AnalogIn) (q : Quality) (v : Int) (s : State) : State :=
  s.onAnalog i fun x => { x with quality := q, value := v }
def withPin (d : DiscreteIn) (pin debounced : Bool) (timer : Timer) (s : State) : State :=
  s.onDiscrete d fun _ => { pin := pin, debounced := debounced, timer := timer }
def withPoint (p : Point) (state : PointState) (cond : Bool) (s : State) : State :=
  s.onPoint p fun x => { x with state := state, cond := cond }
def withPhaseOf (g : Grate) (state : GrateState) (phase : Phase) (s : State) : State :=
  s.onGrate g fun x => { x with state := state, phase := some phase, phaseTimer := some 0, guard := none }

/-- The digits 1 to 9 in ASCII, over which the spec gives both check values (R159, R179). -/
def digits : List Byte := [0x31#8, 0x32#8, 0x33#8, 0x34#8, 0x35#8, 0x36#8, 0x37#8, 0x38#8, 0x39#8]

/-! ## WellFormed: an ill-formed term for each check -/

theorem test_ill_formed_sample : wellFormed (.analogSampleArrival 0 4096) = false := by decide
theorem test_ill_formed_save : wellFormed (.saveCompletion (some (List.replicate 2645 0#8))) = false := by decide +kernel
theorem test_ill_formed_echo : wellFormed (.linkEcho (List.replicate 101 0#8)) = false := by decide +kernel
theorem test_ill_formed_bytes :
    ([.linkRead 256, .channelServiceIn 256, .channelServiceOut 256, .channelReset 256, .calibrateAbort 256, .burnerRead 256,
      .burnerLight 256, .burnerStop 256, .burnerResetTrip 256, .grateRun 256, .grateSingle 256, .grateStop 256,
      .grateReset 256, .alarmRead 256, .alarmAckPoint 256, .alarmUnshelve 256, .alarmDisable 256, .alarmEnable 256,
      .alarmRaise 256, .alarmClear 256, .reportPart 256] : List Instr).all (fun i => !wellFormed i) = true := by decide
theorem test_ill_formed_two_bytes :
    ([.channelRead 256 0, .channelRead 1 256, .coolerRead 256 0, .coolerRead 0 256, .inputRead 256 0, .inputRead 0 256,
      .inputRelease 256 0, .inputRelease 0 256, .listRead 256 0, .listRead 0 256, .reportOpen 256 0,
      .reportOpen 0 256] : List Instr).all (fun i => !wellFormed i) = true := by decide
theorem test_ill_formed_numbers :
    ([.clockSet 4294967296 0, .clockSet 0 65536, .heatSet 256 0, .heatSet 1 4294967296, .calibrateZero 256 0,
      .calibrateZero 1 65536, .calibrateSpan 256 0 0, .calibrateSpan 1 65536 0, .calibrateSpan 1 0 65536,
      .coolerSet 256 0 0 0 0 0, .coolerSet 1 256 0 0 0 0, .coolerSet 1 0 65536 0 0 0, .coolerSet 1 0 0 65536 0 0,
      .coolerSet 1 0 0 0 65536 0, .coolerSet 1 0 0 0 0 65536, .fanSet 256 0 0, .fanSet 1 256 0, .fanSet 1 0 65536,
      .alarmShelve 256 0, .alarmShelve 1 65536] : List Instr).all (fun i => !wellFormed i) = true := by decide
theorem test_ill_formed_settings :
    ([.inputForce 256 0 0, .inputForce 0 256 0, .inputForce 0 0 2147483648, .inputForce 0 0 (-2147483649),
      .settingsRead 65536 0, .settingsRead 0 256, .settingsWrite 65536 0 0, .settingsWrite 0 256 0,
      .settingsWrite 0 0 2147483648, .settingsWrite 0 0 (-2147483649)] : List Instr).all
      (fun i => !wellFormed i) = true := by decide
theorem test_well_formed_ends :
    ([.analogSampleArrival 0 4095, .linkRead 255, .clockSet 4294967295 65535,
      .settingsWrite 65535 255 (-2147483648)] : List Instr).all wellFormed = true := by decide

/-! ## The start -/

/-- R1, R174: a load of a blank flash after a power-on leaves the floor at the start. -/
theorem test_power_on_leads_to_reset :
    after .loadCompletion (after .resetRelease (after .powerOn s0)) = s0 := by decide +kernel
/-- Nothing is due at the start, so 1 ms passes (log entry 4). -/
theorem test_idle_ticks : ready s0 = [] ∧ (tick s0).planner.planTimer = some 999 := by decide +kernel

/-! ## Inputs -/

/-- A9 with a high limit of 7 500 and a hysteresis of 200, as in section 1.3. -/
def bed : State :=
  s0.onLive fun l => { l with inputs := upd l.inputs 8 fun x => { x with highLimit := 7500, hysteresis := 200 } }
/-- The same once it stands at 7 570 with its high condition present. -/
def bedHigh : State :=
  (withPoint 17 .activeUnack true bed).onAnalog 8 fun x =>
    { x with lastGood := 3100, value := 7570, quality := .good, highCond := true }

/-- Section 1.3, arrivals 2 and 3. -/
theorem test_sample_crosses_limit :
    let t := after (.analogSampleArrival 8 3100) bed
    t.scan.analog[8].value = 7570 ∧ t.scan.analog[8].highCond = true ∧ t.alarm.points[17].cond = true := by
  decide +kernel
theorem test_sample_out_of_range_holds :
    let t := after (.analogSampleArrival 8 4095) bedHigh
    t.scan.analog[8].value = 7570 ∧ t.scan.analog[8].quality = .bad ∧ t.scan.analog[8].highCond = true := by
  decide +kernel
/-- R10: the first step of the table counts up, its reverse down. -/
theorem test_encoder_up : (after (.quadratureEdge 0 true false) s0).scan.pulse[0].count = 1 := by decide +kernel
theorem test_encoder_down : (after (.quadratureEdge 0 false true) s0).scan.pulse[0].count = -1 := by decide +kernel
/-- R12. -/
theorem test_pin_starts_debounce :
    (after (.discretePinChange 0 true) s0).scan.discrete[0].timer = some 20 := by decide +kernel
/-- R13: the opening of D4. -/
theorem test_stop_loop_opens :
    (after (.debounceExpiry 3) (withPin 3 false true (some 0) s0)).alarm.points[78].cond = true := by decide +kernel
/-- R16: the raw sample of a forced input changes alone (section 1.6). -/
theorem test_force_keeps_sample :
    let t := after (.inputForce 0 2 2300) s0
    t.scan.analog[1].lastGood = 2300 ∧ t.scan.analog[1].quality = .forced ∧ t.alarm.points[81].cond = true := by
  decide +kernel
theorem test_force_refused_on_flame :
    reply (.inputForce 0 7 2000) (withBurner .main .firing s0) = some (.refused, some .burnerActive) := by decide +kernel
theorem test_release_unsettles :
    let s := s0.onAnalog 1 fun x => { x with quality := .forced, force := some 2300, lastGood := 2300 }
    (after (.inputRelease 0 2) s).scan.analog[1].quality = .unsettled := by decide +kernel
theorem test_input_read_answers :
    (replyData (.inputRead 2 4) s0).map List.length = (some (discretePayload s0 3)).map List.length := by decide +kernel

/-! ## The plan: the cases of section 2.6 -/

def fuel1 : Fuel := ⟨0, 26000, 500, 0, 9000⟩
def fuel2 : Fuel := ⟨1, 28000, 200, 0, 1500⟩
def fuel3 : Fuel := ⟨2, 16000, 300, 800, 3000⟩
/-- What a split gives: channel, rate, heat, role, in channel order. -/
def planned (heat : Nat) (l : List Fuel) : List (Nat × PlanEntry) :=
  (l.map fun f => (splitHeat heat l).filter fun x => decide (x.chan = f.chan)).flatten.map fun x => (x.chan.val, x.entry)

theorem test_split_case_1 :
    planned 60000 [fuel1, fuel2, fuel3] =
      [(0, ⟨4846, 34998, .split⟩), (1, ⟨1500, 11666, .atMax⟩), (2, ⟨3000, 13333, .atMax⟩)] := by decide
theorem test_split_case_1_after_loss :
    planned 60000 [fuel1, fuel3] = [(0, ⟨6461, 46662, .split⟩), (2, ⟨3000, 13333, .atMax⟩)] := by decide
theorem test_split_case_2 :
    planned 3000 [fuel1, fuel2, fuel3] =
      [(0, ⟨207, 1495, .split⟩), (1, ⟨77, 598, .split⟩), (2, ⟨800, 3555, .atMin⟩)]
    ∧ surplusOf (splitHeat 3000 [fuel1, fuel2, fuel3]) = 2655 := by decide
theorem test_split_case_3 :
    planned 36450 [fuel1, fuel2, fuel3] =
      [(0, ⟨2523, 18221, .split⟩), (1, ⟨937, 7287, .split⟩), (2, ⟨2460, 10933, .split⟩)] := by decide

/-- MAIN FIRING with H_app at 40 000 on its way to 60 000 (section 2.6, case 3). -/
def ramping : State :=
  (withBurner .main .firing s0).onDemand .main fun d => { d with hReq := 60000, hApp := 40000 }
theorem test_plan_cycle_ramps : (after .planCycleExpiry ramping).planner.demand.main.hApp = 40500 := by decide +kernel
/-- R27: a cap below H_app lowers it at once. -/
theorem test_cap_lowers_at_once : (capEvent 36450 ramping).planner.demand.main.hApp = 36450 := by decide +kernel
/-- R33, R34: a cap event after a min-clamped C3 has gone to FAULT divides the whole cap; its excess of case 2 stays. -/
theorem test_replan_leaves_min_clamped :
    let s := withChan 2 .fault (withChan 0 .dosing (assigned 0 .main (assigned 2 .main ramping)))
    let s := (s.onEntry 2 fun _ => ⟨800, 3555, .atMin⟩).onPlanner fun x =>
      { x with fuels := upd x.fuels 0 fun _ => fuel1, excesses := upd x.excesses 2 fun _ => 2655 }
    let t := capEvent 30000 s
    t.planner.entries[(0 : Channel)] = ⟨4153, 29993, .split⟩ ∧ t.planner.demand.main.shortfall = 7
    ∧ t.planner.demand.main.surplus = 2655 := by decide +kernel
/-- R23. -/
theorem test_heat_set_clamps :
    reply (.heatSet 1 250001) s0 = some (.clamped, none)
    ∧ (after (.heatSet 1 250001) s0).planner.demand.main.hReq = 250000 := by decide +kernel

/-! ## The channels -/

/-- C1 DOSING as in the worked cycle of section 3.3. -/
def dosing : State :=
  let s := (withBurner .main .firing s0).onLive fun l =>
    { l with chans := upd l.chans 0 fun x =>
      { x with assign := .main, cv := 26000, fullRate := 8000, tare := 410, span := 20000, ppm := 500, trimGain := 200 } }
  let s := s.onChan 0 fun x => { x with state := .dosing, trim := 150, u := 5400, kjResidue := 700 }
  let s := s.onEntry 0 fun _ => ⟨4200, 0, .split⟩
  let s := s.onPulse 0 fun x => { x with count := 58 }
  s.onAnalog 0 fun x => { x with lastGood := 2458, quality := .good }

theorem test_dosing_cycle :
    let x := (cycleWork 0 dosing).chans[0]
    x.m = 4176 ∧ x.trim = 154 ∧ x.u = 5404 ∧ x.gramResidue = 0 ∧ x.kjResidue = 700 ∧ x.inTol = 1 := by decide +kernel
theorem test_dosing_totals :
    let t := (cycleWork 0 dosing).shift.totals
    t.chans[0].grams = 1160 ∧ t.chans[0].kj = 30160 ∧ t.burns.main.kj = 30160 ∧ t.chans[0].dosing = 1 := by
  decide +kernel
/-- R58: five cycles of a running drive without travel end in ENCODER. -/
theorem test_stall_faults :
    let s := (dosing.onPulse 0 fun x => { x with count := 0 }).onChan 0 fun x => { x with stallCount := 4 }
    (cycleWork 0 s).chans[0].cause = some .encoder := by decide +kernel
/-- R44: in service while MAIN fires. -/
theorem test_service_in_doses :
    (after (.channelServiceIn 1) (assigned 0 .main (withBurner .main .firing s0))).chans[0].state = .dosing := by
  decide +kernel
/-- R44, R46: a channel placed in service keeps target 0 through a cap event, and is planned from the next plan cycle. -/
theorem test_service_in_awaits :
    let s := after (.channelServiceIn 1) ((assigned 0 .main ramping).onLive fun l =>
      { l with chans := upd l.chans 0 fun x => { x with cv := 26000, share := 500, minRate := 0, maxRate := 9000 } })
    (capEvent 20000 s).chans[(0 : Channel)].r = 0
    ∧ (after .planCycleExpiry (capEvent 20000 s)).chans[(0 : Channel)].r = 2769 := by decide +kernel
theorem test_service_in_unassigned : reply (.channelServiceIn 1) s0 = some (.refused, some .notAssigned) := by
  decide +kernel
theorem test_service_out : (after (.channelServiceOut 1) (withChan 0 .idle s0)).chans[0].state = .out := by decide +kernel
theorem test_channel_reset : (after (.channelReset 1) (withChan 0 .fault s0)).chans[0].state = .idle := by decide +kernel
theorem test_calibrate_zero_drive : (after (.calibrateZero 1 60) s0).chans[0].u = 3000 := by decide +kernel
theorem test_calibrate_span_needs_tare : reply (.calibrateSpan 1 10000 60) s0 = some (.refused, some .noTare) := by
  decide +kernel
/-- A stage of C1 with these samples (section 3.5). -/
def calibrating (kind : StageKind) (load : Option Nat) (sum count tare : Nat) : State :=
  ((withChan 0 .calib s0).onLive fun l => { l with chans := upd l.chans 0 fun x => { x with tare := tare } }).onChan 0 fun x =>
    { x with u := 3000, stage := some { kind := kind, testLoad := load, duration := 60, timer := some 0, drive := 3000,
                                        sum := sum, count := count } }
theorem test_zero_stage : (after (.stageTimerExpiry 0) (calibrating .zero none 246300 600 396)).live.chans[0].tare = 410 := by
  decide +kernel
theorem test_span_stage :
    (after (.stageTimerExpiry 0) (calibrating .span (some 10000) 1474800 600 410)).live.chans[0].span = 20000 := by
  decide +kernel
theorem test_calibrate_abort :
    ((after (.calibrateAbort 1) (calibrating .zero none 5 1 0)).chans[0].result.map CalResult.outcome) = some .aborted := by
  decide +kernel
theorem test_hold_expires :
    let s := s0.onChan 0 fun x => { x with state := .hold, holdTimer := some 0, u := 3790 }
    (after (.holdTimerExpiry 0) s).chans[0].cause = some .holdExpired
    ∧ driveOutput (after (.holdTimerExpiry 0) s) 0 = 0 := by decide +kernel
theorem test_channel_read_clears :
    (after (.channelRead 1 0) (s0.onChan 0 fun x => { x with lockLost := true })).chans[0].lockLost = false := by
  decide +kernel

/-! ## The burners: the sequences of section 4.8 -/

/-- A burner in a state with a timer of it at its end. -/
def burning (b : Burner) (state : BurnState) : State :=
  s0.onBurn b fun x => { x with state := state, purgeTimer := some 0, trialTimer := some 0, stabTimer := some 0 }

theorem test_light_enters_purge : (after (.burnerLight 1) s0).burns.main.state = .purge := by decide +kernel
theorem test_light_calciner_refused : reply (.burnerLight 2) s0 = some (.refused, some .mainNotFiring) := by decide +kernel
theorem test_purge_expiry_ignites :
    let t := after (.purgeTimerExpiry .main) (burning .main .purge)
    t.burns.main.state = .ignition ∧ t.burns.main.trialTimer = some 10000 ∧ igniterOn t .main = true := by decide +kernel
theorem test_third_flame_sample_proves :
    let s := (burning .main .ignition).onBurn .main fun x => { x with proof := 2 }
    let t := after (.analogSampleArrival 6 1820) s
    t.burns.main.state = .proven ∧ shutoffOpen t .main = true ∧ t.burns.main.stabTimer = some 5000 := by decide +kernel
theorem test_trial_expiry_trips :
    (after (.trialTimerExpiry .main) (burning .main .ignition)).burns.main.firstOut.map FirstOut.cause
      = some .ignitionFailed := by decide +kernel
theorem test_stabilise_expiry_fires :
    (after (.stabiliseTimerExpiry .main) (burning .main .proven)).burns.main.state = .firing := by decide +kernel
theorem test_flame_lost :
    let s := (withBurner .main .firing s0).onBurn .main fun x => { x with failure := 19 }
    let t := after (.analogSampleArrival 6 400) s
    t.burns.main.state = .tripped ∧ t.handed = [(.calciner, .mainLost)] ∧ t.alarm.points[62].cond = true := by
  decide +kernel
/-- R81: 794 is below 850 − 50. -/
theorem test_inlet_cold :
    let s := withValue 20 .good 900 (withBurner .calciner .firing s0)
    (after (.analogSampleArrival 20 2034) s).burns.calciner.firstOut.map FirstOut.cause = some .inletCold := by
  decide +kernel
theorem test_main_lost_trips :
    (after .mainLost (withBurner .calciner .firing s0)).burns.calciner.state = .tripped := by decide +kernel
theorem test_emergency_stop_trips :
    (after (.emergencyStopTrip .main) (withBurner .main .purge s0)).burns.main.firstOut.map FirstOut.tripFrom
      = some .purge := by decide +kernel
theorem test_alarm_point_in_off : (after (.alarmPoint .calciner 43) s0).burns = s0.burns := by decide +kernel
theorem test_burner_stop_takes_calciner :
    (after (.burnerStop 1) (withBurner .main .firing (withBurner .calciner .purge s0))).burns.calciner.state = .off := by
  decide +kernel
/-- Section 4.8: point 63 is still unacknowledged. -/
theorem test_reset_trip_unacknowledged :
    let s := withPoint 62 .activeUnack true (s0.onBurn .main fun x =>
      { x with state := .tripped, firstOut := some ⟨.flameLost, .firing, none, 0⟩ })
    reply (.burnerResetTrip 1) s = some (.refused, some .unacknowledged) := by decide +kernel
theorem test_burner_read_length : (replyData (.burnerRead 1) s0).map List.length = some 66 := by decide +kernel

/-! ## The cooler: the examples of sections 5.4 to 5.6 -/

/-- G1 as in section 5.4: AUTO at rate 120, with a window whose average is `a`. -/
def strokes (a : Int) : State :=
  let s := s0.onLive fun l =>
    { l with grates := upd l.grates 0 fun x =>
      { x with mode := .auto, forward := 1800, ret := 1800, dead := 300, rateMin := 60, rateMax := 200, clinkerFactor := 55 } }
  let s := s.onCooler fun x => { x with window := [a] }
  s.onGrate 0 fun x =>
    { x with state := .running, phase := some .rest, phaseTimer := some 0, guard := none, rate := 120,
             active := ⟨1800, 1800, 300, 5000⟩ }

theorem test_rest_expiry_stages_rate :
    let x := (after (.restExpiry 0) (strokes 5400)).cooler.grates[0]
    x.rate = 128 ∧ x.strokePressure = some 5400 ∧ x.staged.map Timing.period = some 4687
    ∧ x.staged.map Timing.rest = some 787 := by decide +kernel
theorem test_forward_expiry_confirmed :
    let s := (withPhaseOf 0 .running .forward (strokes 5400)).onGrate 0 fun x => { x with confirmed := true, miss := 1 }
    let x := (after (.forwardExpiry 0) s).cooler.grates[0]
    x.phase = some .deadA ∧ x.miss = 0 ∧ x.phaseTimer = some 300 := by decide +kernel
theorem test_second_miss_stalls :
    let s := (withPhaseOf 0 .running .forward s0).onGrate 0 fun x => { x with miss := 1 }
    let t := after (.forwardExpiry 0) s
    t.cooler.grates[0].state = .stalled ∧ t.alarm.points[66].cond = true ∧ t.cooler.overload = true := by decide +kernel
theorem test_stroke_counts_clinker :
    let s := (withPhaseOf 0 .running .deadA (strokes 5400)).onGrate 0 fun x =>
      { x with confirmed := true, strokePressure := some 5400 }
    let t := after (.deadAExpiry 0) s
    t.shift.totals.clinker = 297 ∧ t.cooler.grates[0].strokesLow = 1 ∧ returnOpen t 0 = true := by decide +kernel
theorem test_return_expiry_starts_guard :
    let x := (after (.returnExpiry 0) (withPhaseOf 0 .running .ret (strokes 5400))).cooler.grates[0]
    x.guard = some 0 ∧ x.phase = some .rest ∧ x.phaseTimer = some 1100 := by decide +kernel
theorem test_guard_end :
    (after (.returnGuardEnd 0) ((strokes 5400).onGrate 0 fun x => { x with guard := some 300 })).cooler.grates[0].guard
      = none := by decide +kernel
theorem test_stroke_switch_confirms :
    let s := withPin 0 true false (some 0) (withPhaseOf 0 .running .forward s0)
    (after (.debounceExpiry 0) s).cooler.grates[0].confirmed = true := by decide +kernel
/-- R89: at 200 a minute the period 3 000 is lengthened to the sum of the times. -/
theorem test_cooler_set_lengthens :
    ((after (.coolerSet 1 1 200 2000 2000 250) s0).cooler.grates[0].staged.map Timing.period) = some 4500 := by
  decide +kernel
theorem test_grate_run : forwardOpen (after (.grateRun 1) (s0.onGrate 0 fun x => { x with guard := none })) 0 = true := by
  decide +kernel
theorem test_grate_run_stalled :
    reply (.grateRun 1) (s0.onGrate 0 fun x => { x with state := .stalled }) = some (.refused, some .stalled) := by
  decide +kernel
theorem test_grate_single :
    (after (.grateSingle 2) (s0.onGrate 1 fun x => { x with guard := none })).cooler.grates[1].state = .single := by
  decide +kernel
theorem test_grate_stop_runs_out :
    (after (.grateStop 1) (withPhaseOf 0 .running .forward s0)).cooler.grates[0].runOut = true := by decide +kernel
theorem test_grate_reset :
    (after (.grateReset 1) (s0.onGrate 0 fun x => { x with state := .stalled })).cooler.grates[0].state = .stopped := by
  decide +kernel
/-- Section 5.5: the table example with a target of 980. -/
theorem test_damper_table : tablePosition #v[0, 80, 170, 270, 380, 500, 630, 780, 950] 980 = 710 := by decide
theorem test_fan_set : (after (.fanSet 4 0 600) s0).cooler.fans[3].damper = 500 := by decide +kernel
/-- R99: a table written since the last plan cycle is not used before the next. -/
theorem test_fan_table_waits :
    let s := s0.onLive fun l => { l with fans := upd l.fans 3 fun x => { x with table := Vector.replicate 9 1000 } }
    let t := after (.fanSet 4 0 600) s
    t.cooler.fans[3].damper = 500 ∧ (after .planCycleExpiry t).cooler.fans[3].damper = 1000 := by decide +kernel
/-- Section 5.6: the cap of 58 000 at 90 percent. -/
theorem test_overload_cap :
    let s := (withBurner .main .firing s0).onDemand .main fun d => { d with hReq := 60000, hApp := 58000 }
    let t := enterOverload s
    t.cooler.cap = 52200 ∧ t.planner.hCap = 52200 ∧ t.planner.demand.main.hApp = 52200 ∧ t.alarm.points[69].cond = true := by
  decide +kernel
theorem test_cooler_read_length : (replyData (.coolerRead 1 8) s0).map List.length = some 40 := by decide +kernel

/-! ## The Alarm Table: the example of section 6.10 -/

/-- The list full of the external points 84 to 91. -/
def fullList : State :=
  let raised : List Point := [90, 89, 88, 87, 86, 85, 84, 83]
  s0.onAlarm fun t =>
    { t with list := raised, points := Vector.ofFn fun p =>
      if p ∈ raised then { t.points[p] with state := .activeUnack, cond := true } else (startAlarm defaultSettings).points[p] }

theorem test_full_list_queues :
    let t := reportCond (pt 47) true fullList
    t.alarm.queue = [46] ∧ t.alarm.list = fullList.alarm.list ∧ t.shift.totals.maxWaiting = 1 := by decide +kernel
theorem test_ack_top_promotes :
    let t := after .alarmAckTop (reportCond (pt 63) true fullList)
    t.alarm.list.head? = some 62 ∧ t.alarm.queue = [] ∧ hornSounds t = true
    ∧ t.answer.map Answered.data = some [91#8] := by decide +kernel
theorem test_ack_point :
    (after (.alarmAckPoint 90) fullList).alarm.list = [90, 88, 87, 86, 85, 84, 83] := by decide +kernel
theorem test_ack_all_counts : replyData .alarmAckAll fullList = some [8#8] := by decide +kernel
theorem test_horn_silence :
    hornSounds (after .hornSilence (reportCond (pt 79) true s0)) = false
    ∧ hornSounds (reportCond (pt 79) true s0) = true := by decide +kernel
theorem test_raise : (after (.alarmRaise 84) s0).alarm.list = [83, 82] := by decide +kernel
theorem test_raise_internal : reply (.alarmRaise 83) s0 = some (.refused, some .notExternal) := by decide +kernel
theorem test_clear : (after (.alarmClear 90) fullList).alarm.points[89].state = .clearedUnack := by decide +kernel
/-- Section 6.10: the default shelve duration, and the refusal for point 79. -/
theorem test_shelve_default : (after (.alarmShelve 17 0) s0).alarm.points[16].shelve = some 60 := by decide +kernel
theorem test_shelve_trip_point : reply (.alarmShelve 79 5) s0 = some (.refused, some .tripPoint) := by decide +kernel
theorem test_unshelve :
    (after (.alarmUnshelve 17) (withPoint 16 .shelved false s0)).alarm.points[16].state = .normal := by decide +kernel
theorem test_shelve_expiry_activates :
    (after (.shelveExpiry 16) (withPoint 16 .shelved true s0)).alarm.list = [16, 82] := by decide +kernel
theorem test_disable : (after (.alarmDisable 17) s0).alarm.points[16].state = .disabled := by decide +kernel
theorem test_enable :
    (after (.alarmEnable 17) (withPoint 16 .disabled true s0)).alarm.points[16].state = .activeUnack := by decide +kernel
theorem test_alarm_read_length : (replyData (.alarmRead 83) s0).map List.length = some 19 := by decide +kernel
/-- R176, R166, R99: sounding, set and on are the first of their lists, coded 0; off and clear 1. The list holds points 79, of
priority 1, and 83. -/
theorem test_codes_by_place :
    (replyData (.listRead 0 0) (withPin 3 false true (some 0) s0 |> after (.debounceExpiry 3))).map (List.take 4)
      = some [2#8, 0#8, 0#8, 1#8]
    ∧ (replyData (.coolerRead 1 8) s0).map (List.take 3) = some [1#8, 8#8, 1#8]
    ∧ (replyData (.linkRead 1) s0).map (List.drop 12) = some [1#8] := by decide +kernel
theorem test_list_read : (replyData (.listRead 0 0) s0).map List.length = some 14 := by decide +kernel

/-! ## The shift: the example of section 7.8 -/

/-- 13:59:59 of day 211 with the ring at 40. -/
def lateShift : State :=
  s0.onShift fun x =>
    { x with seconds := 50399, day := 211, isSet := true, shiftSeconds := 28799, startClock := ⟨21600, 211, true⟩
             nextSeq := 41 }

theorem test_boundary_closes :
    let t := after .secondTimerExpiry lateShift
    t.shift.ring.map Report.seq = [41] ∧ t.shift.ring.map Report.duration = [28800]
    ∧ t.shift.ring.map Report.endClock = [⟨50400, 211, true⟩] ∧ t.shift.nextSeq = 42 ∧ t.shift.shiftSeconds = 0 := by
  decide +kernel
theorem test_clock_set_range : reply (.clockSet 86400 0) s0 = some (.range, none) := by decide +kernel
theorem test_shift_close_reply : replyData .shiftClose lateShift = some [0#8, 0#8, 0#8, 41#8] := by decide +kernel
/-- Report 37 of section 7.8: three channel entries and a specific heat make 228 bytes in 3 parts. -/
def report37 : Report :=
  { seq := 37, reason := .boundary, startClock := ⟨21600, 210, true⟩, endClock := ⟨50400, 210, true⟩, duration := 28800
    totals := { clinker := 1152000, chans := #v[{ mark := true }, { mark := true }, { mark := true }, {}, {}, {}] } }
def inRing (s : State) : State := s.onShift fun x => { x with ring := [report37], nextSeq := 38, unopened := true }
theorem test_full_record_length :
    (fullRecord report37 false).length = 228 ∧ partCount (fullRecord report37 false) = 3 := by decide +kernel
theorem test_report_open :
    let t := after (.reportOpen 0 0) (inRing s0)
    t.shift.unopened = false ∧ (t.shift.transfer.map Transfer.seq) = some 37 := by decide +kernel
theorem test_report_open_falls_back :
    ((after (.reportOpen 0 2) (inRing s0)).shift.transfer.map Transfer.fallback) = some true := by decide +kernel
/-- R177: six channels with a specific heat in both reports make 423 bytes in COMPARE; two covered channels 33 marks in
5 bytes of DELTA, here with the grams of C1 changed. -/
theorem test_compare_and_delta_records :
    let six : Totals := { clinker := 5, chans := Vector.replicate 6 { mark := true } }
    let two : Totals := { chans := #v[{ mark := true, grams := 7 }, { mark := true }, {}, {}, {}, {}] }
    let old : Totals := { chans := #v[{ mark := true }, {}, {}, {}, {}, {}] }
    (compareRecord { report37 with totals := six } { report37 with seq := 36, totals := six }).length = 423
    ∧ (deltaRecord { report37 with totals := two } { report37 with seq := 36, totals := old }).drop 30
      = [1#8, 0x80#8, 0#8, 0#8, 0#8, 0#8, 0#8, 0#8, 0#8, 0#8, 0#8, 0#8, 0#8, 7#8] := by decide +kernel
theorem test_report_part_gone :
    let s := s0.onShift fun x => { x with transfer := some ⟨true, 37, .full, false, none, [1#8]⟩ }
    reply (.reportPart 2) s = some (.gone, none) ∧ (after (.reportPart 2) s).shift.transfer = none := by decide +kernel
theorem test_report_part_none : reply (.reportPart 2) s0 = some (.noTransfer, none) := by decide +kernel

/-! ## The floor -/

theorem test_supervision_enters_fallback :
    let s := s0.onDemand .main fun d => { d with hReq := 60000, hApp := 40000 }
    let t := after .supervisionExpiry s
    t.floor.mode = .fallback ∧ t.planner.demand.main.hReq = 40000 ∧ t.alarm.points[80].cond = true := by decide +kernel
theorem test_grace_lowers :
    let s := (withMode .fallback (s0.onDemand .main fun d => { d with hApp := 90000 })).onFloor fun x =>
      { x with stage := some .frozen, grace := some 0 }
    (after .graceExpiry s).floor.stage = some .lowered := by decide +kernel
theorem test_enter_standby : (after .enterStandby s0).floor.mode = .standby := by decide +kernel
theorem test_enter_standby_active :
    reply .enterStandby (withBurner .main .purge s0) = some (.refused, some .burnerActive) := by decide +kernel
theorem test_leave_standby_settles :
    (after .leaveStandby (withMode .standby s0)).floor.settle = some 2000 := by decide +kernel
theorem test_settle_expiry_judges :
    let s := ((withMode .settle s0).onFloor fun x => { x with settle := some 0 }).onAnalog 11 fun x =>
      { x with judged := some .bad }
    let t := after .settleExpiry s
    t.scan.analog[11].quality = .bad ∧ t.scan.analog[12].quality = .unsettled ∧ t.floor.mode = .normal := by decide +kernel
theorem test_status_read_length : (replyData .statusRead s0).map List.length = some 19 := by decide +kernel

/-! ## The link -/

/-- R159: the check value of the CRC-16. -/
theorem test_crc16 : crc16 digits = 0x29B1#16 := by decide +kernel
/-- R179: the check value of the CRC-32. -/
theorem test_crc32 : crc32 digits = 0xFC891918#32 := by decide +kernel
theorem test_lead_byte : (after (.linkByteArrival 0x5A#8 true) s0).link.asm = .length := by decide +kernel
theorem test_length_error :
    let t := after (.linkByteArrival 121#8 true) (s0.onLink fun x => { x with asm := .length })
    t.link.asm = .hunt ∧ t.link.counters.length = 1 := by decide +kernel
theorem test_gap_expiry :
    (after .gapExpiry (s0.onLink fun x => { x with asm := .kind, gapTimer := some 0 })).link.counters.gap = 1 := by
  decide +kernel
/-- Section 9.7: a frame that completes while a reply waits is an overrun. -/
def waitingReply (seq : Byte) : Reply := ⟨seq, 0xD2#8, ⟨.done, none, summaryOf s0, []⟩⟩
theorem test_overrun :
    let s := s0.onLink fun x => { x with sending := some (waitingReply 7#8), waiting := some (waitingReply 8#8) }
    let t := acceptFrame 9#8 0x54#8 [] s
    t.link.counters.overruns = 1 ∧ t.link.overrun = true ∧ t.alarm.list = s.alarm.list := by decide +kernel
theorem test_transmission_promotes :
    let s := s0.onLink fun x => { x with sending := some (waitingReply 7#8), waiting := some (waitingReply 8#8) }
    let t := after .transmissionCompletion s
    t.link.sending.map Reply.seq = some 8#8 ∧ t.link.waiting = none := by decide +kernel
theorem test_break_closes_transfer :
    let s := s0.onShift fun x => { x with transfer := some ⟨true, 37, .full, false, none, [1#8]⟩ }
    (after .linkBreak s).shift.transfer = none ∧ (after .linkBreak s).link.counters.breaks = 1 := by decide +kernel
theorem test_break_end : (after .breakEnd (s0.onLink fun x => { x with broken := true })).link.broken = false := by
  decide +kernel
theorem test_link_read_clears :
    (after (.linkRead 0) (s0.onLink fun x => { x with counters := { gap := 3 } })).link.counters.gap = 0 := by
  decide +kernel
theorem test_link_echo : replyData (.linkEcho [1#8, 2#8]) s0 = some [1#8, 2#8] := by decide +kernel
/-- R176: kind 0x06 names the burner and a 4-byte demand. -/
theorem test_request_of_frame :
    requestOf 0x06#8 0#8 [1#8, 0#8, 0#8, 0xEA#8, 0x60#8] = .ok (.heatSet 1 60000) := by decide +kernel
theorem test_request_unknown : requestOf 0x07#8 0#8 [] = .error .unknownKind := by decide +kernel

/-! ## The store and the reset -/

theorem test_settings_read : replyData (.settingsRead 0x0308 1) s0 = some [0#8, 0#8, 0x27#8, 0x10#8] := by decide +kernel
/-- R42: a tolerance below 1 is stored as 1. -/
theorem test_settings_write_clamps :
    reply (.settingsWrite 0x030C 1 0) s0 = some (.clamped, none)
    ∧ (after (.settingsWrite 0x030C 1 0) s0).live.chans[0].tolerance = 1 := by decide +kernel
theorem test_settings_save : (after .settingsSave s0).store.job = some defaultSettings := by decide +kernel
theorem test_save_completes :
    let t := after (.saveCompletion none) ((withPoint 82 .activeAck true s0).onStore fun x => { x with job := some x.live })
    t.store.lastSave = .ok ∧ t.store.imageState = .valid ∧ t.alarm.points[82].state = .normal := by decide +kernel
/-- R175, R4: the load judges MAIN's permit and a fixed trip target like every item; a scale of A1 to A8 it does not. -/
theorem test_load_judges_instances :
    isOut [(.burner .main .permit, 1601)] (.burner .main .permit) = true
    ∧ loadsAsStored [(.burner .main .permit, 900)] (.burner .main .permit) = true
    ∧ isOut [(.input 0 .scaleLow, 40000)] (.input 0 .scaleLow) = false
    ∧ loadsAsStored [(.input 0 .scaleLow, 5)] (.input 0 .scaleLow) = false := by decide
theorem test_ident_read_clears : (after .identRead s0).store.causeUnread = false := by decide +kernel
theorem test_supply_dip : (after .supplyDip s0).store.cause = .supplyDip := by decide +kernel
theorem test_reset_pin_shuts :
    let t := after .resetPin (withChan 0 .dosing (s0.onChan 0 fun x => { x with u := 9000 }))
    driveOutput t 0 = 0 ∧ t.phase = .held := by decide +kernel
theorem test_reset_release : (after .resetRelease (withPhase .held s0)).phase = .loading := by decide +kernel
theorem test_restart_replies_first :
    let t := after (.restart 5#8) s0
    t.phase = .running ∧ t.link.sending.map Reply.kind = some 0xFF#8 := by decide +kernel
/-- R174: the reset follows the reply, and its load starts at once. -/
theorem test_restart_takes_effect :
    let s := s0.onLink fun x => { x with sending := some ⟨5#8, 0xFF#8, ⟨.done, none, summaryOf s0, []⟩⟩ }
    let t := after .transmissionCompletion s
    t.phase = .loading ∧ t.store.cause = .restart := by decide +kernel

/-! ## Witnesses: states and operands that meet the hypotheses of the obligations, each clause at the ends of its range -/

theorem witness_StepRunsFrontCommand :
    ({ s0 with pending := [.mainLost, .statusRead] } : State).pending = .mainLost :: [.statusRead] := rfl
/-- With no command waiting: nothing due, one event, and two. -/
theorem witness_StepRunsFrontCommand_idle :
    let one := s0.onPlanner fun x => { x with planTimer := some 0 }
    let two := one.onShift fun x => { x with secondTimer := some 0 }
    s0.pending = [] ∧ two.pending = [] ∧ ready s0 = [] ∧ ready one = [.planCycleExpiry] ∧ 2 ≤ (ready two).length
    ∧ later s0 = tick s0 := by decide +kernel

theorem witness_RequestsBusyDuringLoad :
    serviceOf .statusRead = some statusRead ∧ serviceOf (.restart 255#8) = some restartService
    ∧ (withPhase .loading s0).phase = .loading ∧ (withPhase .loading s0).link.waiting = none
    ∧ ∀ seq, Instr.statusRead ≠ .restart seq := ⟨rfl, rfl, by decide, by decide, fun _ h => nomatch h⟩

theorem witness_SampleInRange :
    s0.phase = .running ∧ s0.scan.analog[(0 : AnalogIn)].force = none ∧ s0.scan.analog[(21 : AnalogIn)].force = none
    ∧ 1 ≤ 1 ∧ 4094 ≤ 4094 := by decide +kernel

/-- Bed with point 18 tripping MAIN. -/
def bedTrips : State :=
  bed.onLive fun l => { l with points := upd l.points 17 fun x => { x with target := .main } }
/-- An arrival at A9 that makes a limit point with a trip target present. -/
theorem witness_SampleInRange_limit :
    let t := after (.analogSampleArrival 8 3100) bedTrips
    bedTrips.phase = .running ∧ bedTrips.scan.analog[(8 : AnalogIn)].force = none
    ∧ bedTrips.scan.analog[(8 : AnalogIn)].highCond = false ∧ t.scan.analog[(8 : AnalogIn)].highCond = true
    ∧ bedTrips.alarm.points[highPoint 8].cond = false ∧ t.alarm.points[highPoint 8].cond = true
    ∧ (tripTarget bedTrips (highPoint 8)).includes .main = true
    ∧ t.scan.analog[(8 : AnalogIn)].quality ≠ .bad := by decide +kernel

theorem witness_SampleWithoutNewValue_limit :
    let forced := bedTrips.onAnalog 8 fun x => { x with force := some 3100, lastGood := 3100, quality := .forced }
    let t := after (.analogSampleArrival 8 1) forced
    let u := after (.analogSampleArrival 8 4095) (bedTrips.onCooler fun x => { x with window := [5400] })
    forced.scan.analog[(8 : AnalogIn)].force.isSome = true ∧ t.scan.analog[(8 : AnalogIn)].highCond = true
    ∧ (Burner.main, Cause.alarmPoint 17) ∈ t.handed
    ∧ u.scan.analog[(8 : AnalogIn)].quality = .bad ∧ u.cooler.window = [] := by decide +kernel
theorem witness_SampleWithoutNewValue :
    s0.scan.analog[(0 : AnalogIn)].force = none
    ∧ (s0.onAnalog 0 fun x => { x with force := some 1 }).scan.analog[(0 : AnalogIn)].force.isSome = true := by
  decide +kernel

theorem witness_EncoderCounts :
    let top := s0.onPulse 0 fun x => { x with count := 2147483647, levelA := true, levelB := true }
    let bottom := s0.onPulse 5 fun x => { x with count := -2147483648 }
    top.phase = .running ∧ top.scan.pulse[(0 : PulseIn)].count ≤ 2147483647
    ∧ -2147483648 ≤ bottom.scan.pulse[(5 : PulseIn)].count
    ∧ top.scan.pulse[(0 : PulseIn)].levelA = true ∧ top.scan.pulse[(0 : PulseIn)].levelB = true := by decide +kernel

theorem witness_DiscreteInputDebounced :
    let s := withPin 2 true false (some 0) (withPhaseOf 2 .running .forward s0)
    let fall := withPin 4 false true (some 0) s0
    let back := withPin 4 true false (some 0) s0
    s.phase = .running ∧ s.scan.discrete[(2 : DiscreteIn)].timer.isSome = true
    ∧ s.scan.discrete[(2 : DiscreteIn)].pin = true ∧ s.scan.discrete[(2 : DiscreteIn)].debounced = false
    ∧ s.cooler.grates[(2 : Grate)].phase = some .forward
    ∧ fall.scan.discrete[(4 : DiscreteIn)].timer.isSome = true ∧ fall.scan.discrete[(4 : DiscreteIn)].pin = false
    ∧ fall.scan.discrete[(4 : DiscreteIn)].debounced = true ∧ fall.cooler.overload = false
    ∧ (fall.onCooler fun x => { x with overload := true }).cooler.overload = true
    ∧ back.scan.discrete[(4 : DiscreteIn)].timer.isSome = true ∧ back.scan.discrete[(4 : DiscreteIn)].pin = true
    ∧ back.scan.discrete[(4 : DiscreteIn)].debounced = false := by decide +kernel

theorem witness_StopLoopOpens :
    let s := withChan 0 .calib (withPin 3 false true (some 0) s0)
    let back := withPin 3 true false (some 0) s0
    s.phase = .running ∧ s.scan.discrete[(3 : DiscreteIn)].timer.isSome = true
    ∧ s.scan.discrete[(3 : DiscreteIn)].pin = false ∧ s.scan.discrete[(3 : DiscreteIn)].debounced = true
    ∧ s.alarm.points[pt 79].cond = false ∧ s.chans[(0 : Channel)].state = .calib
    ∧ s.chans[(1 : Channel)].state ≠ .calib ∧ back.scan.discrete[(3 : DiscreteIn)].timer.isSome = true
    ∧ back.scan.discrete[(3 : DiscreteIn)].pin = true
    ∧ back.scan.discrete[(3 : DiscreteIn)].debounced = false := by decide +kernel

theorem witness_ForceInput :
    s0.phase = .running ∧ (1 ≤ 1 ∧ 1 ≤ 4094) ∧ (1 ≤ 4094 ∧ 4094 ≤ 4094) ∧ s0.burns.main.state = .off
    ∧ ((-100000 : Int) ≤ -100000 ∧ (100000 : Int) ≤ 100000)
    ∧ s0.burns.calciner.state = .off ∧ (withBurner .main .purge s0).burns.main.state ≠ .off
    ∧ (withBurner .calciner .tripped s0).burns.calciner.state ≠ .off := by decide +kernel

/-- A force that makes a limit point with a trip target present. -/
theorem witness_ForceInput_limit :
    let t := after (.inputForce 0 9 3100) bedTrips
    bedTrips.alarm.points[highPoint 8].cond = false ∧ t.alarm.points[highPoint 8].cond = true
    ∧ (Burner.main, Cause.alarmPoint 17) ∈ t.handed := by decide +kernel

theorem witness_ReleaseInput :
    let s := s0.onAnalog 21 fun x => { x with force := some 4094, quality := .forced }
    s.phase = .running ∧ s.scan.analog[(21 : AnalogIn)].force.isSome = true
    ∧ s.scan.analog[(0 : AnalogIn)].force = none ∧ anyForced s = true
    ∧ anyForced (after (.inputRelease 0 22) s) = false
    ∧ anyForced (after (.inputRelease 0 22) (s.onPulse 0 fun x => { x with force := some 0 })) = true := by decide +kernel

theorem witness_HeatSetStores : s0.phase = .running ∧ (3 ≠ 1 ∧ 3 ≠ 2) := by decide +kernel

theorem witness_SplitRespectsRates :
    let l := [fuel1, fuel2, fuel3]
    l.length ≤ 6 ∧ (l.map Fuel.chan).Nodup ∧ (∀ f ∈ l, 0 < f.share ∧ 0 < f.cv ∧ f.minRate ≤ f.maxRate) := by decide

theorem witness_PlanCycleExpiry :
    let s := withBurner .calciner .firing s0
    s.phase = .running ∧ s.planner.planTimer.isSome = true ∧ fires s .main = false ∧ feeds (assigned 0 .main s) 0 .main = true
    ∧ fires s .calciner = true := by decide +kernel
/-- MAIN fires and its expiry enters no overload, or, by the pressure test of R104, enters one. -/
theorem witness_PlanCycleExpiry_main :
    let s := withChan 0 .dosing (assigned 0 .main ramping)
    let o := (ramping.onCooler fun x => { x with window := [10001], pressureCount := 59 }).onGrate 0 fun x =>
      { x with rate := 300 }
    fires s .main = true ∧ 1 ≤ s.live.cooler.clearTime
    ∧ (after .planCycleExpiry s).cooler.overload = s.cooler.overload
    ∧ feeds s 0 .main = true ∧ s.chans[(0 : Channel)].state = .dosing
    ∧ fires o .main = true ∧ o.cooler.overload = false ∧ (after .planCycleExpiry o).cooler.overload = true := by
  decide +kernel
theorem witness_PlanCycleExpiry_cap :
    let s := withChan 0 .dosing (assigned 0 .main ramping)
    s.planner.demand.main.hApp ≤ 40000 ∧ 39999 < s.planner.demand.main.hApp ∧ feeds s 0 .main = true
    ∧ s.chans[(0 : Channel)].state = .dosing ∧ s.chans[(0 : Channel)].awaitsPlan = false ∧ feeds s 1 .main = false
    ∧ (enterDosing 0 s).chans[(0 : Channel)].awaitsPlan = true := by decide +kernel
/-- The cooler's work: a hot fan at its last failing cycle, which enters OVERLOAD, and a clear count at its last step. -/
theorem witness_PlanCycleExpiry_cooler :
    let s := withValue 11 .good 149 (s0.onFan 0 fun x => { x with on := true, damper := 101, failCount := 9 })
    let o := s0.onCooler fun x => { x with overload := true, clearCount := some 119 }
    s.phase = .running ∧ s.planner.planTimer.isSome = true ∧ 1 ≤ s.live.cooler.clearTime
    ∧ s.cooler.fans[(0 : Fan)].on = true ∧ s.floor.mode = .normal ∧ s.scan.analog[flowInput 0].quality = .good
    ∧ s.scan.analog[flowInput 0].value < (s.live.fans[(0 : Fan)].failLevel : Int)
    ∧ 100 < s.cooler.fans[(0 : Fan)].damper ∧ s.cooler.overload = false
    ∧ (after .planCycleExpiry s).cooler.overload = true
    ∧ o.cooler.overload = true ∧ (after .planCycleExpiry o).cooler.overload = false := by decide +kernel

/-- A channel of a burner other than MAIN, one without a burner, and one of a MAIN that does not fire. -/
theorem witness_PlanCycleExpiry_work :
    let s := assigned 0 .calciner s0
    burnerOf s 0 ≠ some .main ∧ burnerOf s0 0 = none ∧ burnerOf (assigned 0 .main s0) 0 = some .main
    ∧ fires s0 .main = false := by decide +kernel

theorem witness_DosingCycle :
    dosing.chans[(0 : Channel)].state = .dosing ∧ 0 < takenCount dosing 0 ∧ 1 ≤ dosing.live.chans[(0 : Channel)].devTime
    ∧ dosing.planner.entries[(0 : Channel)].rate = 4200
    ∧ ((4200 : Int) - 4176).natAbs ≤ dosing.live.chans[(0 : Channel)].tolerance
    ∧ (withChan 0 .hold dosing).chans[(0 : Channel)].state = .hold := by decide +kernel
/-- A third cycle with a count below 0 finds REVERSE (R58). -/
theorem witness_DosingCycle_fault :
    let s := (dosing.onPulse 0 fun x => { x with count := -1 }).onChan 0 fun x => { x with reverseCount := 2 }
    takenCount s 0 < 0 ∧ 3 ≤ s.chans[(0 : Channel)].reverseCount + 1
    ∧ (cycleWork 0 s).chans[(0 : Channel)].cause = some .reverse := by decide +kernel

/-- The other states of the cycle work; and the totals of an expiry that finds MAIN FIRING short of fuel, an input forced and
the floor in FALLBACK (R15, R36, R74, R157). -/
theorem witness_DosingCycle_totals :
    let s := withMode .fallback (ramping.onAnalog 0 fun x => { x with force := some 410 })
    let t := (after .planCycleExpiry s).shift.totals
    s.phase = .running ∧ s.planner.planTimer.isSome = true ∧ fires s .main = true ∧ anyForced s = true
    ∧ t.burns.main.firing = 1 ∧ t.burns.main.shortfall = 1 ∧ t.burns.calciner.firing = 0 ∧ t.forced = 1 ∧ t.fallback = 1
    ∧ t.standby = 0 ∧ kjDosed dosing 0 = 30160 ∧ (withChan 0 .idle dosing).chans[(0 : Channel)].state = .idle
    ∧ (withChan 0 .out dosing).chans[(0 : Channel)].state = .out := by decide +kernel

theorem witness_ChannelService :
    s0.phase = .running ∧ s0.chans[(0 : Channel)].state = .out ∧ burnerOf (assigned 0 .main s0) 0 ≠ none
    ∧ s0.floor.mode ≠ .settle ∧ (withChan 5 .idle s0).chans[(5 : Channel)].state = .idle
    ∧ (withChan 5 .fault s0).chans[(5 : Channel)].state = .fault
    ∧ (withChan 5 .dosing s0).chans[(5 : Channel)].state = .dosing
    ∧ (withChan 5 .hold s0).chans[(5 : Channel)].state = .hold := by decide +kernel

/-- The other cases of SERVICE IN. -/
theorem witness_ChannelService_in :
    burnerOf s0 0 = none ∧ (withMode .settle (assigned 0 .main s0)).floor.mode = .settle
    ∧ burnerOf (withMode .settle (assigned 0 .main s0)) 0 ≠ none
    ∧ (withChan 0 .calib s0).chans[(0 : Channel)].state = .calib := by decide +kernel
theorem test_service_in_fault : reply (.channelServiceIn 1) (withChan 0 .fault s0) = some (.refused, some .notOut) := by
  decide +kernel

theorem witness_ChannelReset :
    let s := withChan 0 .fault s0
    s.phase = .running ∧ s.chans[(0 : Channel)].state = .fault ∧ cellBad s 0 = false
    ∧ cellBad (withValue 0 .bad 0 s) 0 = true ∧ s.chans[(5 : Channel)].state ≠ .fault ∧ 6 < 7 := by decide +kernel

theorem witness_CalibrationStarts :
    (10 ≤ 10 ∧ 600 ≤ 600) ∧ (1 ≤ 1 ∧ 65535 ≤ 65535) ∧ s0.chans[(0 : Channel)].state = .out ∧ s0.floor.mode ≠ .settle
    ∧ cellBad s0 0 = false ∧ stopLoopClosed s0 = true
    ∧ (s0.onChan 0 fun x => { x with tareConfirmed := true }).chans[(0 : Channel)].tareConfirmed = true := by
  decide +kernel

/-- Each check: the ranges at their ends, and the states that each refusal turns away. -/
theorem witness_CalibrationStarts_refusals :
    6 < 7 ∧ 9 < 10 ∧ 600 < 601 ∧ 65535 < 65536 ∧ (withChan 0 .calib s0).chans[(0 : Channel)].state = .calib
    ∧ (withChan 0 .idle s0).chans[(0 : Channel)].state ≠ .out ∧ (withMode .settle s0).floor.mode = .settle
    ∧ cellBad (withValue 0 .bad 0 s0) 0 = true ∧ stopLoopClosed (withPin 3 false false none s0) = false
    ∧ s0.chans[(0 : Channel)].tareConfirmed = false := by decide +kernel

theorem witness_CalibrationEnds :
    let s := calibrating .zero none 2048 1 0
    s.phase = .running ∧ s.chans[(0 : Channel)].state = .calib ∧ s.chans[(1 : Channel)].state ≠ .calib
    ∧ s.chans[(0 : Channel)].stage = some ⟨.zero, none, 60, some 0, 3000, 2048, 1⟩ ∧ 0 < 1 ∧ 2048 / 1 ≤ 2048
    ∧ (calibrating .zero none 2049 1 0).chans[(0 : Channel)].stage = some ⟨.zero, none, 60, some 0, 3000, 2049, 1⟩
    ∧ 2048 < 2049 / 1 := by decide +kernel
/-- A mean one above the tare with the span at 65 535 or above it, a mean at the tare, and a stage without samples. -/
theorem witness_CalibrationEnds_span :
    let s := calibrating .span (some 15) 411 1 410
    s.phase = .running ∧ s.chans[(0 : Channel)].state = .calib
    ∧ s.chans[(0 : Channel)].stage = some ⟨.span, some 15, 60, some 0, 3000, 411, 1⟩
    ∧ s.live.chans[(0 : Channel)].tare = 410 ∧ 15 * 4096 / (411 - 410) ≤ 65535 ∧ 65535 < 16 * 4096 / (411 - 410)
    ∧ 410 / 1 ≤ 410
    ∧ (calibrating .span (some 15) 0 0 410).chans[(0 : Channel)].stage
        = some ⟨.span, some 15, 60, some 0, 3000, 0, 0⟩ := by decide +kernel

theorem witness_ChannelHold :
    let held := s0.onChan 0 fun x => { x with state := .hold, holdTimer := some 0 }
    let doses := withValue 0 .good 0 (withChan 0 .dosing s0)
    held.phase = .running ∧ held.chans[(0 : Channel)].state = .hold ∧ held.chans[(0 : Channel)].holdTimer.isSome = true
    ∧ (withValue 0 .bad 0 held).scan.analog[(0 : AnalogIn)].quality ≠ .unsettled
    ∧ doses.chans[(0 : Channel)].state = .dosing ∧ doses.scan.analog[(0 : AnalogIn)].force = none
    ∧ doses.scan.analog[(0 : AnalogIn)].quality ≠ .unsettled := by decide +kernel
/-- R60, R62: an arrival that is not BAD adds to the stage of a channel in CALIB, and a BAD one aborts it. -/
theorem witness_ChannelHold_calib :
    let s := calibrating .zero none 820 2 396
    let t := after (.analogSampleArrival 0 410) s
    s.chans[(0 : Channel)].state = .calib ∧ s.chans[(0 : Channel)].stage.isSome = true
    ∧ s.scan.analog[(0 : AnalogIn)].force = none ∧ s.floor.mode ≠ .settle
    ∧ t.chans[(0 : Channel)].stage.map (fun g => (g.sum, g.count)) = some (1230, 3)
    ∧ (after (.analogSampleArrival 0 0) s).chans[(0 : Channel)] = stageAborted .loadCellBad s.chans[(0 : Channel)]
    ∧ s0.chans[(0 : Channel)].state = .out := by decide +kernel

/-- MAIN FIRING and A21 at the permit of 850. -/
def calcinerReady : State := withValue 20 .good 850 (withBurner .main .firing s0)

theorem witness_BurnerLightPurges :
    s0.phase = .running ∧ s0.burns.main.state = .off ∧ s0.floor.mode ≠ .standby ∧ s0.floor.mode ≠ .settle
    ∧ stopLoopClosed s0 = true ∧ tripPointInhibited s0 .main = false ∧ tripCondPresent s0 .main = false
    ∧ s0.scan.analog[flameInput .main].quality ≠ .bad
    ∧ s0.scan.analog[flameInput .main].value < (s0.live.burners.main.flameOn : Int) := by decide +kernel
theorem witness_BurnerLightPurges_calciner :
    let s := calcinerReady
    s.burns.calciner.state = .off ∧ tripPointInhibited s .calciner = false ∧ tripCondPresent s .calciner = false
    ∧ s.burns.main.state = .firing ∧ s.scan.analog[(20 : AnalogIn)].quality = .good
    ∧ (s.live.burners.calciner.permit : Int) ≤ s.scan.analog[(20 : AnalogIn)].value
    ∧ s.scan.analog[flameInput .calciner].value < (s.live.burners.calciner.flameOn : Int) := by decide +kernel

theorem witness_BurnerLightRefusals :
    (withBurner .main .tripped s0).burns.main.state = .tripped ∧ (withMode .standby s0).burns.main.state = .off
    ∧ (withMode .standby s0).floor.mode = .standby ∧ (withMode .settle s0).floor.mode = .settle
    ∧ stopLoopClosed (withPin 3 false false none s0) = false ∧ stopLoopClosed s0 = true
    ∧ tripPointInhibited (withPoint 78 .disabled false s0) .main = true
    ∧ tripCondPresent (withPoint 78 .activeAck true s0) .main = true ∧ s0.burns.main.state ≠ .firing
    ∧ s0.scan.analog[(20 : AnalogIn)].quality = .unsettled ∧ (withValue 6 .bad 0 s0).scan.analog[(6 : AnalogIn)].quality = .bad
    ∧ (s0.live.burners.main.flameOn : Int) ≤ (withValue 6 .good 1600 s0).scan.analog[(6 : AnalogIn)].value
    ∧ (withBurner .main .purge s0).burns.main.state.isActive = true ∧ (0 ≠ 1 ∧ 0 ≠ 2) := by decide +kernel

theorem witness_LightingSequence :
    let s := burning .main .purge
    s.phase = .running ∧ s.burns.main.state = .purge ∧ s.burns.main.purgeTimer.isSome = true
    ∧ (burning .calciner .proven).burns.calciner.state = .proven
    ∧ (burning .calciner .proven).burns.calciner.stabTimer.isSome = true
    ∧ (burning .main .ignition).burns.main.state = .ignition
    ∧ (burning .main .ignition).burns.main.trialTimer.isSome = true := by decide +kernel
/-- The arrivals: an inlet temperature below the permit less 50, and a flame sample below the off threshold at the count's
end, or above it. -/
theorem witness_LightingSequence_arrivals :
    let cold := after (.analogSampleArrival 20 2034) (withBurner .calciner .firing s0)
    let s := (withBurner .main .firing s0).onBurn .main fun x => { x with failure := 19 }
    let lost := (after (.analogSampleArrival 6 400) s).scan.analog[(6 : AnalogIn)]
    let seen := (after (.analogSampleArrival 6 1820) s).scan.analog[(6 : AnalogIn)]
    cold.scan.analog[(20 : AnalogIn)].quality ≠ .bad
    ∧ cold.scan.analog[(20 : AnalogIn)].value < (s0.live.burners.calciner.permit : Int) - 50
    ∧ lost.value < (s.live.burners.main.flameOff : Int) ∧ s.live.burners.main.failSamples ≤ 20
    ∧ s.burns.main.state = .firing ∧ seen.quality ≠ .bad ∧ (s.live.burners.main.flameOff : Int) ≤ seen.value := by
  decide +kernel

theorem witness_HandedCauseTrips :
    handedCommand (.main, .alarmPoint 95) = some (.alarmPoint .main 95)
    ∧ handedCommand (.calciner, .emergencyStop) = some (.emergencyStopTrip .calciner)
    ∧ handedCommand (.calciner, .mainLost) = some .mainLost
    ∧ (withBurner .main .purge s0).burns.main.state.isActive = true
    ∧ (withBurner .calciner .firing s0).burns.calciner.state.isActive = true
    ∧ (withBurner .main .proven s0).burns.main.state = .proven
    ∧ feeds (assigned 0 .main s0) 0 .main = true ∧ feeds s0 0 .main = false := by decide +kernel

theorem witness_CauseAfterTrip :
    s0.phase = .running ∧ handedCommand (.main, .emergencyStop) = some (.emergencyStopTrip .main)
    ∧ s0.burns.main.state = .off ∧ (withBurner .main .ignition s0).burns.main.state.isActive = true
    ∧ (withBurner .main .tripped s0).burns.main.state = .tripped := by
  decide +kernel

theorem witness_BurnerStops :
    let s := withBurner .main .firing (withBurner .calciner .purge s0)
    s.phase = .running ∧ s.burns.main.state.isActive = true ∧ s.burns.calciner.state.isActive = true
    ∧ fires s .main = true ∧ feeds (assigned 0 .main s) 0 .main = true
    ∧ (withChan 0 .hold s).chans[(0 : Channel)].state = .hold ∧ s0.burns.main.state = .off := by decide +kernel

/-- A burner TRIPPED with this cause, its trip point acknowledged. -/
def tripped (cause : Cause) : State :=
  withPoint 62 .activeAck true (s0.onBurn .main fun x =>
    { x with state := .tripped, firstOut := some ⟨cause, .firing, none, 0⟩ })

theorem witness_ResetTripReleases :
    let s := tripped (.alarmPoint 95)
    s.phase = .running ∧ s.burns.main.state = .tripped
    ∧ s.burns.main.firstOut = some ⟨.alarmPoint 95, .firing, none, 0⟩ ∧ isUnacked s (tripPointOf .main) = false
    ∧ isUnacked s 95 = false ∧ s.alarm.points[(95 : Point)].cond = false
    ∧ isUnacked (withPoint 95 .clearedUnack false s) 95 = true
    ∧ (withPoint 95 .activeAck true s).alarm.points[(95 : Point)].cond = true
    ∧ stopLoopClosed (withPin 3 false false none (tripped .emergencyStop)) = false ∧ s0.burns.main.state ≠ .tripped := by
  decide +kernel

theorem witness_StrokePhasesEnd :
    let f := withPhaseOf 0 .running .forward s0
    let confirmed := f.onGrate 0 fun x => { x with confirmed := true }
    let missed := f.onGrate 0 fun x => { x with miss := 1 }
    let rest := withPhaseOf 2 .running .rest s0
    let guarded := rest.onGrate 2 fun x => { x with guard := some 0 }
    f.phase = .running ∧ f.cooler.grates[(0 : Grate)].phase = some .forward
    ∧ f.cooler.grates[(0 : Grate)].phaseTimer.isSome = true ∧ f.cooler.grates[(0 : Grate)].miss = 0
    ∧ confirmed.cooler.grates[(0 : Grate)].confirmed = true
    ∧ missed.cooler.grates[(0 : Grate)].confirmed = false ∧ missed.cooler.grates[(0 : Grate)].miss ≠ 0
    ∧ (withPhaseOf 2 .single .deadA s0).cooler.grates[(2 : Grate)].phase = some .deadA
    ∧ (withPhaseOf 2 .running .ret s0).cooler.grates[(2 : Grate)].phase = some .ret
    ∧ (withPhaseOf 2 .single .ret s0).cooler.grates[(2 : Grate)].state = .single
    ∧ rest.cooler.grates[(2 : Grate)].guard = none ∧ guarded.cooler.grates[(2 : Grate)].guard.isSome = true
    ∧ ¬(guarded.cooler.grates[(2 : Grate)].phase = some .rest
        ∧ guarded.cooler.grates[(2 : Grate)].phaseTimer = none) := by decide +kernel
/-- A run-out in RETURN, and a section that waits in REST for its guard. -/
theorem witness_StrokePhasesEnd_runOut :
    let out := (withPhaseOf 0 .stopped .ret s0).onGrate 0 fun x => { x with runOut := true }
    let waits := (withPhaseOf 2 .running .rest s0).onGrate 2 fun x => { x with guard := some 0, phaseTimer := none }
    out.cooler.grates[(0 : Grate)].phase = some .ret ∧ out.cooler.grates[(0 : Grate)].state = .stopped
    ∧ out.cooler.grates[(0 : Grate)].phaseTimer.isSome = true
    ∧ waits.cooler.grates[(2 : Grate)].phase = some .rest ∧ waits.cooler.grates[(2 : Grate)].phaseTimer = none
    ∧ waits.cooler.grates[(2 : Grate)].guard.isSome = true := by decide +kernel
/-- A confirmed stroke of G1 with its counter at 65 534 and at the carry. -/
theorem witness_StrokePhasesEnd_carry :
    let s := (withPhaseOf 0 .running .deadA s0).onGrate 0 fun x => { x with confirmed := true, strokesLow := 65534 }
    let c := s.onGrate 0 fun x => { x with strokesLow := 65535, strokesHigh := 4294967294 }
    s.cooler.grates[(0 : Grate)].phase = some .deadA ∧ s.cooler.grates[(0 : Grate)].phaseTimer.isSome = true
    ∧ s.cooler.grates[(0 : Grate)].confirmed = true ∧ s.cooler.grates[(0 : Grate)].strokesLow < 65535
    ∧ 65535 ≤ c.cooler.grates[(0 : Grate)].strokesLow ∧ c.cooler.grates[(0 : Grate)].strokesHigh < 4294967295 := by
  decide +kernel

/-- In AUTO, the end of REST of G1 with a window, and of a follower of a RUNNING G1. -/
theorem witness_StrokePhasesEnd_auto :
    let s := strokes 5400
    let f := (withPhaseOf 1 .running .rest s).onLive fun l =>
      { l with grates := upd l.grates 1 fun x => { x with mode := .auto, rateMin := 60, rateMax := 200, ratio := 1000 } }
    s.phase = .running ∧ s.cooler.grates[(0 : Grate)].phase = some .rest ∧ s.cooler.grates[(0 : Grate)].guard = none
    ∧ s.cooler.grates[(0 : Grate)].phaseTimer.isSome = true ∧ s.live.grates[(0 : Grate)].mode = .auto ∧ s.cooler.window ≠ []
    ∧ (strokeBegun s 0).rate = 128 ∧ f.cooler.grates[(1 : Grate)].phase = some .rest
    ∧ f.cooler.grates[(1 : Grate)].guard = none ∧ f.cooler.grates[(0 : Grate)].state = .running
    ∧ (strokeBegun f 1).rate = 120 := by decide +kernel

theorem witness_GrateStarts :
    let s := s0.onGrate 2 fun x => { x with guard := none }
    s.phase = .running ∧ s.cooler.grates[(2 : Grate)].state = .stopped ∧ s.cooler.grates[(2 : Grate)].runOut = false
    ∧ s.cooler.grates[(2 : Grate)].guard = none ∧ s.floor.mode ≠ .standby ∧ s.floor.mode ≠ .settle
    ∧ stopLoopClosed s = true ∧ crusherRuns s = true := by decide +kernel
/-- A run-out that a start takes over, a guard that it waits for, and each of the other states and refusals. -/
theorem witness_GrateStarts_forms :
    let out := (withPhaseOf 0 .stopped .ret s0).onGrate 0 fun x => { x with runOut := true }
    let waits := s0.onGrate 0 fun x => { x with guard := some 0 }
    out.cooler.grates[(0 : Grate)].runOut = true ∧ out.cooler.grates[(0 : Grate)].state = .stopped
    ∧ waits.cooler.grates[(0 : Grate)].runOut = false ∧ waits.cooler.grates[(0 : Grate)].guard.isSome = true
    ∧ (withPhaseOf 0 .running .rest s0).cooler.grates[(0 : Grate)].state = .running
    ∧ (withPhaseOf 0 .single .forward s0).cooler.grates[(0 : Grate)].state = .single
    ∧ (s0.onGrate 0 fun x => { x with state := .stalled }).cooler.grates[(0 : Grate)].state = .stalled
    ∧ (withMode .standby s0).floor.mode = .standby ∧ (withMode .settle s0).floor.mode = .settle
    ∧ stopLoopClosed (withPin 3 false false none s0) = false ∧ crusherRuns (withPin 4 false false none s0) = false
    ∧ 3 < 4 := by decide +kernel

theorem witness_GrateStopsAndResets :
    (withPhaseOf 0 .running .forward s0).cooler.grates[(0 : Grate)].phase = some .forward
    ∧ (withPhaseOf 0 .single .ret s0).cooler.grates[(0 : Grate)].state = .single
    ∧ (withPhaseOf 0 .running .rest s0).cooler.grates[(0 : Grate)].phase = some .rest
    ∧ s0.cooler.grates[(0 : Grate)].state = .stopped
    ∧ (s0.onGrate 0 fun x => { x with state := .stalled }).cooler.grates[(0 : Grate)].state = .stalled ∧ 3 < 4 := by
  decide +kernel

theorem witness_CoolerSetStages :
    let free := s0.onGrate 0 fun x => { x with guard := none }
    let waits := (withPhaseOf 0 .running .rest s0).onGrate 0 fun x => { x with guard := some 50, phaseTimer := none }
    s0.phase = .running ∧ free.cooler.grates[(0 : Grate)].guard = none
    ∧ (1 ≤ 1 ∧ 20 ≤ 20 ∧ 300 ≤ 300 ∧ 200 ≤ 200 ∧ 20000 ≤ 20000 ∧ 50 ≤ 50 ∧ 2000 ≤ 2000)
    ∧ waits.cooler.grates[(0 : Grate)].guard = some 50 ∧ 50 < 51 ∧ 50 ≤ 50
    ∧ waits.cooler.grates[(0 : Grate)].phase = some .rest ∧ waits.cooler.grates[(0 : Grate)].phaseTimer = none
    ∧ ¬((s0.onGrate 0 fun x => { x with guard := some 50 }).cooler.grates[(0 : Grate)].phase = some .rest) := by
  decide +kernel

theorem witness_FanSetMovesDamper : s0.phase = .running ∧ 1200 ≤ 1200 ∧ 1200 < 1201 ∧ 8 < 9 ∧ 1 < 2 := by decide +kernel

theorem witness_ExternalPoints :
    s0.phase = .running ∧ 83 ≤ (83 : Point).val ∧ (82 : Point).val < 83 ∧ s0.alarm.points[(83 : Point)].cond = false
    ∧ s0.alarm.points[(83 : Point)].state = .normal ∧ isPlaced s0 83 = false ∧ s0.alarm.list.length < 8
    ∧ (withPoint 83 .activeAck true s0).alarm.points[(83 : Point)].cond = true ∧ 96 < 97 := by decide +kernel
/-- R113, R114, R123: a place on a full list is kept, a new point joins the queue, a suppressed activation is counted alone. -/
theorem witness_ExternalPoints_states :
    let cleared := after (.alarmClear 90) fullList
    let again := after (.alarmRaise 90) cleared
    let queued := after (.alarmRaise 92) fullList
    let quiet := after (.alarmRaise 92) (withPoint 91 .shelved false fullList)
    cleared.alarm.points[(89 : Point)].state = .clearedUnack ∧ cleared.alarm.list = fullList.alarm.list
    ∧ again.alarm.points[(89 : Point)].state = .activeUnack ∧ again.alarm.list = fullList.alarm.list
    ∧ 8 ≤ fullList.alarm.list.length ∧ queued.alarm.queue = [91] ∧ queued.shift.totals.maxWaiting = 1
    ∧ queued.shift.totals.prio[2] = s0.shift.totals.prio[2] + 1
    ∧ quiet.shift.totals.suppressed = 1 ∧ quiet.alarm.queue = [] ∧ quiet.alarm.points[(91 : Point)].cond = true := by
  decide +kernel

theorem witness_AcknowledgeTop :
    s0.phase = .running ∧ s0.alarm.list = 82 :: [] ∧ isUnacked s0 82 = true
    ∧ (s0.onAlarm fun x => { x with list := [] }).alarm.list = [] := by decide +kernel

theorem witness_AcknowledgeAllAndSilence : s0.phase = .running := rfl

theorem witness_ShelveAndDisable :
    tripTarget s0 0 = .noTrip ∧ s0.alarm.points[(0 : Point)].state ≠ .disabled ∧ isPlaced s0 0 = false
    ∧ (withPoint 0 .shelved false s0).alarm.points[(0 : Point)].state = .shelved
    ∧ (withPoint 0 .shelved false s0).alarm.points[(0 : Point)].cond = false
    ∧ (withPoint 0 .disabled true s0).alarm.points[(0 : Point)].cond = true
    ∧ (withPoint 0 .disabled false s0).alarm.points[(0 : Point)].state = .disabled
    ∧ tripTarget s0 78 ≠ .noTrip ∧ (tripTarget s0 78).includes .main = true
    ∧ (withBurner .main .purge s0).burns.main.state ≠ .off := by decide +kernel
/-- R124: a listed point that is shelved makes way for the head of the queue, a waiting one leaves the queue alone. -/
theorem witness_ShelveAndDisable_placed :
    let s := reportCond (pt 48) true (reportCond (pt 47) true fullList)
    let listed := after (.alarmShelve 90 5) s
    let waiting := after (.alarmDisable 47) s
    s.alarm.queue = [46, 47] ∧ listed.alarm.list = [46, 90, 88, 87, 86, 85, 84, 83] ∧ listed.alarm.queue = [47]
    ∧ waiting.alarm.list = s.alarm.list ∧ waiting.alarm.queue = [47] := by decide +kernel

theorem witness_ShiftClock :
    let s := s0.onShift fun x => { x with seconds := 86397 }
    s.phase = .running ∧ s.shift.secondTimer.isSome = true ∧ s.shift.seconds < 86399 ∧ (s.shift.seconds + 1) % 60 ≠ 0
    ∧ (86399 ≤ 86399 ∧ 65535 ≤ 65535) ∧ 86399 < 86400 ∧ 65535 < 65536 ∧ s.live.shiftStart ≤ 1439
    ∧ s.live.shiftLength ∈ [240, 360, 480, 720] := by decide +kernel
/-- A boundary of a SET clock at midnight, in a whole minute, with a shelve in its last minute and one that goes on. -/
theorem witness_ShiftClock_boundary :
    let s := (withPoint 0 .shelved false s0).onPoint 0 fun x => { x with shelve := some 1 }
    let s := (withPoint 5 .shelved true s).onPoint 5 fun x => { x with shelve := some 2 }
    let s := (s.onLive fun l => { l with shiftStart := 0 }).onShift fun x => { x with seconds := 86399, isSet := true }
    s.shift.isSet = true ∧ 60 * ((s.live.shiftStart + (0 : Fin 6).val * s.live.shiftLength) % 1440) = 0
    ∧ s.alarm.points[(0 : Point)].shelve = some 1 ∧ s.alarm.points[(0 : Point)].state = .shelved
    ∧ s.alarm.points[(5 : Point)].shelve = some 2 := by decide +kernel

theorem witness_ShiftCloseRestarts :
    let s := s0.onShift fun x => { x with nextSeq := 4294967294, ring := [report37, report37, report37, report37] }
    s.phase = .running ∧ s.shift.nextSeq < 4294967295 ∧ s.shift.ring.length ≤ 4 := by decide +kernel

theorem witness_ReportTransfer :
    let x : Transfer := ⟨true, 37, .full, false, none, List.replicate 101 0#8⟩
    let s := (inRing s0).onShift fun y => { y with transfer := some x }
    s.phase = .running ∧ s.shift.ring = [] ++ [report37] ∧ s.shift.transfer = some x ∧ x.seq = report37.seq ∧ 1 ≤ 2
    ∧ 2 ≤ (x.record.length + 99) / 100 := by decide +kernel
/-- No transfer, one whose closed source has left the ring, one of RUNNING, and the ends of the parts and of the sources. -/
theorem witness_ReportTransfer_cases :
    let x : Transfer := ⟨true, 36, .full, false, none, List.replicate 100 0#8⟩
    let s := (inRing s0).onShift fun y => { y with transfer := some x }
    s0.shift.transfer = none ∧ s.shift.transfer = some x ∧ s.shift.ring.any (fun r => decide (r.seq = 36)) = false
    ∧ ({ x with closed := false } : Transfer).closed = false ∧ (x.record.length + 99) / 100 < 2
    ∧ s.shift.ring.length ≤ 1 ∧ s0.shift.ring.length ≤ 0 ∧ 2 < 3 ∧ 3 < 4 ∧ 4 ≠ 16 := by decide +kernel

/-- Positions 1 and 0 of a ring of two, a source with a report one older and one without, and RUNNING. -/
theorem witness_ReportTransfer_open :
    let s := s0.onShift fun x => { x with ring := [{ report37 with seq := 36 }, report37], nextSeq := 38 }
    s.shift.ring.reverse[0]? = some report37 ∧ s.shift.ring.reverse[1]? = some { report37 with seq := 36 }
    ∧ s.shift.ring.reverse[2]? = none ∧ s0.shift.ring.reverse[0]? = none ∧ 1 ≤ 3 ∧ 2 ≤ 2 ∧ 16 = 16 := by decide +kernel

theorem witness_FallbackDemands :
    let s := (withMode .fallback s0).onFloor fun x => { x with grace := some 0 }
    s0.phase = .running ∧ s0.floor.mode = .normal ∧ s0.floor.supervision.isSome = true ∧ s.floor.mode = .fallback
    ∧ s.floor.grace.isSome = true ∧ (withMode .standby s0).floor.mode = .standby ∧ (withMode .settle s0).floor.mode = .settle
    ∧ (withMode .standby s0).floor.supervision.isSome = true := by decide +kernel

theorem witness_EnterStandby :
    s0.phase = .running ∧ (withMode .standby s0).floor.mode = .standby ∧ s0.floor.mode ≠ .standby
    ∧ s0.burns.main.state = .off ∧ s0.burns.calciner.state = .off
    ∧ urgentUnacked s0 = false ∧ (withBurner .calciner .purge s0).burns.calciner.state ≠ .off
    ∧ urgentUnacked (withPoint 78 .clearedUnack false s0) = true
    ∧ (withChan 0 .idle s0).chans[(0 : Channel)].state = .idle := by decide +kernel

theorem witness_SettlePeriod :
    let s := (withMode .settle s0).onFloor fun x => { x with settle := some 0 }
    s0.floor.mode = .normal ∧ (withMode .standby s0).floor.mode = .standby ∧ s.floor.mode = .settle
    ∧ s.floor.settle.isSome = true ∧ s.floor.linkLost = false
    ∧ s.burns.main.state = .off ∧ s.burns.calciner.state = .off
    ∧ ∀ c : Channel, s.chans[c].state ≠ .dosing ∧ s.chans[c].state ≠ .hold := by decide +kernel
/-- R102, R156: with the link lost the settle expiry enters FALLBACK, and a fan that is on gets the damper of its target. -/
theorem witness_SettlePeriod_lost :
    let s := ((withMode .settle s0).onFloor fun x => { x with settle := some 0, linkLost := true }).onFan 3 fun x =>
      { x with on := true, target := 600, damper := 200 }
    let t := after .settleExpiry s
    s.floor.linkLost = true ∧ s.cooler.fans[(3 : Fan)].on = true ∧ t.floor.mode = .fallback
    ∧ t.floor.stage = some .frozen ∧ t.cooler.fans[(3 : Fan)].damper = 500 := by decide +kernel

theorem witness_FrameAssembles :
    (List.replicate 120 0#8).length ≤ 120 ∧ s0.phase ≠ .held ∧ s0.link.broken = false ∧ s0.link.hunting = s0.link
    ∧ s0.link.asm = .hunt ∧ (0x5B#8 : Byte) ≠ 0x5A#8 ∧ 120 < (121#8 : Byte).toNat
    ∧ (s0.onLink fun x => { x with asm := .length }).link.asm = .length := by
  decide +kernel
/-- R162: a frame that carries another CRC than its own counts a CRC error. -/
theorem witness_FrameAssembles_crc :
    (0#8 : Byte) ++ (0#8 : Byte) ≠ crc16 [0#8, 1#8, 2#8]
    ∧ [0x5A#8, 0#8, 1#8, 2#8, 0#8, 0#8].foldl (fun t b => after (.linkByteArrival b true) t) s0 =
      s0.onLink fun x => { x with counters := { x.counters with crc := 1 } } := by decide +kernel
/-- A frame in FALLBACK with the link lost (R150, R153), and one in the image load. -/
theorem witness_FrameAssembles_floor :
    let s := (withMode .fallback s0).onFloor fun x =>
      { x with stage := some .frozen, grace := some 5, linkLost := true, supervision := none }
    s.phase = .running ∧ s.floor.linkLost = true ∧ (validFrame s).floor.mode = .normal
    ∧ (validFrame s).floor.stage = none ∧ (validFrame s).floor.supervision = some 5000
    ∧ (withPhase .loading s0).phase = .loading := by decide +kernel

theorem witness_RequestsDecode :
    wellFormed (.heatSet 255 4294967295) = true
    ∧ requestFields (.heatSet 255 4294967295) = some (6, [255#8, 255#8, 255#8, 255#8, 255#8])
    ∧ requestFields (.restart 9#8) = some (127, []) ∧ wellFormed (.restart 9#8) = true := by decide +kernel

theorem witness_RequestMeetsTransmitter :
    s0.link.waiting = none ∧ s0.link.sending = none ∧ (statusRead s0).1.link.sending = none
    ∧ (statusRead s0).1.link.waiting = none
    ∧ (s0.onLink fun x => { x with waiting := some (waitingReply 8#8) }).link.waiting.isSome = true := by decide +kernel

/-- A request that meets a reply in transmission, and one in the image load. -/
theorem witness_RequestMeetsTransmitter_held :
    let s := s0.onLink fun x => { x with sending := some (waitingReply 7#8) }
    s.phase = .running ∧ s.link.waiting = none ∧ (answered (statusRead s)).link.sending.isSome = true
    ∧ (withPhase .loading s).phase = .loading ∧ (withPhase .loading s).link.waiting = none := by decide +kernel

theorem witness_LineEvents :
    let s := s0.onLink fun x => { x with sending := some (waitingReply 7#8), gapTimer := some 0 }
    s.phase ≠ .held ∧ s.phase = .running ∧ s.link.sending = some (waitingReply 7#8)
    ∧ isRestartReply (waitingReply 7#8) = false ∧ s.link.gapTimer.isSome = true ∧ s.link.broken = false
    ∧ s.link.sending.any isRestartReply = false ∧ s.link.waiting.any isRestartReply = false := by decide +kernel

/-- The reply of a RESTART. -/
def restartReply : Reply := ⟨5#8, 0xFF#8, ⟨.done, none, summaryOf s0, []⟩⟩
/-- It in transmission, and pending. -/
theorem witness_LineEvents_restart :
    let s := s0.onLink fun x => { x with sending := some restartReply }
    let w := s0.onLink fun x => { x with sending := some (waitingReply 7#8), waiting := some restartReply }
    s.phase ≠ .held ∧ s.link.sending = some restartReply ∧ isRestartReply restartReply = true ∧ s.link.broken = false
    ∧ w.phase ≠ .held ∧ w.link.broken = false ∧ w.link.waiting.any isRestartReply = true := by decide +kernel
/-- R170, R174: a break that discards it pending is the full reset of a RESTART. -/
theorem test_break_of_restart_reply :
    let t := after .linkBreak (s0.onLink fun x => { x with sending := some (waitingReply 7#8), waiting := some restartReply })
    t.phase = .loading ∧ t.store.cause = .restart ∧ t.link.broken = true ∧ t.link.counters = {} := by decide +kernel

theorem witness_ResetIsSafe :
    (Instr.powerOn = .powerOn ∧ ResetCause.powerOn = .powerOn) ∧ (withPhase .held s0).phase = .held := by decide +kernel

theorem witness_LoadStartsBlocks :
    let s := withPhase .loading s0
    let t := withPin 3 false true none (withPin 4 false true none s)
    s.phase = .loading ∧ s.scan.discrete[(3 : DiscreteIn)].pin = true ∧ s.scan.discrete[(4 : DiscreteIn)].pin = true
    ∧ t.phase = .loading ∧ t.scan.discrete[(3 : DiscreteIn)].pin = false
    ∧ t.scan.discrete[(4 : DiscreteIn)].pin = false := by decide +kernel
/-- R20, R108: a load with D4 open and D5 low. -/
theorem test_load_with_open_pins :
    let t := after .loadCompletion (withPin 3 false true none (withPin 4 false true none (withPhase .loading s0)))
    t.alarm.points[78].cond = true ∧ t.alarm.points[79].cond = true ∧ t.alarm.points[69].cond = true
    ∧ t.planner.hCap = 0 ∧ t.cooler.overload = true := by decide +kernel

theorem witness_SaveAndCompletion :
    let s := s0.onStore fun x => { x with job := some x.live }
    s0.phase = .running ∧ s0.store.job = none ∧ s.store.job = some s0.store.live := by decide +kernel

/-- R175: an area with the format number and its own CRC-32, one that is erased, and one that is neither. -/
theorem witness_ImageCrcAgrees :
    (∃ image : List Byte, crcAgrees (areaOf image) = true ∧ (areaOf image).take 4 = [0#8, 0#8, 0#8, 1#8])
    ∧ (∀ b ∈ areaOf [], b = 255#8) ∧ (∃ b ∈ areaOf [7#8], b ≠ 255#8) ∧ (areaOf [7#8]).take 4 ≠ [0#8, 0#8, 0#8, 1#8] := by
  have whole (body : List Byte) (len : body.length = 2640) :
      areaOf (body ++ be 4 (crc32 body).toNat) = body ++ be 4 (crc32 body).toNat := by
    have all : (body ++ be 4 (crc32 body).toNat).length = 2644 := by rw [List.length_append, len, be_length]
    rw [areaOf, imageLength, all, List.take_of_length_le all.le, Nat.sub_self, List.replicate_zero, List.append_nil]
  have agrees (body : List Byte) (len : body.length = 2640) : crcAgrees (areaOf (body ++ be 4 (crc32 body).toNat)) = true := by
    have four : (be 4 (crc32 body).toNat).take 4 = be 4 (crc32 body).toNat := List.take_of_length_le (by rw [be_length])
    rw [whole body len, crcAgrees, imageLength, List.take_left' len, List.drop_left' len, four,
      ofBe_be 4 _ (crc32 body).isLt, decide_eq_true rfl]
  have len : ([0#8, 0#8, 0#8, 1#8] ++ List.replicate 2636 (0#8 : Byte)).length = 2640 := by
    rw [List.length_append, List.length_replicate]; rfl
  refine ⟨⟨_, agrees _ len, ?_⟩, fun b hb => ?_, ⟨7#8, by decide +kernel, by decide⟩, by decide +kernel⟩
  · rw [whole _ len, List.append_assoc]
    exact List.take_left' rfl
  · rw [areaOf, List.take_nil, List.nil_append] at hb
    exact List.eq_of_mem_replicate hb
/-- Every default is in its range, with its pair kept (R4, R9, R22, R40, R67, R87, R99, R109, R118, R135, R149). -/
theorem witness_ImageCrcAgrees_default (r : Ref) :
    inRange r (defaultSettings.get r) = true ∧ pairKept defaultSettings.get r = true := by
  cases r with
  | input i k => revert i; cases k <;> decide +kernel
  | heat b k => cases b <;> cases k <;> decide +kernel
  | chan c k => revert c; cases k <;> decide +kernel
  | burner b k => cases b <;> cases k <;> decide +kernel
  | grate g k => revert g; cases k <;> decide +kernel
  | cooler k => cases k <;> decide +kernel
  | fan f k =>
    cases k with
    | table j => revert f j; decide +kernel
    | gain => revert f; decide +kernel
    | failLevel => revert f; decide +kernel
    | failTime => revert f; decide +kernel
    | standby => revert f; decide +kernel
  | point p k => revert p; cases k <;> decide +kernel
  | fallbackHeat b => cases b <;> decide +kernel
  | _ => decide +kernel

theorem witness_SettingsReadAndWrite :
    inRange (.chan 5 .span) 65535 = true ∧ refOf 0x0101 1 = some (.input 0 .scaleLow) ∧ 1 < 255
    ∧ refOf 0x0308 6 = some (.chan 5 .span) ∧ refOf 0x0308 7 = none ∧ indexKind 0x0308 = some (.instances 6)
    ∧ indexKind 0x0601 = some .single
    ∧ writeRefusal s0 (.chan 5 .span) 65535 = none ∧ writeRefusal s0 (.chan 5 .span) 65536 = some (plain .range)
    ∧ storedValue (.chan 0 .tolerance) 0 = 1 ∧ storedValue (.chan 0 .tolerance) 1 = 1
    ∧ storedValue (.heat .main .rampRate) 10001 = 10000 ∧ storedValue .shelveDefault 481 = 480 := by decide +kernel
/-- The writes with a further effect: each is accepted, the restaging with no guard, with a young one, with one that has
run out, and with one that a FORWARD waits for. -/
theorem witness_SettingsReadAndWrite_effects :
    let free := s0.onGrate 2 fun x => { x with guard := none }
    let guarded (n : Nat) : State := s0.onGrate 2 fun x => { x with guard := some n }
    let waits := (withPhaseOf 2 .running .rest s0).onGrate 2 fun x => { x with guard := some 300, phaseTimer := none }
    refOf 0x0201 1 = some (.heat .main .maxHeat) ∧ writeRefusal s0 (.heat .main .maxHeat) 0 = none
    ∧ refOf 0x0309 1 = some (.chan 0 .ppm) ∧ writeRefusal s0 (.chan 0 .ppm) 500 = none
    ∧ refOf 0x030B 1 = some (.chan 0 .trimLimit) ∧ writeRefusal s0 (.chan 0 .trimLimit) 0 = none
    ∧ refOf 0x0307 1 = some (.chan 0 .tare) ∧ writeRefusal s0 (.chan 0 .tare) 410 = none
    ∧ refOf 0x0505 3 = some (.grate 2 .dead)
    ∧ ([free, guarded 299, guarded 300, waits].all fun s => decide (writeRefusal s (.grate 2 .dead) 300 = none)) = true
    ∧ (s0.onLive fun l => l.put (.grate 2 .dead) 300).live.grates[(2 : Grate)].dead = 300
    ∧ waits.cooler.grates[(2 : Grate)].phase = some .rest ∧ waits.cooler.grates[(2 : Grate)].phaseTimer = none := by
  decide +kernel
/-- R4, R42, R67, R87, R111, R135: values at the ends of a range and past them, broken pairs, and the states that refuse. -/
theorem witness_SettingsReadAndWrite_refusals :
    let shelved := withPoint 0 .shelved false s0
    let off := withPoint 0 .disabled false (withBurner .main .purge s0)
    writeRefusal s0 (.chan 0 .minRate) 1 = some (plain .range) ∧ writeRefusal s0 (.input 8 .scaleLow) 10000 = some (plain .range)
    ∧ writeRefusal s0 (.input 7 .scaleLow) 0 = some (plain .range) ∧ writeRefusal s0 (.grate 0 .ratio) 1000 = some (plain .range)
    ∧ writeRefusal s0 .shiftLength 241 = some (plain .range) ∧ writeRefusal s0 .shiftLength 720 = none
    ∧ writeRefusal (withChan 0 .idle s0) (.chan 0 .assign) 1 = some (refusedFor .notOut)
    ∧ writeRefusal (withBurner .main .purge s0) (.burner .main .flameOn) 1600 = some (refusedFor .burnerActive)
    ∧ writeRefusal s0 (.burner .main .flameOn) 1199 = some (plain .range)
    ∧ writeRefusal shelved (.point 0 .target) 1 = some (refusedFor .tripPoint) ∧ writeRefusal shelved (.point 0 .target) 0 = none
    ∧ writeRefusal off (.point 0 .target) 3 = some (refusedFor .burnerActive) ∧ writeRefusal off (.point 0 .target) 2 = none
    ∧ writeRefusal s0 (.point 44 .target) 0 = some (plain .range) := by decide +kernel
/-- R25, R172: a lowered maximum heat lowers H_req; ALL with one instance refused. -/
theorem test_settings_write_max_heat :
    let s := s0.onDemand .main fun d => { d with hReq := 60000 }
    (after (.settingsWrite 0x0201 1 50000) s).planner.demand.main.hReq = 50000 := by decide +kernel
theorem test_settings_write_all :
    let t := after (.settingsWrite 0x0301 255 1) (withChan 2 .idle s0)
    t.live.chans[(1 : Channel)].assign = .main ∧ t.live.chans[(2 : Channel)].assign = .unassigned
    ∧ t.answer.map Answered.status = some .done := by decide +kernel

theorem witness_Reads :
    s0.phase = .running ∧ (1 ≤ 1 ∧ 88 ≤ 88) ∧ 6 < 7 ∧ 1 < 2 ∧ 2 < 3 ∧ 3 < 4 ∧ 8 < 9 ∧ 22 < 23 ∧ 5 < 6 ∧ 96 < 97 ∧ 88 < 89 := by
  decide +kernel

/-! For the statements that every step keeps a law: a state with the law, and not an empty one. -/

theorem witness_StepKeepsAlarmInv : AlarmInv fullList := by
  refine ⟨by decide +kernel, by decide +kernel, by decide +kernel, by decide +kernel⟩
theorem witness_StepKeepsDriveInv : DriveInv dosing := by unfold DriveInv; decide +kernel
theorem witness_StepKeepsConditionInv : ConditionInv (withPoint (holdPoint 0) .activeUnack true (withChan 0 .hold s0)) := by
  unfold ConditionInv; decide +kernel
theorem witness_StepKeepsFollowInv : FollowInv dosing := by unfold FollowInv; decide +kernel
theorem witness_StepKeepsInhibitInv : InhibitInv (withBurner .main .purge s0) := by
  intro b h
  cases b
  · decide +kernel
  · exact absurd rfl h
theorem witness_StepKeepsStandbyInv : StandbyInv (withMode .standby s0) := ⟨fun _ b => by cases b <;> rfl, by decide +kernel⟩
theorem witness_StepKeepsRingInv : RingInv (inRing s0) := by unfold RingInv; decide +kernel
theorem witness_StepKeepsStrokeInv : StrokeInv (withPhaseOf 0 .running .forward s0) := by unfold StrokeInv; decide +kernel
/-- And a step that answers a next state. -/
theorem witness_StepKeepsStep : step s0 = .next (tick s0) := by
  have h : ready s0 = [] := by decide +kernel
  show idle s0 = _
  simp [idle, h]

end Sys2Proof.Tests
end

section
/-! PROOFS. Chapter 4, burners and flame supervision: what BURNER STOP (R75) and BURNER RESET TRIP (R82) do. -/

namespace Sys2Proof.Machine

/-! ## Updates -/

/-- An update that leaves its entry as it is leaves the vector as it is. -/
theorem upd_eq_self {α : Type} {n : Nat} (v : Vector α n) (i : Fin n) (f : α → α) (h : f v[i.val] = v[i.val]) :
    upd v i f = v := by simp [upd, h]

theorem upd_congr {α : Type} {n : Nat} (v : Vector α n) (i : Fin n) {f g : α → α} (h : f v[i.val] = g v[i.val]) :
    upd v i f = upd v i g := by simp [upd, h]

theorem State.onPoint_eq_self (p : Point) (f : PointRec → PointRec) (s : State)
    (h : f s.alarm.points[p.val] = s.alarm.points[p.val]) : s.onPoint p f = s := by
  simp [State.onPoint, State.onAlarm, upd_eq_self _ _ _ h]

theorem State.onPoint_congr (p : Point) {f g : PointRec → PointRec} (s : State)
    (h : f s.alarm.points[p.val] = g s.alarm.points[p.val]) : s.onPoint p f = s.onPoint p g := by
  simp [State.onPoint, State.onAlarm, upd_congr _ _ h]

theorem State.onPoint_onPoint (p : Point) (f g : PointRec → PointRec) (s : State) :
    (s.onPoint p f).onPoint p g = s.onPoint p (g ∘ f) := by
  simp [State.onPoint, State.onAlarm, upd]

/-- What every round of a loop keeps, the loop keeps. -/
theorem forEach_keeps {α β : Type} {f : α → State → State} {g : State → β} (h : ∀ a t, g (f a t) = g t) (l : List α)
    (s : State) : g (forEach l f s) = g s := by
  induction l generalizing s with
  | nil => rfl
  | cons a l ih => exact (ih (f a s)).trans (h a s)

/-! ## A condition reported absent -/

/-- R113: the state of a point when its condition changes to absent. -/
def PointState.cleared : PointState → PointState
  | .activeUnack => .clearedUnack
  | .activeAck => .normal
  | .normal => .normal
  | .clearedUnack => .clearedUnack
  | .shelved => .shelved
  | .disabled => .disabled

/-- R112, R113: the record of a point whose condition is reported absent. -/
def PointRec.absent (x : PointRec) : PointRec :=
  if x.cond then { x with cond := false, state := x.state.cleared } else x

@[simp] theorem PointRec.absent_cond (x : PointRec) : x.absent.cond = false := by
  by_cases h : x.cond = true <;> simp [PointRec.absent, h]

/-- A condition that changes to absent moves its point alone. -/
theorem conditionChanged_absent (p : Point) (s : State) :
    conditionChanged p false s = s.onPoint p fun x => { x with state := x.state.cleared } := by
  unfold conditionChanged
  have stays (h : s.alarm.points[p.val].state.cleared = s.alarm.points[p.val].state) :
      s = s.onPoint p fun x => { x with state := x.state.cleared } := (s.onPoint_eq_self p _ (by simp [h])).symm
  rw [Fin.getElem_fin]
  cases h : s.alarm.points[p.val].state with
  | activeUnack => exact s.onPoint_congr p (by simp [h, PointState.cleared])
  | activeAck => exact s.onPoint_congr p (by simp [h, PointState.cleared])
  | normal => exact stays (by simp [h, PointState.cleared])
  | clearedUnack => exact stays (by simp [h, PointState.cleared])
  | shelved => exact stays (by simp [h, PointState.cleared])
  | disabled => exact stays (by simp [h, PointState.cleared])

/-- A report of an absent condition changes the record of its point and nothing else: no placement, no total, no trip. -/
theorem reportCond_absent (p : Point) (s : State) : reportCond p false s = s.onPoint p PointRec.absent := by
  unfold reportCond
  by_cases h : s.alarm.points[p.val].cond = false
  · simp [h, State.onPoint_eq_self, PointRec.absent]
  · simp only [Fin.getElem_fin, h, conditionChanged_absent, State.onPoint_onPoint, Bool.false_eq_true, ↓reduceIte]
    exact s.onPoint_congr p (by simp [PointRec.absent, h])

/-! ## What a stop leaves of the alarms and the totals -/

/-- Between two states the totals stand and no condition has become present. -/
def OnlyClears (s t : State) : Prop :=
  t.shift = s.shift ∧ ∀ p : Point, t.alarm.points[p].cond = true → s.alarm.points[p].cond = true

theorem OnlyClears.trans {s t u : State} (h : OnlyClears s t) (k : OnlyClears t u) : OnlyClears s u :=
  ⟨k.1.trans h.1, fun p hp => h.2 p (k.2 p hp)⟩

theorem OnlyClears.ite {s t u : State} {c : Prop} [Decidable c] (h : OnlyClears s t) (k : OnlyClears s u) :
    OnlyClears s (if c then t else u) := by split <;> assumption

/-- An operation that touches neither the alarms nor the totals. -/
theorem Touches.onlyClears {l : List Part} {s t : State} (h : Touches l s t) (ha : Part.alarm ∉ l := by decide)
    (hs : Part.shift ∉ l := by decide) : OnlyClears s t := by
  have alarm : t.alarm = s.alarm := h .alarm ha
  exact ⟨h .shift hs, fun p hp => alarm ▸ hp⟩

theorem OnlyClears.refl (s : State) : OnlyClears s s := (Touches.refl [] s).onlyClears

theorem OnlyClears.each {α : Type} {f : α → State → State} (h : ∀ a t, OnlyClears t (f a t)) (l : List α) (s : State) :
    OnlyClears s (forEach l f s) := by
  induction l generalizing s with
  | nil => exact .refl s
  | cons a l ih => exact (h a s).trans (ih (f a s))

theorem reportCond_absent_onlyClears (p : Point) (s : State) : OnlyClears s (reportCond p false s) := by
  rw [reportCond_absent]
  refine ⟨rfl, fun q hq => ?_⟩
  by_cases e : p = q
  · subst e; simp at hq
  · simpa [upd_other _ _ e] using hq

/-! ## The channels of a burner that leaves FIRING -/

/-- R46: the record of a channel that goes to IDLE. -/
def Chan.idled (x : Chan) : Chan :=
  { x.countsCleared with
    state := .idle, u := 0, r := 0, trim := 0, locked := false, holdTimer := none, devCond := false }

/-- R46: the record of a channel whose burner has left FIRING. -/
def Chan.toIdle (x : Chan) : Chan := if x.state = .dosing ∨ x.state = .hold then x.idled else x

theorem Chan.toIdle_of_feeding {x : Chan} (h : x.state = .dosing ∨ x.state = .hold) :
    x.toIdle.state = .idle ∧ x.toIdle.u = 0 := by simp [Chan.toIdle, Chan.idled, h]

/-- A channel that has left DOSING and HOLD does not leave them again. -/
@[simp] theorem Chan.toIdle_toIdle (x : Chan) : x.toIdle.toIdle = x.toIdle := by
  by_cases h : x.state = .dosing ∨ x.state = .hold
  · simp [Chan.toIdle, Chan.idled, h]
  · simp [Chan.toIdle, h]

theorem leaveToIdle_chans (c : Channel) (s : State) : (leaveToIdle c s).chans = upd s.chans c Chan.toIdle := by
  by_cases h : s.chans[c.val].state = .dosing ∨ s.chans[c.val].state = .hold
  · have written : (s.onChan c Chan.idled).chans = upd s.chans c Chan.toIdle := upd_congr _ _ (by simp [Chan.toIdle, h])
    rw [← written]
    simp only [leaveToIdle, Fin.getElem_fin, h, ↓reduceIte, reportCond_absent]
    split <;> split <;> rfl
  · simp [leaveToIdle, h, upd_eq_self, Chan.toIdle]

theorem leaveToIdle_onlyClears (c : Channel) (s : State) : OnlyClears s (leaveToIdle c s) := by
  unfold leaveToIdle
  refine .ite ?_ (.refl s)
  have idle (f : Chan → Chan) : OnlyClears s (s.onChan c f) := (onChan_touches c f s).onlyClears
  have held (t : State) (h : OnlyClears s t) :
      OnlyClears s (if s.chans[c].state = .hold then reportCond (holdPoint c) false t else t) :=
    .ite (h.trans (reportCond_absent_onlyClears _ t)) h
  exact .ite ((held _ (idle _)).trans (reportCond_absent_onlyClears _ _)) (held _ (idle _))

/-- Which channel feeds which burner is a setting. -/
theorem Touches.feeds {l : List Part} {s t : State} (h : Touches l s t) (c : Channel) (b : Burner)
    (hl : Part.store ∉ l := by decide) : feeds t c b = feeds s c b := by
  have live : t.live = s.live := congrArg Store.live (h .store hl)
  cases b <;> simp only [Machine.feeds, live]

/-- One channel's part of the stop of its burner. -/
theorem leaveToIdle_of_feeds_chans (b : Burner) (c d : Channel) (s : State) :
    (if feeds s c b then leaveToIdle c s else s).chans[d]
      = if c = d ∧ feeds s d b = true then s.chans[d].toIdle else s.chans[d] := by
  by_cases f : feeds s c b = true
  · by_cases e : c = d
    · subst e; simp [f, leaveToIdle_chans]
    · simp [f, e, leaveToIdle_chans, upd_other]
  · by_cases e : c = d
    · subst e; simp [f]
    · simp [f, e]

theorem channelsFollowStop_chans (b : Burner) (s : State) (c : Channel) :
    (channelsFollowStop b s).chans[c] = if feeds s c b then s.chans[c].toIdle else s.chans[c] := by
  have rounds (l : List Channel) (s : State) :
      (forEach l (fun c t => if feeds t c b then leaveToIdle c t else t) s).chans[c]
        = if c ∈ l ∧ feeds s c b = true then s.chans[c].toIdle else s.chans[c] := by
    induction l generalizing s with
    | nil => simp [forEach]
    | cons a l ih =>
      have setting : feeds (if feeds s a b then leaveToIdle a s else s) c b = feeds s c b :=
        Touches.feeds (.ite (leaveToIdle_touches a s) (.refl _ s)) c b
      refine (ih _).trans ?_
      rw [setting, leaveToIdle_of_feeds_chans]
      by_cases e : a = c
      · subst e
        by_cases f : feeds s a b = true <;> simp [f]
      · simp [e, Ne.symm e]
  simpa [channelsFollowStop] using rounds (List.finRange 6) s

theorem channelsFollowStop_onlyClears (b : Burner) (s : State) : OnlyClears s (channelsFollowStop b s) :=
  .each (fun c t => .ite (leaveToIdle_onlyClears c t) (.refl t)) _ s

/-! ## The demand of a burner that leaves FIRING -/

/-- R26: the demand of a burner that has left FIRING. -/
def Demand.unplanned (d : Demand) : Demand := { d with hApp := 0, shortfall := 0, surplus := 0 }

theorem emptyPlan_demand (b : Burner) (s : State) :
    (emptyPlan b s).planner.demand = s.planner.demand.upd b fun d => { d with shortfall := 0, surplus := 0 } :=
  congrArg (fun x : PerBurner Demand => x.upd b fun d => { d with shortfall := 0, surplus := 0 })
    (forEach_keeps (f := fun c t => t.onEntry c fun _ => emptyEntry) (g := fun t => t.planner.demand) (fun _ _ => rfl) _ s)

theorem followLeaving_demand (b : Burner) (s : State) :
    (followLeaving b s).planner.demand = s.planner.demand.upd b Demand.unplanned := by
  have planner : (followLeaving b s).planner = (plannerLeavesFiring b s).planner :=
    channelsFollowStop_touches b _ .planner (by decide)
  rw [planner, plannerLeavesFiring, emptyPlan_demand]
  cases b <;> rfl

theorem followLeaving_chans (b : Burner) (s : State) (c : Channel) :
    (followLeaving b s).chans[c] = if feeds s c b then s.chans[c].toIdle else s.chans[c] := by
  have planned := plannerLeavesFiring_touches b s
  have chans : (plannerLeavesFiring b s).chans = s.chans := planned .chans (by decide)
  rw [followLeaving, channelsFollowStop_chans, planned.feeds, chans]

theorem followLeaving_onlyClears (b : Burner) (s : State) : OnlyClears s (followLeaving b s) :=
  (plannerLeavesFiring_touches b s).onlyClears.trans (channelsFollowStop_onlyClears b _)

/-! ## The stop of one burner -/

/-- R75: the record of a burner after its stop. -/
def Burn.stopped (x : Burn) : Burn := if x.state.isActive then x.shut .off else x

theorem fires_isActive {s : State} {b : Burner} (h : fires s b = true) : (s.burns.get b).state.isActive = true := by
  simp only [fires, decide_eq_true_eq] at h
  rw [h]; rfl

/-- A stop: the burner's record, and for one that fires its plan and its channels. -/
theorem stopBurner_eq (b : Burner) (s : State) :
    stopBurner b s
      = if fires s b then followLeaving b (s.onBurn b Burn.stopped) else s.onBurn b Burn.stopped := by
  by_cases h : (s.burns.get b).state.isActive = true
  · have shut : s.onBurn b (fun x => x.shut .off) = s.onBurn b Burn.stopped := by
      cases b <;> simp_all [State.onBurn, PerBurner.upd, PerBurner.get, Burn.stopped]
    simp [stopBurner, h, shut]
  · have idle : s.onBurn b Burn.stopped = s := by
      cases b <;> simp_all [State.onBurn, PerBurner.upd, PerBurner.get, Burn.stopped]
    have cold : fires s b ≠ true := fun f => h (fires_isActive f)
    simp [stopBurner, h, cold, idle]

theorem stopBurner_burns (b : Burner) (s : State) : (stopBurner b s).burns = s.burns.upd b Burn.stopped := by
  rw [stopBurner_eq]
  split
  · exact followLeaving_touches b _ .burns (by decide)
  · rfl

theorem stopBurner_demand (b : Burner) (s : State) :
    (stopBurner b s).planner.demand
      = if fires s b then s.planner.demand.upd b Demand.unplanned else s.planner.demand := by
  rw [stopBurner_eq]
  split
  · exact followLeaving_demand b _
  · rfl

theorem stopBurner_chans (b : Burner) (s : State) (c : Channel) :
    (stopBurner b s).chans[c] = if fires s b && feeds s c b then s.chans[c].toIdle else s.chans[c] := by
  rw [stopBurner_eq]
  by_cases f : fires s b = true
  · simp only [f, ↓reduceIte, followLeaving_chans, (onBurn_touches b _ s).feeds, State.onBurn_chans, Bool.true_and]
  · simp [f]

theorem stopBurner_onlyClears (b : Burner) (s : State) : OnlyClears s (stopBurner b s) := by
  have shut : OnlyClears s (s.onBurn b Burn.stopped) := (onBurn_touches b _ s).onlyClears
  rw [stopBurner_eq]
  exact .ite (shut.trans (followLeaving_onlyClears b _)) shut

/-! ## The stop of several burners -/

/-- R75: what holds between `s` and `t` when the burners of `l` have been stopped. -/
structure Stopped (l : List Burner) (s t : State) : Prop where
  burns : ∀ d : Burner, t.burns.get d = if d ∈ l then (s.burns.get d).stopped else s.burns.get d
  demand : ∀ d : Burner, t.planner.demand.get d
    = if d ∈ l ∧ fires s d = true then (s.planner.demand.get d).unplanned else s.planner.demand.get d
  chans : ∀ c : Channel, t.chans[c]
    = if l.any (fun d => fires s d && feeds s c d) then s.chans[c].toIdle else s.chans[c]
  clears : OnlyClears s t
  touches : Touches [.burns, .planner, .chans, .alarm, .shift, .handed] s t

theorem Stopped.nil (s : State) : Stopped [] s s :=
  ⟨fun _ => by simp, fun _ => by simp, fun _ => by simp, .refl s, .refl _ s⟩

/-- One more burner is stopped. -/
theorem Stopped.cons {l : List Burner} {s t : State} (h : Stopped l s t) {b : Burner} (hb : b ∉ l) :
    Stopped (b :: l) s (stopBurner b t) where
  burns d := by
    rw [stopBurner_burns]
    by_cases e : b = d
    · subst e; simp [h.burns, hb]
    · rw [PerBurner.get_upd_other _ _ e, h.burns]; simp [Ne.symm e]
  demand d := by
    have same : fires t b = fires s b := by simp [fires, h.burns, hb]
    rw [stopBurner_demand, same]
    by_cases e : b = d
    · subst e
      by_cases f : fires s b = true <;> simp [f, h.demand, hb]
    · have other : (if fires s b then t.planner.demand.upd b Demand.unplanned else t.planner.demand).get d
          = t.planner.demand.get d := by split <;> simp [PerBurner.get_upd_other _ _ e]
      rw [other, h.demand]; simp [Ne.symm e]
  chans c := by
    have same : fires t b = fires s b := by simp [fires, h.burns, hb]
    rw [stopBurner_chans, same, h.touches.feeds, h.chans, List.any_cons]
    by_cases f : (fires s b && feeds s c b) = true
    · simp only [f, ↓reduceIte, Bool.true_or]
      split <;> simp
    · simp [f]
  clears := h.clears.trans (stopBurner_onlyClears b t)
  touches := h.touches.trans (stopBurner_touches b t)

theorem Stopped.shut_of_active {l : List Burner} {s t : State} (h : Stopped l s t) {d : Burner} (hd : d ∈ l)
    (active : (s.burns.get d).state.isActive = true) : t.burns.get d = (s.burns.get d).shut .off := by
  rw [h.burns, if_pos hd, Burn.stopped, if_pos active]

theorem Stopped.unchanged_of_inactive {l : List Burner} {s t : State} (h : Stopped l s t) {d : Burner}
    (hd : d ∈ l → (s.burns.get d).state.isActive = false) : t.burns.get d = s.burns.get d := by
  rw [h.burns]
  split
  next m => simp [Burn.stopped, hd m]
  next => rfl

theorem Stopped.hReq {l : List Burner} {s t : State} (h : Stopped l s t) (d : Burner) :
    (t.planner.demand.get d).hReq = (s.planner.demand.get d).hReq := by
  rw [h.demand]
  split <;> rfl

/-- A stopped burner that fired has no heat applied, and its channels that dosed or held are in IDLE. -/
theorem Stopped.leavesFiring {l : List Burner} {s t : State} (h : Stopped l s t) {d : Burner} (hd : d ∈ l)
    (fired : fires s d = true) :
    (t.planner.demand.get d).hApp = 0
    ∧ ∀ c : Channel, feeds s c d = true → s.chans[c].state = .dosing ∨ s.chans[c].state = .hold →
        t.chans[c].state = .idle ∧ t.chans[c].u = 0 := by
  refine ⟨by rw [h.demand, if_pos ⟨hd, fired⟩]; rfl, fun c fed feeding => ?_⟩
  have chosen : l.any (fun d => fires s d && feeds s c d) = true := List.any_eq_true.mpr ⟨d, hd, by simp [fired, fed]⟩
  rw [h.chans, if_pos chosen]
  exact Chan.toIdle_of_feeding feeding

/-- R75: the burners that a stop of an active burner reaches; one that is not active is left as it is. -/
def reachedByStop : Burner → List Burner
  | .main => [.calciner, .main]
  | .calciner => [.calciner]

theorem mem_reachedByStop (b d : Burner) : d ∈ reachedByStop b ↔ d = b ∨ b = .main := by
  cases b <;> cases d <;> decide

/-- BURNER STOP of an active burner is the stop of every burner it reaches. -/
theorem burnerStop_stopped (b : Burner) (s : State) (h : (s.burns.get b).state.isActive = true) :
    Stopped (reachedByStop b) s (burnerStop b s).1 := by
  have own : Stopped [b] s (stopBurner b s) := (Stopped.nil s).cons (by simp)
  cases b with
  | main => simpa [burnerStop, h, reachedByStop] using own.cons (b := .calciner) (by decide)
  | calciner => simpa [burnerStop, reachedByStop] using own

/-- BURNER STOP of a burner that is not active changes nothing. -/
theorem burnerStop_inactive (b : Burner) (s : State) (h : (s.burns.get b).state.isActive = false) :
    burnerStop b s = (s, done []) := by simp [burnerStop, stopBurner, h]

/-! ## Requests that name a burner -/

theorem forBurner_burnerCode (b : Burner) (f : Burner → Service) : forBurner (burnerCode b) f = f b := by
  cases b <;> rfl

theorem forBurner_other (k : Nat) (f : Burner → Service) (h1 : k ≠ 1) (h2 : k ≠ 2) (s : State) :
    forBurner k f s = (s, plain .range) := by simp [forBurner, burnerNo, h1, h2]

theorem exec_burnerStop (k : Nat) (s : State) (run : s.phase = .running) :
    exec (.burnerStop k) s = .next (answered (forBurner k burnerStop s)) :=
  congrArg Host.Outcome.next (takeRequest_running _ s run)

theorem exec_burnerResetTrip (k : Nat) (s : State) (run : s.phase = .running) :
    exec (.burnerResetTrip k) s = .next (answered (forBurner k burnerResetTrip s)) :=
  congrArg Host.Outcome.next (takeRequest_running _ s run)

theorem answered_range (s : State) : answered (s, plain .range) = answering .range none [] s := answered_plain s _ rfl
theorem answered_done (s : State) : answered (s, done []) = answering .done none [] s := answered_plain s _ rfl
theorem answered_refusedFor (r : Reason) (s : State) :
    answered (s, refusedFor r) = answering .refused (some r) [] s := answered_plain s _ rfl

/-! ## BURNER STOP -/

/-- R68: a burner in OFF has its valve closed and its igniter off. -/
theorem outputs_of_off {t : State} {d : Burner} (h : (t.burns.get d).state = .off) :
    shutoffOpen t d = false ∧ igniterOn t d = false := by simp [shutoffOpen, igniterOn, h, BurnState.outputs]

/-- Settles O25, from the stop of every burner that the request reaches. -/
theorem burnerStops : Obligations.BurnerStops := by
  refine ⟨fun k s run h1 h2 => ?range, fun b s run => ⟨fun idle => ?idle, fun active => ?active⟩⟩
  case range => rw [exec_burnerStop k s run, forBurner_other k _ h1 h2, answered_range]
  case idle =>
    have inactive : (s.burns.get b).state.isActive = false := by rcases idle with h | h <;> rw [h] <;> rfl
    rw [exec_burnerStop _ s run, forBurner_burnerCode, burnerStop_inactive b s inactive, answered_done]
  case active =>
    have stop := burnerStop_stopped b s active
    refine ⟨answering .done none [] (burnerStop b s).1, ?answer, fun d stopped => ?stopped, fun d kept => ?kept,
      fun d => ⟨stop.hReq d, ?trips⟩, stop.clears.2, rfl, stop.touches.mono.trans (answer_touches _ _).mono⟩
    case answer =>
      rw [exec_burnerStop _ s run, forBurner_burnerCode, ← answered_done]
      rfl
    case stopped =>
      have chosen : d ∈ reachedByStop b := (mem_reachedByStop b d).mpr (stopped.imp_right And.left)
      have running : (s.burns.get d).state.isActive = true := by
        rcases stopped with rfl | ⟨-, h⟩ <;> assumption
      have shut := stop.shut_of_active chosen running
      obtain ⟨valve, igniter⟩ := outputs_of_off (t := (burnerStop b s).1) (d := d) (by rw [shut]; rfl)
      exact ⟨shut, valve, igniter, stop.leavesFiring chosen⟩
    case kept =>
      refine stop.unchanged_of_inactive fun chosen => ?_
      rcases (mem_reachedByStop b d).mp chosen with own | other
      · exact absurd (.inl own) kept
      · exact Bool.eq_false_iff.mpr fun h => kept (.inr ⟨other, h⟩)
    case trips =>
      have shift : (burnerStop b s).1.shift = s.shift := stop.clears.1
      show ((burnerStop b s).1.shift.totals.burns.get d).trips = _
      rw [shift]

/-! ## BURNER RESET TRIP -/

/-- R82, check 1: the trip point of the burner or the point of its first-out record is unacknowledged. -/
def UnackedAtReset (s : State) (b : Burner) (r : FirstOut) : Prop :=
  isUnacked s (tripPointOf b) = true ∨ ∃ p : Point, r.cause = .alarmPoint p ∧ isUnacked s p = true

/-- R82, check 2: the cause of the first-out record is tested and present. -/
def PresentAtReset (s : State) (r : FirstOut) : Prop :=
  (∃ p : Point, r.cause = .alarmPoint p ∧ s.alarm.points[p].cond = true)
  ∨ (r.cause = .emergencyStop ∧ stopLoopClosed s = false)

/-- The checks of R82 in their order. -/
theorem resetRefusal_cases (s : State) (b : Burner) (r : FirstOut) (record : (s.burns.get b).firstOut = some r) :
    (UnackedAtReset s b r → resetRefusal s b = some .unacknowledged)
    ∧ (¬UnackedAtReset s b r → PresentAtReset s r → resetRefusal s b = some .causePresent)
    ∧ (¬UnackedAtReset s b r → ¬PresentAtReset s r → resetRefusal s b = none) := by
  obtain ⟨cause, tripFrom, clock, later⟩ := r
  cases cause <;> simp +contextual [resetRefusal, record, UnackedAtReset, PresentAtReset]

theorem burnerResetTrip_refused {s : State} {b : Burner} {r : Reason} (tripped : (s.burns.get b).state = .tripped)
    (refusal : resetRefusal s b = some r) : burnerResetTrip b s = (s, refusedFor r) := by
  simp [burnerResetTrip, tripped, refusal]

/-- An accepted reset: the burner in OFF without its record, and its trip point absent. -/
theorem burnerResetTrip_accepted {s : State} {b : Burner} (tripped : (s.burns.get b).state = .tripped)
    (accepted : resetRefusal s b = none) :
    burnerResetTrip b s
      = ((s.onBurn b fun x => { x with state := .off, firstOut := none }).onPoint (tripPointOf b) PointRec.absent,
         done []) := by
  simp [burnerResetTrip, tripped, accepted, reportCond_absent]

/-- A point that is not unacknowledged becomes NORMAL when its present condition clears in ACTIVE_ACK, and else stays. -/
theorem PointRec.absent_state_of_acked {x : PointRec} (h : x.state ≠ .activeUnack) :
    x.absent.state = if x.cond = true ∧ x.state = .activeAck then .normal else x.state := by
  by_cases present : x.cond = true
  · cases state : x.state <;> simp_all [PointRec.absent, PointState.cleared]
  · simp [PointRec.absent, present]

/-- Settles O26, by the checks of R82 in their order. -/
theorem resetTripReleases : Obligations.ResetTripReleases := by
  refine ⟨fun k s run h1 h2 => ?range, fun b r s run => ⟨fun untripped => ?untripped, fun tripped record => ?tripped⟩⟩
  case range => rw [exec_burnerResetTrip k s run, forBurner_other k _ h1 h2, answered_range]
  case untripped =>
    have same : burnerResetTrip b s = (s, done []) := by simp [burnerResetTrip, untripped]
    rw [exec_burnerResetTrip _ s run, forBurner_burnerCode, same, answered_done]
  case tripped =>
    obtain ⟨unacknowledged, causePresent, accepted⟩ := resetRefusal_cases s b r record
    refine ⟨fun unacked => ?_, fun acked present => ?_, fun acked gone => ?_⟩
    · rw [exec_burnerResetTrip _ s run, forBurner_burnerCode,
        burnerResetTrip_refused tripped (unacknowledged unacked), answered_refusedFor]
    · rw [exec_burnerResetTrip _ s run, forBurner_burnerCode,
        burnerResetTrip_refused tripped (causePresent acked present), answered_refusedFor]
    · have known : s.alarm.points[(tripPointOf b).val].state ≠ .activeUnack := fun h =>
        acked (.inl (by simp [isUnacked, h]))
      rw [exec_burnerResetTrip _ s run, forBurner_burnerCode, burnerResetTrip_accepted tripped (accepted acked gone),
        answered_done]
      refine ⟨_, rfl, rfl, ?_, ?_, rfl, ?_⟩
      · simp [answering]
      · simpa [answering] using PointRec.absent_state_of_acked known
      · exact ((onBurn_touches b _ s).mono.trans (onPoint_touches _ _ _).mono).trans (answer_touches _ _).mono

end Sys2Proof.Machine
end

section
/-! PROOFS. Chapter 6, the alarm table: what its own operations do to the list and the queue (R122 to R124). -/

namespace Sys2Proof.Machine

/-! ## Placement -/

/-- R122, of a list and a queue and of the points that are to stand in them. -/
structure Placed (list queue : List Point) (U : Point → Prop) : Prop where
  short : list.length ≤ 8
  idle : list.length < 8 → queue = []
  nodup : (list ++ queue).Nodup
  mem : ∀ p, p ∈ list ++ queue ↔ U p

theorem alarmInv_iff (s : State) : AlarmInv s ↔ Placed s.alarm.list s.alarm.queue (isUnacked s · = true) :=
  ⟨fun ⟨short, idle, nodup, mem⟩ => ⟨short, idle, nodup, mem⟩, fun h => ⟨h.short, h.idle, h.nodup, h.mem⟩⟩

theorem Placed.congr {list queue : List Point} {U V : Point → Prop} (h : Placed list queue U) (same : ∀ q, U q ↔ V q) :
    Placed list queue V := ⟨h.short, h.idle, h.nodup, fun q => (h.mem q).trans (same q)⟩

/-- A point without a place goes on top of a list with room. -/
theorem Placed.onTop {list queue : List Point} {U : Point → Prop} {p : Point} (h : Placed list queue U)
    (room : list.length < 8) (out : ¬U p) : Placed (p :: list) queue (fun q => q = p ∨ U q) where
  short := room
  idle _ := h.idle room
  nodup := List.nodup_cons.mpr ⟨fun m => out ((h.mem p).mp m), h.nodup⟩
  mem q := by rw [List.cons_append, List.mem_cons, h.mem]

/-- A point without a place joins the tail of the queue of a full list. -/
theorem Placed.atTail {list queue : List Point} {U : Point → Prop} {p : Point} (h : Placed list queue U)
    (full : ¬list.length < 8) (out : ¬U p) : Placed list (queue ++ [p]) (fun q => q = p ∨ U q) where
  short := h.short
  idle room := absurd room full
  nodup := by
    rw [← List.append_assoc]
    exact h.nodup.append (List.nodup_singleton p) (by simpa [h.mem] using out)
  mem q := by rw [← List.append_assoc, List.mem_append, h.mem, List.mem_singleton, or_comm]

theorem Placed.place {s : State} {U : Point → Prop} {p : Point} (h : Placed s.alarm.list s.alarm.queue U)
    (out : ¬U p) : Placed (place p s).alarm.list (place p s).alarm.queue (fun q => q = p ∨ U q) := by
  unfold Machine.place
  split
  next room => exact h.onTop room out
  next full => exact h.atTail full out

/-- A list and a queue that hold what another list and queue hold without `p`. -/
theorem Placed.without {list queue list' queue' : List Point} {U : Point → Prop} (h : Placed list queue U) (p : Point)
    (perm : (list' ++ queue').Perm ((list ++ queue).erase p)) (short : list'.length ≤ 8)
    (idle : list'.length < 8 → queue' = []) : Placed list' queue' (fun q => U q ∧ q ≠ p) where
  short := short
  idle := idle
  nodup := perm.nodup_iff.mpr (h.nodup.erase p)
  mem q := by rw [perm.mem_iff, h.nodup.mem_erase_iff, h.mem, and_comm]

/-- A point leaves the list, and the head of the queue takes the room. -/
theorem Placed.leaveList {s : State} {U : Point → Prop} {p : Point} (h : Placed s.alarm.list s.alarm.queue U)
    (listed : p ∈ s.alarm.list) :
    Placed (leavePlacement p s).alarm.list (leavePlacement p s).alarm.queue (fun q => U q ∧ q ≠ p) := by
  have left : (s.alarm.list ++ s.alarm.queue).erase p = s.alarm.list.erase p ++ s.alarm.queue :=
    List.erase_append_left _ listed
  have shorter : (s.alarm.list.erase p).length + 1 = s.alarm.list.length := by
    have := List.length_pos_of_mem listed
    rw [List.length_erase_of_mem listed]; omega
  have short := h.short
  unfold leavePlacement
  simp only [List.contains_eq_mem, listed, decide_true, ↓reduceIte, State.onAlarm_alarm]
  split
  next empty => exact h.without p (by simp [empty]) (by dsimp; omega) fun _ => empty
  next q rest waiting =>
    have full : s.alarm.list.length = 8 := by
      by_contra room
      simp [h.idle (by omega)] at waiting
    refine h.without p ?_ (by simp [placeOnList]; omega) fun room => ?_
    · rw [left, waiting]
      exact List.perm_middle.symm
    · simp [placeOnList] at room; omega

/-- A point that is not listed leaves the queue, if it waits. -/
theorem Placed.leaveQueue {s : State} {U : Point → Prop} {p : Point} (h : Placed s.alarm.list s.alarm.queue U)
    (unlisted : p ∉ s.alarm.list) :
    Placed (leavePlacement p s).alarm.list (leavePlacement p s).alarm.queue (fun q => U q ∧ q ≠ p) := by
  unfold leavePlacement
  simp only [List.contains_eq_mem, unlisted, decide_false, Bool.false_eq_true, ↓reduceIte, State.onAlarm_alarm]
  refine h.without p (by rw [List.erase_append_right _ unlisted]) h.short fun room => ?_
  rw [h.idle room, List.erase_nil]

/-- R124: after a point has left its place, every other point has one as before. -/
theorem Placed.leave {s : State} {U : Point → Prop} (h : Placed s.alarm.list s.alarm.queue U) (p : Point) :
    Placed (leavePlacement p s).alarm.list (leavePlacement p s).alarm.queue (fun q => U q ∧ q ≠ p) := by
  by_cases listed : p ∈ s.alarm.list
  · exact h.leaveList listed
  · exact h.leaveQueue listed

theorem isPlaced_iff {s : State} {U : Point → Prop} (h : Placed s.alarm.list s.alarm.queue U) (p : Point) :
    isPlaced s p = true ↔ U p := by simp [isPlaced, ← h.mem]

/-! ## What becomes of the points -/

theorem place_points (p : Point) (s : State) : (place p s).alarm.points = s.alarm.points := by
  unfold place; split <;> rfl

theorem leavePlacement_points (p : Point) (s : State) : (leavePlacement p s).alarm.points = s.alarm.points := by
  unfold leavePlacement
  split
  · dsimp only; split <;> rfl
  · rfl

theorem isUnacked_congr {s t : State} (h : t.alarm.points = s.alarm.points) : isUnacked t = isUnacked s := by
  funext p; simp [isUnacked, h]

theorem isUnacked_of_state {s : State} {p : Point} {x : PointState} (h : s.alarm.points[p].state = x) :
    isUnacked s p = decide (x = .activeUnack ∨ x = .clearedUnack) := by rw [isUnacked, h]

theorem isUnacked_onPoint_other {p q : Point} (f : PointRec → PointRec) (s : State) (h : q ≠ p) :
    isUnacked (s.onPoint p f) q = isUnacked s q := by simp [isUnacked, upd_other _ _ h.symm]

theorem isUnacked_onPoint_same (p : Point) (f : PointRec → PointRec) (s : State) :
    isUnacked (s.onPoint p f) p
      = decide ((f s.alarm.points[p]).state = .activeUnack ∨ (f s.alarm.points[p]).state = .clearedUnack) := by
  simp [isUnacked]

/-! ## The law under changes of one point -/

theorem AlarmInv.of_same {s t : State} (h : AlarmInv s) (list : t.alarm.list = s.alarm.list)
    (queue : t.alarm.queue = s.alarm.queue) (unacked : ∀ p, isUnacked t p = isUnacked s p) : AlarmInv t := by
  simpa only [AlarmInv, list, queue, unacked] using h

/-- The law speaks of the Alarm Table alone. -/
theorem AlarmInv.of_alarm {s t : State} (h : AlarmInv s) (same : t.alarm = s.alarm) : AlarmInv t :=
  h.of_same (by rw [same]) (by rw [same]) fun p => by simp only [isUnacked, same]

theorem AlarmInv.ite {s t : State} {c : Prop} [Decidable c] (h : AlarmInv s) (k : AlarmInv t) :
    AlarmInv (if c then s else t) := by split <;> assumption

/-- A point changes and is unacknowledged as before. -/
theorem AlarmInv.onPoint {s : State} (h : AlarmInv s) {p : Point} {f : PointRec → PointRec}
    (same : isUnacked (s.onPoint p f) p = isUnacked s p) : AlarmInv (s.onPoint p f) := by
  refine h.of_same rfl rfl fun q => ?_
  by_cases e : q = p
  · rw [e, same]
  · exact isUnacked_onPoint_other f s e

/-- A point that is no longer unacknowledged leaves its place, if it has one. -/
theorem AlarmInv.acked {s : State} (h : AlarmInv s) {p : Point} {f : PointRec → PointRec}
    (acked : isUnacked (s.onPoint p f) p = false) : AlarmInv (leavePlacement p (s.onPoint p f)) := by
  have placed := (alarmInv_iff s).mp h
  rw [alarmInv_iff, isUnacked_congr (leavePlacement_points p _)]
  refine (Placed.leave (s := s.onPoint p f) placed p).congr fun q => ?_
  by_cases e : q = p
  · simp [e, acked]
  · simp [e, isUnacked_onPoint_other f s e]

/-- A point that becomes unacknowledged takes a place, unless it has one. -/
theorem AlarmInv.activated {s t : State} {p : Point} (h : AlarmInv s) (list : t.alarm.list = s.alarm.list)
    (queue : t.alarm.queue = s.alarm.queue) (unacked : ∀ q, isUnacked t q = true ↔ q = p ∨ isUnacked s q = true) :
    AlarmInv (if isPlaced s p then t else place p t) := by
  have placed := (alarmInv_iff s).mp h
  have has := isPlaced_iff placed p
  rw [← list, ← queue] at placed
  split
  next holds =>
    refine (alarmInv_iff t).mpr (placed.congr fun q => ?_)
    rw [unacked]
    exact ⟨.inr, fun u => u.elim (fun e => e ▸ has.mp holds) id⟩
  next lacks =>
    rw [alarmInv_iff, isUnacked_congr (place_points p t)]
    exact (placed.place fun u => lacks (has.mpr u)).congr fun q => (unacked q).symm

theorem addActivation_alarm (k : Nat) (s : State) : (addActivation k s).alarm = s.alarm :=
  addActivation_touches k s .alarm (by decide)

theorem activate_keepsAlarmInv (p : Point) {s : State} (h : AlarmInv s) : AlarmInv (activate p s) := by
  refine h.activated (by rw [addActivation_alarm]; rfl) (by rw [addActivation_alarm]; rfl) fun q => ?_
  rw [isUnacked_congr (congrArg AlarmTable.points (addActivation_alarm _ _))]
  by_cases e : q = p
  · simp [e, isUnacked_onPoint_same]
  · simp [e, isUnacked_onPoint_other _ s e]

/-! ## Condition reports -/

theorem conditionChanged_keepsAlarmInv (p : Point) (present : Bool) {s : State} (h : AlarmInv s) :
    AlarmInv (conditionChanged p present s) := by
  unfold conditionChanged
  split
  next => exact activate_keepsAlarmInv p h
  next state => exact h.onPoint (by simp [isUnacked_onPoint_same, isUnacked_of_state state])
  next state => exact h.onPoint (by simp [isUnacked_onPoint_same, isUnacked_of_state state])
  next => exact activate_keepsAlarmInv p h
  next => exact h.of_alarm rfl
  next => exact h.of_alarm rfl
  next => exact h

theorem reportCond_keepsAlarmInv (p : Point) (present : Bool) {s : State} (h : AlarmInv s) :
    AlarmInv (reportCond p present s) := by
  have stored : AlarmInv (s.onPoint p fun x => { x with cond := present }) := h.onPoint (by simp [isUnacked])
  have moved := conditionChanged_keepsAlarmInv p present stored
  exact .ite h (.ite (moved.of_alarm rfl) moved)

/-! ## Acknowledging, shelving, disabling and resuming -/

theorem ackPoint_keepsAlarmInv (p : Point) {s : State} (h : AlarmInv s) : AlarmInv (ackPoint p s) := by
  unfold ackPoint
  split
  · exact h.acked (by simp [isUnacked_onPoint_same])
  · exact h.acked (by simp [isUnacked_onPoint_same])
  · exact h

theorem ackedState_acked (x : PointState) : ackedState x ≠ .activeUnack ∧ ackedState x ≠ .clearedUnack := by
  cases x <;> decide

theorem ackAll_keepsAlarmInv (s : State) : AlarmInv (ackAll s) := by
  refine ⟨Nat.zero_le _, fun _ => rfl, List.nodup_nil, fun p => ?_⟩
  simp [ackAll, isUnacked, ackedState_acked]

/-- A point that has no place needs none when it is not unacknowledged afterwards either. -/
theorem AlarmInv.leaveIfPlaced {s : State} (h : AlarmInv s) {p : Point} {f : PointRec → PointRec}
    (acked : isUnacked (s.onPoint p f) p = false) :
    AlarmInv (if isPlaced s p then leavePlacement p (s.onPoint p f) else s.onPoint p f) := by
  split
  next => exact h.acked acked
  next lacks =>
    have before : isUnacked s p = false := by
      rw [Bool.eq_false_iff]
      exact fun u => lacks ((isPlaced_iff ((alarmInv_iff s).mp h) p).mpr u)
    exact h.onPoint (acked.trans before.symm)

theorem shelvePoint_keepsAlarmInv (p : Point) (n : Nat) {s : State} (h : AlarmInv s) : AlarmInv (shelvePoint p n s) :=
  h.leaveIfPlaced (by simp [isUnacked_onPoint_same])

theorem disablePoint_keepsAlarmInv (p : Point) {s : State} (h : AlarmInv s) : AlarmInv (disablePoint p s) :=
  h.leaveIfPlaced (by simp [isUnacked_onPoint_same])

/-- A point that was not unacknowledged resumes by its condition. -/
theorem resumePoint_keepsAlarmInv {p : Point} {s : State} (h : AlarmInv s) (out : isUnacked s p = false) :
    AlarmInv (resumePoint p s) := by
  have normal : AlarmInv (s.onPoint p fun x => { x with state := .normal, shelve := none }) :=
    h.onPoint (by simp [isUnacked_onPoint_same, out])
  exact .ite (activate_keepsAlarmInv p normal) normal

theorem expireShelve_keepsAlarmInv (p : Point) {s : State} (h : AlarmInv s) : AlarmInv (expireShelve p s) := by
  unfold expireShelve
  split
  next shelved => exact resumePoint_keepsAlarmInv h (isUnacked_of_state shelved)
  next => exact h

/-! ## The minute event, a shift close and a start -/

theorem minuteAt_keepsAlarmInv (p : Point) {s : State} (h : AlarmInv s) : AlarmInv (minuteAt p s) := by
  have counted {n : Nat} : AlarmInv (s.onPoint p fun x => { x with shelve := some n }) :=
    h.onPoint (by simp [isUnacked])
  exact .ite (.ite (expireShelve_keepsAlarmInv p h) counted) h

theorem forEach_preserves {α : Type} {P : State → Prop} {f : α → State → State} (h : ∀ a t, P t → P (f a t))
    (l : List α) {s : State} (hs : P s) : P (forEach l f s) := by
  induction l generalizing s with
  | nil => exact hs
  | cons a l ih => exact ih (h a s hs)

theorem minuteEvent_keepsAlarmInv {s : State} (h : AlarmInv s) : AlarmInv (minuteEvent s) :=
  forEach_preserves (fun p _ => minuteAt_keepsAlarmInv p) _ h

theorem closeAlarms_keepsAlarmInv {s : State} (h : AlarmInv s) : AlarmInv (closeAlarms s) :=
  h.of_same rfl rfl fun p => by simp [closeAlarms, reportWaiting, isUnacked]

/-- At a start no point is unacknowledged and none has a place (R132). -/
theorem alarmInv_of_start {s : State} {set : Settings} (h : s.alarm = startAlarm set) : AlarmInv s := by
  refine ⟨by simp [h, startAlarm], fun _ => by simp [h, startAlarm], by simp [h, startAlarm], fun p => ?_⟩
  have acked : isUnacked s p = false := by
    simp only [isUnacked, h, startAlarm, startPoint, Fin.getElem_fin, Vector.getElem_ofFn]
    split <;> decide
  simp [acked, h, startAlarm]

end Sys2Proof.Machine
end

section
/-! PROOFS. Chapter 6, the alarm table: the other blocks reach it by condition reports alone (R112). -/

namespace Sys2Proof.Machine

/-- From `s` to `t` the Alarm Table changes by condition reports alone (R112). -/
inductive Reports (s : State) : State → Prop where
  | refl : Reports s s
  | outside {t u : State} (h : Reports s t) (same : u.alarm = t.alarm) : Reports s u
  | report {t : State} {p : Point} {present : Bool} (h : Reports s t) : Reports s (reportCond p present t)

theorem Reports.keeps {s t : State} (h : Reports s t) (inv : AlarmInv s) : AlarmInv t := by
  induction h with
  | refl => exact inv
  | outside _ same ih => exact ih.of_alarm same
  | report _ ih => exact reportCond_keepsAlarmInv _ _ ih

theorem Reports.ite {s t u : State} {c : Prop} [Decidable c] (h : Reports s t) (k : Reports s u) :
    Reports s (if c then t else u) := by split <;> assumption

theorem Reports.reportIf {s t : State} {c : Prop} [Decidable c] {p : Point} {present : Bool} (h : Reports s t) :
    Reports s (if c then reportCond p present t else t) := .ite h.report h

theorem Reports.reportUnless {s t : State} {c : Prop} [Decidable c] {p : Point} {present : Bool} (h : Reports s t) :
    Reports s (if c then t else reportCond p present t) := .ite h h.report

theorem Reports.each {α : Type} {s t : State} {f : α → State → State} {l : List α}
    (step : ∀ a u, Reports s u → Reports s (f a u)) (h : Reports s t) : Reports s (forEach l f t) :=
  forEach_preserves step l h

theorem Touches.reports {l : List Part} {s t u : State} (k : Touches l t u) (h : Reports s t)
    (out : Part.alarm ∉ l := by decide) : Reports s u := .outside h (k .alarm out)

/-! ## An update of another record -/

theorem Reports.onPlanner {s t : State} {f : Planner → Planner} (h : Reports s t) : Reports s (t.onPlanner f) :=
  h.outside rfl
theorem Reports.onChan {s t : State} {c : Channel} {f : Chan → Chan} (h : Reports s t) : Reports s (t.onChan c f) :=
  h.outside rfl
theorem Reports.onBurn {s t : State} {b : Burner} {f : Burn → Burn} (h : Reports s t) : Reports s (t.onBurn b f) :=
  h.outside rfl
theorem Reports.onCooler {s t : State} {f : Cooler → Cooler} (h : Reports s t) : Reports s (t.onCooler f) :=
  h.outside rfl
theorem Reports.onShift {s t : State} {f : Shift → Shift} (h : Reports s t) : Reports s (t.onShift f) := h.outside rfl
theorem Reports.onFloor {s t : State} {f : Floor → Floor} (h : Reports s t) : Reports s (t.onFloor f) := h.outside rfl
theorem Reports.onStore {s t : State} {f : Store → Store} (h : Reports s t) : Reports s (t.onStore f) := h.outside rfl
theorem Reports.onAnalog {s t : State} {i : AnalogIn} {f : AnalogRec → AnalogRec} (h : Reports s t) :
    Reports s (t.onAnalog i f) := h.outside rfl
theorem Reports.onPulse {s t : State} {e : PulseIn} {f : PulseRec → PulseRec} (h : Reports s t) :
    Reports s (t.onPulse e f) := h.outside rfl
theorem Reports.onDiscrete {s t : State} {d : DiscreteIn} {f : DiscreteRec → DiscreteRec} (h : Reports s t) :
    Reports s (t.onDiscrete d f) := h.outside rfl
theorem Reports.onDemand {s t : State} {b : Burner} {f : Demand → Demand} (h : Reports s t) :
    Reports s (t.onDemand b f) := h.outside rfl
theorem Reports.onEntry {s t : State} {c : Channel} {f : PlanEntry → PlanEntry} (h : Reports s t) :
    Reports s (t.onEntry c f) := h.outside rfl
theorem Reports.onGrate {s t : State} {g : Grate} {f : GrateRec → GrateRec} (h : Reports s t) :
    Reports s (t.onGrate g f) := h.outside rfl
theorem Reports.onFan {s t : State} {n : Fan} {f : FanRec → FanRec} (h : Reports s t) : Reports s (t.onFan n f) :=
  h.outside rfl
theorem Reports.onTotals {s t : State} {f : Totals → Totals} (h : Reports s t) : Reports s (t.onTotals f) :=
  h.outside rfl
theorem Reports.onLive {s t : State} {f : Settings → Settings} (h : Reports s t) : Reports s (t.onLive f) :=
  h.outside rfl
theorem Reports.onHanded {s t : State} {f : List (Burner × Cause) → List (Burner × Cause)} (h : Reports s t) :
    Reports s (t.onHanded f) := h.outside rfl

/-! ## The channels -/

section
variable {s t : State}

theorem enterHold_reports {c : Channel} (h : Reports s t) : Reports s (enterHold c t) := .report (.onChan h)

theorem returnFromHold_reports {c : Channel} (h : Reports s t) : Reports s (returnFromHold c t) := .report (.onChan h)

theorem enterFault_reports {c : Channel} {cause : FaultCause} (h : Reports s t) : Reports s (enterFault c cause t) :=
  .reportIf (.reportIf (.report (.onChan h)))

theorem leaveToIdle_reports {c : Channel} (h : Reports s t) : Reports s (leaveToIdle c t) :=
  .ite (.reportIf (.reportIf (.onChan h))) h

theorem channelsFollowStop_reports {b : Burner} (h : Reports s t) : Reports s (channelsFollowStop b t) :=
  .each (fun _ _ k => .ite (leaveToIdle_reports k) k) h

theorem handLoadCell_reports {c : Channel} {arrival : Bool} (h : Reports s t) :
    Reports s (handLoadCell c arrival t) := by
  unfold handLoadCell
  split
  · exact .ite (enterHold_reports h) h
  · exact .ite h (returnFromHold_reports h)
  · exact .ite ((abortStage_touches _ _ _).reports h) (.ite (.onChan h) h)
  all_goals exact h

theorem addDosed_reports {c : Channel} {b : Option Burner} {grams kj : Nat} (h : Reports s t) :
    Reports s (addDosed c b grams kj t) := by
  unfold addDosed
  dsimp only
  split
  · exact .onTotals h
  · exact .onTotals (.onTotals h)

theorem account_reports {c : Channel} {p : Int} (h : Reports s t) : Reports s (account c p t) := by
  unfold account
  exact .onTotals (.ite (.onTotals (addDosed_reports (.onChan h))) (addDosed_reports (.onChan h)))

theorem updateDeviation_reports {c : Channel} (h : Reports s t) : Reports s (updateDeviation c t) :=
  .ite (.ite (.onTotals (.report (.onChan h))) (.onChan h)) (.reportIf (.onChan h))

theorem supervise_reports {c : Channel} {p : Int} (h : Reports s t) : Reports s (supervise c p t) := by
  unfold supervise
  dsimp only
  split
  · exact .onChan (updateDeviation_reports (.onChan h))
  · exact enterFault_reports (.onChan (updateDeviation_reports (.onChan h)))

theorem cycleWork_reports {c : Channel} (h : Reports s t) : Reports s (cycleWork c t) := by
  unfold cycleWork
  dsimp only
  have taken {f : Chan → Chan} : Reports s (takeCount c (t.onChan c f)) := .onPulse (.onChan h)
  split
  · exact .onChan taken
  · exact .onTotals (.onChan taken)
  · exact .onTotals (.onChan taken)
  · exact .onTotals (.onChan taken)
  · exact account_reports taken
  · exact .ite (.onChan (supervise_reports (account_reports taken))) (supervise_reports (account_reports taken))

theorem holdExpires_reports {c : Channel} (h : Reports s t) : Reports s (holdExpires c t) :=
  .ite (enterFault_reports h) h

theorem completeStage_reports {c : Channel} {g : Stage} (h : Reports s t) : Reports s (completeStage c g t) := by
  have drawn : Reports s (if g.count = 0 then t.drawn else t) := .ite (.outside h rfl) h
  unfold completeStage
  dsimp only
  split
  · exact .onChan drawn
  · split
    · exact .onChan (.onLive (.onChan drawn))
    · exact .onLive (.onChan drawn)

theorem stageExpires_reports {c : Channel} (h : Reports s t) : Reports s (stageExpires c t) := by
  unfold stageExpires
  split
  · exact h
  · exact .ite (completeStage_reports h) h

/-! ## The planner -/

theorem shortfallCheck_reports {b : Burner} (h : Reports s t) : Reports s (shortfallCheck b t) :=
  .ite (.ite (.report (.onDemand (.onDemand h))) (.onDemand h)) (.reportIf (.onDemand h))

theorem planCycleOf_reports {b : Burner} (h : Reports s t) : Reports s (planCycleOf b t) := by
  have planned {f : Demand → Demand} : Reports s (shortfallCheck b (planBurner b (t.onDemand b f))) :=
    shortfallCheck_reports ((planBurner_touches _ _).reports (.onDemand h))
  exact .ite (.onTotals (.ite (.onTotals planned) planned))
    (shortfallCheck_reports ((emptyPlan_touches _ _).reports (.onDemand h)))

theorem emptyUnassigned_reports (h : Reports s t) : Reports s (emptyUnassigned t) :=
  .each (fun _ _ k => .ite (.onEntry k) k) h

theorem planAndDose_reports (h : Reports s t) : Reports s (planAndDose t) :=
  .each (fun _ _ => cycleWork_reports)
    (emptyUnassigned_reports (planCycleOf_reports (planCycleOf_reports (.onPlanner h))))

/-! ## The burners -/

theorem followLeaving_reports {b : Burner} (h : Reports s t) : Reports s (followLeaving b t) :=
  channelsFollowStop_reports ((plannerLeavesFiring_touches _ _).reports h)

theorem enterTripped_reports {b : Burner} {cause : Cause} (h : Reports s t) : Reports s (enterTripped b cause t) := by
  have tripped {f : Burn → Burn} :
      Reports s (addTrip b (reportCond (tripPointOf b) true (followLeaving b (t.onBurn b f)))) :=
    .onTotals (.report (followLeaving_reports (.onBurn h)))
  exact .ite (.onHanded tripped) tripped

theorem takeCause_reports {b : Burner} {cause : Cause} (h : Reports s t) : Reports s (takeCause b cause t) := by
  unfold takeCause
  split
  · exact h
  · exact .onBurn h
  all_goals exact enterTripped_reports h

theorem takeHanded_reports {b : Burner} {cause : Cause} (h : Reports s t) : Reports s (takeHanded b cause t) :=
  takeCause_reports (.onHanded h)

theorem flameSample_reports {b : Burner} (h : Reports s t) : Reports s (flameSample b t) :=
  .ite (takeCause_reports (.onBurn h)) (.onBurn h)

theorem handFlame_reports {b : Burner} (h : Reports s t) : Reports s (handFlame b t) := by
  unfold handFlame
  split
  · exact .ite (.onBurn h) (.onBurn h)
  · exact flameSample_reports h
  · exact flameSample_reports h
  all_goals exact h

theorem handInlet_reports (h : Reports s t) : Reports s (handInlet t) := .ite (takeCause_reports h) h

theorem purgeExpires_reports {b : Burner} (h : Reports s t) : Reports s (purgeExpires b t) := .ite (.onBurn h) h

theorem trialExpires_reports {b : Burner} (h : Reports s t) : Reports s (trialExpires b t) :=
  .ite (takeCause_reports h) h

theorem stabiliseExpires_reports {b : Burner} (h : Reports s t) : Reports s (stabiliseExpires b t) :=
  .ite ((enterFiring_touches _ _).reports h) h

theorem firingSeconds_reports (h : Reports s t) : Reports s (firingSeconds t) :=
  .each (fun _ _ k => .ite (.onTotals k) k) h

theorem stopBurner_reports {b : Burner} (h : Reports s t) : Reports s (stopBurner b t) :=
  .ite (.ite (followLeaving_reports (.onBurn h)) (.onBurn h)) h

/-! ## The cooler -/

theorem computeDamper_reports {f : Fan} (h : Reports s t) : Reports s (computeDamper f t) := .onFan (.onFan h)

theorem enterOverload_reports (h : Reports s t) : Reports s (enterOverload t) := by
  unfold enterOverload
  exact .onCooler (.report (.each (fun _ _ => computeDamper_reports) ((capEvent_touches _ _).reports (.onCooler h))))

theorem leaveOverload_reports (h : Reports s t) : Reports s (leaveOverload t) := by
  unfold leaveOverload
  exact .onCooler (.report (.each (fun _ _ => computeDamper_reports) ((capEvent_touches _ _).reports (.onCooler h))))

theorem enteringEvent_reports (h : Reports s t) : Reports s (enteringEvent t) :=
  .ite (.onCooler h) (enterOverload_reports h)

theorem clearTest_reports (h : Reports s t) : Reports s (clearTest t) :=
  .ite (.ite (leaveOverload_reports (.onCooler h)) (.onCooler h)) h

theorem judgeFan_reports {f : Fan} (h : Reports s t) : Reports s (judgeFan f t) :=
  .ite (.ite (.ite (.ite (.report (.onFan (.onFan h))) (.onFan h)) (.onFan h)) (.reportIf (.onFan h))) h

theorem updateFan_reports {f : Fan} (h : Reports s t) : Reports s (updateFan f t) :=
  .ite (computeDamper_reports ((trimFan_touches _ _).reports (judgeFan_reports h))) h

theorem coolerCycle_reports (h : Reports s t) : Reports s (coolerCycle t) := by
  have tested : Reports s (pressureTest (forEach (List.finRange 8) updateFan (takeTables t))) :=
    (pressureTest_touches _).reports (.each (fun _ _ => updateFan_reports) (.onCooler h))
  unfold coolerCycle
  dsimp only
  exact .ite (.onTotals (clearTest_reports (.ite (enteringEvent_reports tested) tested)))
    (clearTest_reports (.ite (enteringEvent_reports tested) tested))

theorem fanToStandby_reports {f : Fan} (h : Reports s t) : Reports s (fanToStandby f t) :=
  .ite (.reportIf (.onFan h)) h

theorem fansResume_reports (h : Reports s t) : Reports s (fansResume t) :=
  .each (fun _ _ k => .ite (computeDamper_reports k) k) h

theorem stallGrate_reports {g : Grate} (h : Reports s t) : Reports s (stallGrate g t) :=
  .ite (enteringEvent_reports (.report (.onGrate h))) (.report (.onGrate h))

theorem forwardExpires_reports {g : Grate} (h : Reports s t) : Reports s (forwardExpires g t) :=
  .ite (.ite (.onGrate h) (.ite (.onGrate h) (stallGrate_reports h))) h

theorem countStroke_reports {g : Grate} (h : Reports s t) : Reports s (countStroke g t) :=
  .ite (.onTotals (.onTotals (.onGrate h))) (.onTotals (.onGrate h))

theorem deadAExpires_reports {g : Grate} (h : Reports s t) : Reports s (deadAExpires g t) :=
  .ite (.ite (countStroke_reports (.onGrate h)) (.onGrate h)) h

theorem returnExpires_reports {g : Grate} (h : Reports s t) : Reports s (returnExpires g t) := .ite (.onGrate h) h

theorem restExpires_reports {g : Grate} (h : Reports s t) : Reports s (restExpires g t) :=
  .ite (.ite (.onGrate h) ((forwardStart_touches _ _).reports (.onGrate h))) h

theorem guardExpires_reports {g : Grate} (h : Reports s t) : Reports s (guardExpires g t) :=
  .ite ((guardEnds_touches _ _).reports h) h

/-! ## The inputs -/

theorem evaluate_reports {i : AnalogIn} (h : Reports s t) : Reports s (evaluate i t) :=
  .reportUnless (.reportUnless (.onAnalog h))

theorem handBedPressure_reports (h : Reports s t) : Reports s (handBedPressure t) := h.outside rfl

theorem handOver_reports {i : AnalogIn} {arrival : Bool} (h : Reports s t) : Reports s (handOver i arrival t) := by
  unfold handOver
  split
  · exact handLoadCell_reports h
  · have draught : Reports s (handDraught .calciner (handDraught .main t)) :=
      (handDraught_touches _ _).reports ((handDraught_touches _ _).reports h)
    exact .ite (.ite (handFlame_reports h) h) (.ite (.ite (handFlame_reports h) h)
      (.ite (.ite (handBedPressure_reports h) h) (.ite (.ite (handInlet_reports h) h) (.ite draught h))))

theorem takeSample_reports {i : AnalogIn} {sample : Nat} (h : Reports s t) : Reports s (takeSample i sample t) :=
  handOver_reports (.ite (evaluate_reports (.onAnalog h)) (.onAnalog h))

theorem unsettleInput_reports {i : AnalogIn} (h : Reports s t) : Reports s (unsettleInput i t) :=
  .ite h (handOver_reports (.onAnalog h))

theorem unsettleInputs_reports (h : Reports s t) : Reports s (unsettleInputs t) :=
  .each (fun _ _ => unsettleInput_reports) h

theorem settleInput_reports {i : AnalogIn} (h : Reports s t) : Reports s (settleInput i t) := by
  unfold settleInput
  dsimp only
  split
  · exact handOver_reports (.onAnalog h)
  · exact h

theorem takeEdge_reports {e : PulseIn} {a b : Bool} (h : Reports s t) : Reports s (takeEdge e a b t) :=
  .ite (.onPulse h) (.onPulse h)

theorem movePin_reports {d : DiscreteIn} {level : Bool} (h : Reports s t) : Reports s (movePin d level t) :=
  .ite (.onDiscrete h) (.onDiscrete h)

theorem emergencyStop_reports (h : Reports s t) : Reports s (emergencyStop t) :=
  (abortStages_touches _ _).reports ((stopGrates_touches _).reports (.onHanded (.report h)))

theorem crusherStopped_reports (h : Reports s t) : Reports s (crusherStopped t) :=
  enteringEvent_reports (.onGrate (.report h))

theorem discreteChanged_reports {d : DiscreteIn} {level : Bool} (h : Reports s t) :
    Reports s (discreteChanged d level t) := by
  unfold discreteChanged
  split
  · exact .ite (.onGrate h) h
  · exact .ite (.ite (.report h) (emergencyStop_reports h)) (.ite (.report h) (crusherStopped_reports h))

theorem debounceExpires_reports {d : DiscreteIn} (h : Reports s t) : Reports s (debounceExpires d t) :=
  .ite (.ite (.onDiscrete h) (discreteChanged_reports (.onDiscrete h))) h

theorem reportForced_reports {before : Bool} (h : Reports s t) : Reports s (reportForced before t) := .reportUnless h

theorem forceAnalog_reports {i : AnalogIn} {v : Nat} (h : Reports s t) : Reports s (forceAnalog i v t) :=
  handOver_reports (evaluate_reports (reportForced_reports (.onAnalog h)))

theorem forcePulse_reports {e : PulseIn} {v : Int} (h : Reports s t) : Reports s (forcePulse e v t) :=
  reportForced_reports (.onPulse h)

theorem releaseAnalog_reports {i : AnalogIn} (h : Reports s t) : Reports s (releaseAnalog i t) :=
  .ite (handOver_reports (reportForced_reports (.onAnalog h))) h

theorem releasePulse_reports {e : PulseIn} (h : Reports s t) : Reports s (releasePulse e t) :=
  reportForced_reports (.onPulse h)

/-! ## The floor -/

theorem linkFoundLost_reports (h : Reports s t) : Reports s (linkFoundLost t) := .report (.onFloor h)

theorem supervisionExpires_reports (h : Reports s t) : Reports s (supervisionExpires t) := by
  unfold supervisionExpires
  refine .ite ?_ h
  dsimp only
  split
  · exact (enterFallback_touches _).reports (linkFoundLost_reports (.onFloor h))
  · exact linkFoundLost_reports (.onFloor h)
  · exact linkFoundLost_reports (.onFloor h)
  · exact .onFloor h

theorem validFrame_reports (h : Reports s t) : Reports s (validFrame t) := by
  have found {u : State} (k : Reports s u) : Reports s (linkFoundAgain u) := .ite (.report (.onFloor k)) k
  exact .ite (.onFloor (found (.onFloor h))) (found (.onFloor h))

theorem graceExpires_reports (h : Reports s t) : Reports s (graceExpires t) :=
  .ite (.each (fun _ _ k => .onDemand k) (.onFloor h)) h

theorem enterStandbyMode_reports (h : Reports s t) : Reports s (enterStandbyMode t) :=
  (channelsToOut_touches _).reports
    (.each (fun _ _ => fanToStandby_reports) ((stopGrates_touches _).reports (.onFloor h)))

theorem settleExpires_reports (h : Reports s t) : Reports s (settleExpires t) := by
  unfold settleExpires
  dsimp only
  have resumed {f : Floor → Floor} : Reports s (fansResume (settleInputs (t.onFloor f))) :=
    fansResume_reports (.each (fun _ _ => settleInput_reports) (.onFloor h))
  exact .ite (.ite ((enterFallback_touches _).reports resumed) resumed) h

theorem modeSecond_reports (h : Reports s t) : Reports s (modeSecond t) := by
  unfold modeSecond
  split
  · exact h
  all_goals exact .onTotals h

theorem planCycleExpires_reports (h : Reports s t) : Reports s (planCycleExpires t) :=
  have forced {u : State} (k : Reports s u) : Reports s (forcedSecond u) := .ite (.onTotals k) k
  .ite (modeSecond_reports (coolerCycle_reports (firingSeconds_reports
    (forced (planAndDose_reports (.onPlanner h)))))) h

/-! ## The store and the load -/

theorem saveCompletes_reports {readBack : Option (List Byte)} (h : Reports s t) :
    Reports s (saveCompletes readBack t) := by
  unfold saveCompletes
  split
  · exact h
  · exact .report (.onStore h)

theorem reportImage_reports {state : ImageState} (h : Reports s t) : Reports s (reportImage state t) := by
  cases state with
  | valid => exact h
  | blank => exact .report h
  | invalid => exact .report h

theorem reportPins_reports (h : Reports s t) : Reports s (reportPins t) := by
  have loop : Reports s (if stopLoopClosed t then t else emergencyStop t) := .ite h (emergencyStop_reports h)
  exact .ite loop (crusherStopped_reports loop)

end

end Sys2Proof.Machine
end

section
/-! PROOFS. Chapter 6, the alarm table: every step keeps the facts of the list and the queue (R122). -/

namespace Sys2Proof.Machine

/-! ## Events that do more than report conditions -/

theorem closeShift_keepsAlarmInv (reason : CloseReason) {s : State} (h : AlarmInv s) : AlarmInv (closeShift reason s) :=
  closeAlarms_keepsAlarmInv (h.of_alarm rfl)

theorem secondExpires_keepsAlarmInv {s : State} (h : AlarmInv s) : AlarmInv (secondExpires s) := by
  have ticked : AlarmInv (s.onShift Shift.ticked) := h.of_alarm rfl
  have closed := AlarmInv.ite (c := boundaryTest (s.onShift Shift.ticked))
    (closeShift_keepsAlarmInv .boundary ticked) ticked
  exact .ite (.ite (minuteEvent_keepsAlarmInv closed) closed) h

/-- A full reset leaves the Alarm Table as a start sets it, whatever it was. -/
theorem fullReset_keepsAlarmInv (cause : ResetCause) (phase : RunPhase) (s : State) :
    AlarmInv (fullReset cause phase s) :=
  alarmInv_of_start (set := (stopSave s).live) rfl

theorem completeLoad_keepsAlarmInv (s : State) : AlarmInv (completeLoad s) :=
  (reportPins_reports (reportImage_reports .refl)).keeps
    (alarmInv_of_start (set := (judgeImage s.store.image).2) rfl)

theorem tick_keepsAlarmInv {s : State} (h : AlarmInv s) : AlarmInv (tick s) := by
  unfold tick
  split
  · exact h
  · exact h.of_alarm rfl
  · exact h.of_alarm rfl

/-! ## Requests -/

theorem applyAfter_alarm (a : After) (s : State) : (applyAfter a s).alarm = s.alarm := by
  cases a with
  | nothing => rfl
  | clearIdent => rfl
  | clearCounters => rfl
  | clearChannel c => rfl

theorem answered_keepsAlarmInv {r : State × Ans} (h : AlarmInv r.1) : AlarmInv (answered r) :=
  h.of_alarm (applyAfter_alarm _ _)

/-- Whatever a service answers, the law holds after it. -/
def Service.KeepsAlarmInv (f : Service) : Prop := ∀ s : State, AlarmInv s → AlarmInv (f s).1

/-- A service that reaches the Alarm Table by condition reports alone. -/
theorem Service.KeepsAlarmInv.of_reports {f : Service} (h : ∀ s, Reports s (f s).1) : Service.KeepsAlarmInv f :=
  fun s inv => (h s).keeps inv

theorem Reports.answer {s t : State} {a : Ans} (h : Reports s t) : Reports s (t, a).1 := h

/-- A branch of a service between two answers. -/
theorem Reports.iteAnswer {s : State} {x y : State × Ans} {c : Prop} [Decidable c] (h : Reports s x.1)
    (k : Reports s y.1) : Reports s (if c then x else y).1 := by split <;> assumption

theorem takeRequest_keepsAlarmInv {f : Service} (keeps : f.KeepsAlarmInv) {s : State} (h : AlarmInv s) :
    AlarmInv (takeRequest f s) := by
  unfold takeRequest
  split
  · exact h
  · exact answered_keepsAlarmInv h
  · exact answered_keepsAlarmInv (keeps s h)

/-! ### Requests that name a channel, a burner, a section or a point -/

theorem forChannel_keepsAlarmInv {k : Nat} {f : Channel → Service} (h : ∀ c, (f c).KeepsAlarmInv) :
    (forChannel k f).KeepsAlarmInv := by
  intro s inv
  unfold forChannel
  split
  · exact inv
  · exact h _ s inv

theorem forBurner_keepsAlarmInv {k : Nat} {f : Burner → Service} (h : ∀ b, (f b).KeepsAlarmInv) :
    (forBurner k f).KeepsAlarmInv := by
  intro s inv
  unfold forBurner
  split
  · exact inv
  · exact h _ s inv

theorem forGrate_keepsAlarmInv {k : Nat} {f : Grate → Service} (h : ∀ g, (f g).KeepsAlarmInv) :
    (forGrate k f).KeepsAlarmInv := by
  intro s inv
  unfold forGrate
  split
  · exact inv
  · exact h _ s inv

theorem forPoint_keepsAlarmInv {k : Nat} {f : Point → Service} (h : ∀ p, (f p).KeepsAlarmInv) :
    (forPoint k f).KeepsAlarmInv := by
  intro s inv
  unfold forPoint
  split
  · exact inv
  · exact h _ s inv

/-! ### Requests that read -/

theorem linkRead_keepsAlarmInv (clear : Nat) : (linkRead clear).KeepsAlarmInv :=
  .of_reports fun s => by unfold linkRead; split <;> exact .refl

theorem channelRead_keepsAlarmInv (k clear : Nat) : (channelRead k clear).KeepsAlarmInv :=
  .of_reports fun s => by unfold channelRead; split <;> exact .refl

theorem coolerRead_keepsAlarmInv (item number : Nat) : (coolerRead item number).KeepsAlarmInv :=
  .of_reports fun s => by
    unfold coolerRead
    refine .iteAnswer ?_ (.iteAnswer ?_ (.iteAnswer (.iteAnswer .refl .refl) .refl))
    · split <;> exact .refl
    · split <;> exact .refl

theorem inputRead_keepsAlarmInv (cls number : Nat) : (inputRead cls number).KeepsAlarmInv :=
  .of_reports fun s => by
    unfold inputRead
    refine .iteAnswer ?_ (.iteAnswer ?_ (.iteAnswer ?_ .refl))
    · split <;> exact .refl
    · split <;> exact .refl
    · split <;> exact .refl

theorem listRead_keepsAlarmInv (part start : Nat) : (listRead part start).KeepsAlarmInv :=
  .of_reports fun s => by
    unfold listRead
    exact .iteAnswer .refl (.iteAnswer (.iteAnswer .refl .refl) .refl)

theorem settingsRead_keepsAlarmInv (item index : Nat) : (settingsRead item index).KeepsAlarmInv :=
  .of_reports fun s => by unfold settingsRead; split <;> exact .refl

/-! ### Requests of the channels and the burners -/

theorem serviceIn_keepsAlarmInv (c : Channel) : (serviceIn c).KeepsAlarmInv :=
  .of_reports fun s => by
    unfold serviceIn
    split
    · exact .iteAnswer .refl (.iteAnswer .refl
        (.iteAnswer ((enterDosing_touches _ _).reports .refl) (.onChan .refl)))
    all_goals exact .refl

theorem serviceOut_keepsAlarmInv (c : Channel) : (serviceOut c).KeepsAlarmInv :=
  .of_reports fun s => by
    unfold serviceOut
    split
    · exact .onChan .refl
    · exact .report (.onChan .refl)
    all_goals exact .refl

theorem resetChannel_keepsAlarmInv (c : Channel) : (resetChannel c).KeepsAlarmInv :=
  .of_reports fun s => by
    unfold resetChannel
    split
    · exact .iteAnswer .refl
        (.ite ((enterDosing_touches _ _).reports (.report (.onChan .refl))) (.report (.onChan .refl)))
    all_goals exact .refl

theorem startStage_keepsAlarmInv (kind : StageKind) (c : Channel) (testLoad : Option Nat) (duration : Nat) :
    (startStage kind c testLoad duration).KeepsAlarmInv :=
  .of_reports fun s => by
    unfold startStage
    exact .iteAnswer .refl (.iteAnswer .refl (.iteAnswer .refl (.iteAnswer .refl (.iteAnswer .refl (.onChan .refl)))))

theorem calibrateZero_keepsAlarmInv (k duration : Nat) : (calibrateZero k duration).KeepsAlarmInv := by
  intro s inv
  unfold calibrateZero
  split
  · exact forChannel_keepsAlarmInv (fun c => startStage_keepsAlarmInv _ c _ _) s inv
  · exact inv

theorem calibrateSpan_keepsAlarmInv (k testLoad duration : Nat) :
    (calibrateSpan k testLoad duration).KeepsAlarmInv := by
  intro s inv
  unfold calibrateSpan
  split
  · exact forChannel_keepsAlarmInv (fun c => startStage_keepsAlarmInv _ c _ _) s inv
  · exact inv

theorem calibrateAbort_keepsAlarmInv (c : Channel) : (calibrateAbort c).KeepsAlarmInv :=
  .of_reports fun _ => (abortStage_touches _ _ _).reports .refl

theorem heatSet_keepsAlarmInv (demand : Nat) (b : Burner) : (heatSet demand b).KeepsAlarmInv :=
  .of_reports fun _ => .onDemand .refl

theorem burnerLight_keepsAlarmInv (b : Burner) : (burnerLight b).KeepsAlarmInv :=
  .of_reports fun s => by
    unfold burnerLight
    split
    · split
      · exact .refl
      · exact (purgeJudged_touches _ _).reports (.onBurn .refl)
    all_goals exact .refl

theorem burnerStop_keepsAlarmInv (b : Burner) : (burnerStop b).KeepsAlarmInv :=
  .of_reports fun _ => .ite (stopBurner_reports (stopBurner_reports .refl)) (stopBurner_reports .refl)

theorem burnerResetTrip_keepsAlarmInv (b : Burner) : (burnerResetTrip b).KeepsAlarmInv :=
  .of_reports fun s => by
    unfold burnerResetTrip
    split
    · split
      · exact .refl
      · exact .report (.onBurn .refl)
    · exact .refl

/-! ### Requests of the cooler, the inputs and the floor -/

theorem coolerSet_keepsAlarmInv (mode rate forward ret dead : Nat) (g : Grate) :
    (coolerSet mode rate forward ret dead g).KeepsAlarmInv :=
  .of_reports fun s => by
    unfold coolerSet
    exact .iteAnswer ((restage_touches _ _).reports (.onLive .refl)) .refl

theorem grateRun_keepsAlarmInv (g : Grate) : (grateRun g).KeepsAlarmInv :=
  .of_reports fun s => by
    unfold grateRun
    split
    · exact .refl
    · exact .onGrate .refl
    · exact .refl
    · split
      · exact .refl
      · exact (startGrateStroke_touches _ _ _).reports .refl

theorem grateSingle_keepsAlarmInv (g : Grate) : (grateSingle g).KeepsAlarmInv :=
  .of_reports fun s => by
    unfold grateSingle
    split
    · exact .onGrate .refl
    · exact .refl
    · exact .refl
    · split
      · exact .refl
      · exact (startGrateStroke_touches _ _ _).reports .refl

theorem grateStop_keepsAlarmInv (g : Grate) : (grateStop g).KeepsAlarmInv :=
  .of_reports fun _ => (stopGrate_touches _ _).reports .refl

theorem grateReset_keepsAlarmInv (g : Grate) : (grateReset g).KeepsAlarmInv :=
  .of_reports fun s => by
    unfold grateReset
    split
    · exact .report (.onGrate .refl)
    all_goals exact .refl

theorem fanSet_keepsAlarmInv (k on target : Nat) : (fanSet k on target).KeepsAlarmInv :=
  .of_reports fun s => by
    unfold fanSet
    split
    · exact .iteAnswer
        (computeDamper_reports (.onFan (.ite (.ite .refl (.onFan .refl)) (.reportIf (.onFan .refl))))) .refl
    · exact .refl

theorem inputForce_keepsAlarmInv (cls number : Nat) (value : Int) : (inputForce cls number value).KeepsAlarmInv :=
  .of_reports fun s => by
    unfold inputForce
    split
    · split
      · exact .refl
      · exact .iteAnswer (.iteAnswer .refl (forceAnalog_reports .refl)) .refl
    · split
      · split
        · exact .refl
        · exact .iteAnswer (forcePulse_reports .refl) .refl
      · exact .refl

theorem inputRelease_keepsAlarmInv (cls number : Nat) : (inputRelease cls number).KeepsAlarmInv :=
  .of_reports fun s => by
    unfold inputRelease
    split
    · split
      · exact .refl
      · exact releaseAnalog_reports .refl
    · split
      · split
        · exact .refl
        · exact releasePulse_reports .refl
      · exact .refl

theorem enterStandby_keepsAlarmInv : enterStandby.KeepsAlarmInv :=
  .of_reports fun s => by
    unfold enterStandby
    exact .iteAnswer .refl (.iteAnswer .refl (.iteAnswer .refl (.answer (enterStandbyMode_reports .refl))))

theorem leaveStandby_keepsAlarmInv : leaveStandby.KeepsAlarmInv :=
  .of_reports fun s => by
    unfold leaveStandby
    exact .iteAnswer (.answer (unsettleInputs_reports (.onFloor .refl))) .refl

/-! ### Requests of the Alarm Table -/

theorem ackTop_keepsAlarmInv : ackTop.KeepsAlarmInv := by
  intro s inv
  unfold ackTop
  split
  · exact inv
  · exact ackPoint_keepsAlarmInv _ inv

theorem ackOne_keepsAlarmInv (p : Point) : (ackOne p).KeepsAlarmInv := fun _ inv => ackPoint_keepsAlarmInv p inv

theorem ackEvery_keepsAlarmInv : ackEvery.KeepsAlarmInv := fun s _ => ackAll_keepsAlarmInv s

theorem shelve_keepsAlarmInv (duration : Nat) (p : Point) : (shelve duration p).KeepsAlarmInv := by
  intro s inv
  unfold shelve
  split
  · exact inv
  · split
    · exact inv
    · exact shelvePoint_keepsAlarmInv p _ inv

theorem unshelve_keepsAlarmInv (p : Point) : (unshelve p).KeepsAlarmInv := fun _ inv => expireShelve_keepsAlarmInv p inv

theorem disable_keepsAlarmInv (p : Point) : (disable p).KeepsAlarmInv := by
  intro s inv
  unfold disable
  split
  · exact inv
  · exact disablePoint_keepsAlarmInv p inv

theorem enable_keepsAlarmInv (p : Point) : (enable p).KeepsAlarmInv := by
  intro s inv
  unfold enable
  dsimp only
  split
  next disabled => exact resumePoint_keepsAlarmInv inv (isUnacked_of_state disabled)
  next => exact inv

theorem external_keepsAlarmInv (present : Bool) (p : Point) : (external present p).KeepsAlarmInv := by
  intro s inv
  unfold external
  split
  · exact inv
  · exact reportCond_keepsAlarmInv p present inv

theorem silence_keepsAlarmInv : silence.KeepsAlarmInv := fun _ inv => inv.of_same rfl rfl fun _ => rfl

/-! ### Requests of the totaliser and the store -/

theorem clockSet_keepsAlarmInv (seconds day : Nat) : (clockSet seconds day).KeepsAlarmInv :=
  .of_reports fun s => by
    unfold clockSet
    exact .iteAnswer (.answer (.onShift .refl)) .refl

theorem shiftClose_keepsAlarmInv : shiftClose.KeepsAlarmInv := fun _ inv => closeShift_keepsAlarmInv .command inv

theorem openTransfer_reports (x : Transfer) (newest : Bool) (s : State) : Reports s (openTransfer x newest s) :=
  .onShift .refl

theorem reportOpen_keepsAlarmInv (source form : Nat) : (reportOpen source form).KeepsAlarmInv :=
  .of_reports fun s => by
    unfold reportOpen
    split
    · exact .refl
    · split
      · exact openTransfer_reports _ _ s
      · split
        · split
          · exact .refl
          · exact openTransfer_reports _ _ s
        · exact .refl

theorem reportPart_keepsAlarmInv (part : Nat) : (reportPart part).KeepsAlarmInv :=
  .of_reports fun s => by
    unfold reportPart
    split
    · exact .refl
    · split
      · exact .answer (.onShift .refl)
      · exact .iteAnswer .refl .refl

theorem writeOne_keepsAlarmInv (r : Ref) (v : Int) : (writeOne r v).KeepsAlarmInv :=
  .of_reports fun s => by
    unfold writeOne
    split
    · exact .refl
    · exact (storeItem_touches _ _ _).reports .refl

theorem writeInstance_reports {s : State} (item : Nat) (v : Int) (a : AllWrite) (index : Nat) (h : Reports s a.state) :
    Reports s (writeInstance item v a index).state := by
  unfold writeInstance
  split
  · exact h
  · split
    · exact h
    · exact (storeItem_touches _ _ _).reports h

theorem writeInstances_reports {s : State} (item : Nat) (v : Int) (l : List Nat) (a : AllWrite)
    (h : Reports s a.state) : Reports s (l.foldl (fun a k => writeInstance item v a (k + 1)) a).state := by
  induction l generalizing a with
  | nil => exact h
  | cons k l ih => exact ih _ (writeInstance_reports item v a (k + 1) h)

theorem writeAll_keepsAlarmInv (item n : Nat) (v : Int) : (writeAll item n v).KeepsAlarmInv :=
  .of_reports fun _ => writeInstances_reports item v _ _ .refl

theorem settingsWrite_keepsAlarmInv (item index : Nat) (v : Int) : (settingsWrite item index v).KeepsAlarmInv := by
  intro s inv
  unfold settingsWrite
  split
  · split
    · exact writeAll_keepsAlarmInv item _ v s inv
    · exact inv
    · exact inv
  · split
    · exact inv
    · exact writeOne_keepsAlarmInv _ v s inv

theorem settingsSave_keepsAlarmInv : settingsSave.KeepsAlarmInv :=
  .of_reports fun s => by
    unfold settingsSave
    split
    · exact .refl
    · exact .answer (.onStore .refl)

/-! ### Every request -/

/-- The owner of every request keeps the law. -/
theorem serviceOf_keepsAlarmInv {i : Instr} {f : Service} (h : serviceOf i = some f) : f.KeepsAlarmInv := by
  cases i with
  | statusRead => cases h; exact .of_reports fun _ => .refl
  | identRead => cases h; exact .of_reports fun _ => .refl
  | linkRead clear => cases h; exact linkRead_keepsAlarmInv clear
  | linkEcho bytes => cases h; exact .of_reports fun _ => .refl
  | clockSet seconds day => cases h; exact clockSet_keepsAlarmInv seconds day
  | heatSet burner demand => cases h; exact forBurner_keepsAlarmInv (heatSet_keepsAlarmInv demand)
  | channelRead channel clear => cases h; exact channelRead_keepsAlarmInv channel clear
  | channelServiceIn channel => cases h; exact forChannel_keepsAlarmInv serviceIn_keepsAlarmInv
  | channelServiceOut channel => cases h; exact forChannel_keepsAlarmInv serviceOut_keepsAlarmInv
  | channelReset channel => cases h; exact forChannel_keepsAlarmInv resetChannel_keepsAlarmInv
  | calibrateZero channel duration => cases h; exact calibrateZero_keepsAlarmInv channel duration
  | calibrateSpan channel testLoad duration => cases h; exact calibrateSpan_keepsAlarmInv channel testLoad duration
  | calibrateAbort channel => cases h; exact forChannel_keepsAlarmInv calibrateAbort_keepsAlarmInv
  | burnerRead burner => cases h; exact forBurner_keepsAlarmInv fun _ => .of_reports fun _ => .refl
  | burnerLight burner => cases h; exact forBurner_keepsAlarmInv burnerLight_keepsAlarmInv
  | burnerStop burner => cases h; exact forBurner_keepsAlarmInv burnerStop_keepsAlarmInv
  | burnerResetTrip burner => cases h; exact forBurner_keepsAlarmInv burnerResetTrip_keepsAlarmInv
  | coolerRead item number => cases h; exact coolerRead_keepsAlarmInv item number
  | coolerSet grate mode rate forward ret dead =>
    cases h; exact forGrate_keepsAlarmInv (coolerSet_keepsAlarmInv mode rate forward ret dead)
  | grateRun grate => cases h; exact forGrate_keepsAlarmInv grateRun_keepsAlarmInv
  | grateSingle grate => cases h; exact forGrate_keepsAlarmInv grateSingle_keepsAlarmInv
  | grateStop grate => cases h; exact forGrate_keepsAlarmInv grateStop_keepsAlarmInv
  | grateReset grate => cases h; exact forGrate_keepsAlarmInv grateReset_keepsAlarmInv
  | fanSet fan on target => cases h; exact fanSet_keepsAlarmInv fan on target
  | inputRead cls number => cases h; exact inputRead_keepsAlarmInv cls number
  | inputForce cls number value => cases h; exact inputForce_keepsAlarmInv cls number value
  | inputRelease cls number => cases h; exact inputRelease_keepsAlarmInv cls number
  | alarmRead point => cases h; exact forPoint_keepsAlarmInv fun _ => .of_reports fun _ => .refl
  | listRead part start => cases h; exact listRead_keepsAlarmInv part start
  | alarmAckTop => cases h; exact ackTop_keepsAlarmInv
  | alarmAckPoint point => cases h; exact forPoint_keepsAlarmInv ackOne_keepsAlarmInv
  | alarmAckAll => cases h; exact ackEvery_keepsAlarmInv
  | alarmShelve point duration => cases h; exact forPoint_keepsAlarmInv (shelve_keepsAlarmInv duration)
  | alarmUnshelve point => cases h; exact forPoint_keepsAlarmInv unshelve_keepsAlarmInv
  | alarmDisable point => cases h; exact forPoint_keepsAlarmInv disable_keepsAlarmInv
  | alarmEnable point => cases h; exact forPoint_keepsAlarmInv enable_keepsAlarmInv
  | alarmRaise point => cases h; exact forPoint_keepsAlarmInv (external_keepsAlarmInv true)
  | alarmClear point => cases h; exact forPoint_keepsAlarmInv (external_keepsAlarmInv false)
  | hornSilence => cases h; exact silence_keepsAlarmInv
  | shiftClose => cases h; exact shiftClose_keepsAlarmInv
  | reportOpen source form => cases h; exact reportOpen_keepsAlarmInv source form
  | reportPart part => cases h; exact reportPart_keepsAlarmInv part
  | enterStandby => cases h; exact enterStandby_keepsAlarmInv
  | leaveStandby => cases h; exact leaveStandby_keepsAlarmInv
  | settingsRead item index => cases h; exact settingsRead_keepsAlarmInv item index
  | settingsWrite item index value => cases h; exact settingsWrite_keepsAlarmInv item index value
  | settingsSave => cases h; exact settingsSave_keepsAlarmInv
  | restart _ => cases h; exact .of_reports fun _ => .refl
  | _ => cases h

/-- A request row is its owner's taking of the request; RESTART's reply goes through the link (log entries 8, 11). -/
theorem exec_request {i : Instr} {f : Service} (s : State) (h : serviceOf i = some f)
    (other : ∀ seq, i ≠ .restart seq) : exec i s = .next (takeRequest f s) := by
  cases i with
  | restart seq => exact absurd rfl (other seq)
  | _ => cases h <;> rfl

/-! ## The link -/

theorem serve_keepsAlarmInv {f : Service} (keeps : f.KeepsAlarmInv) (seq kind : Byte) {s : State} (h : AlarmInv s) :
    AlarmInv (serve seq kind f s) := (answered_keepsAlarmInv (keeps s h)).of_alarm rfl

theorem meetRequest_keepsAlarmInv {f : Service} (keeps : f.KeepsAlarmInv) (seq kind : Byte) {s : State}
    (h : AlarmInv s) : AlarmInv (meetRequest seq kind f s) :=
  .ite (h.of_alarm rfl)
    (.ite (serve_keepsAlarmInv keeps seq kind h) (serve_keepsAlarmInv (.of_reports fun _ => .refl) seq kind h))

theorem requestService_keepsAlarmInv (kind seq : Byte) (payload : List Byte) :
    (requestService kind seq payload).KeepsAlarmInv := by
  unfold requestService
  split
  · exact .of_reports fun _ => .refl
  next i _ =>
    cases owner : serviceOf i with
    | none => exact .of_reports fun _ => .refl
    | some f => exact serviceOf_keepsAlarmInv owner

theorem acceptFrame_keepsAlarmInv (seq kind : Byte) (payload : List Byte) {s : State} (h : AlarmInv s) :
    AlarmInv (acceptFrame seq kind payload s) :=
  meetRequest_keepsAlarmInv (requestService_keepsAlarmInv kind seq payload) seq kind
    (.ite ((validFrame_reports .refl).keeps h) h)

theorem completeFrame_keepsAlarmInv (low : Byte) {s : State} (h : AlarmInv s) : AlarmInv (completeFrame low s) :=
  .ite (acceptFrame_keepsAlarmInv _ _ _ (h.of_alarm rfl)) (h.of_alarm rfl)

theorem takeByte_keepsAlarmInv (b : Byte) {s : State} (h : AlarmInv s) : AlarmInv (takeByte b s) := by
  unfold takeByte
  split
  · exact .ite (h.of_alarm rfl) h
  · exact .ite (h.of_alarm rfl) (h.of_alarm rfl)
  · exact h.of_alarm rfl
  · exact h.of_alarm rfl
  · exact h.of_alarm rfl
  · exact h.of_alarm rfl
  · exact completeFrame_keepsAlarmInv b h

theorem byteArrives_keepsAlarmInv (b : Byte) (stopBit : Bool) {s : State} (h : AlarmInv s) :
    AlarmInv (byteArrives b stopBit s) := .ite h (.ite (takeByte_keepsAlarmInv b h) (h.of_alarm rfl))

theorem gapExpires_keepsAlarmInv {s : State} (h : AlarmInv s) : AlarmInv (gapExpires s) := .ite (h.of_alarm rfl) h

theorem transmissionCompletes_keepsAlarmInv {s : State} (h : AlarmInv s) : AlarmInv (transmissionCompletes s) := by
  unfold transmissionCompletes
  split
  · exact h
  · exact .ite (fullReset_keepsAlarmInv _ _ _) (h.of_alarm rfl)

theorem breakLine_keepsAlarmInv {s : State} (h : AlarmInv s) : AlarmInv (breakLine s) :=
  .ite h (.ite (fullReset_keepsAlarmInv _ _ _) (h.of_alarm rfl))

/-! ## Every step -/

theorem whenRunning_keepsAlarmInv {f : State → State} (keeps : ∀ s, AlarmInv s → AlarmInv (f s)) {s : State}
    (h : AlarmInv s) : AlarmInv (whenRunning f s) := .ite (keeps s h) h

theorem whenRunning_reports {f : State → State} {s : State} (h : Reports s (f s)) : Reports s (whenRunning f s) :=
  .ite h .refl

theorem whenLinked_keepsAlarmInv {f : State → State} (keeps : ∀ s, AlarmInv s → AlarmInv (f s)) {s : State}
    (h : AlarmInv s) : AlarmInv (whenLinked f s) := .ite h (keeps s h)

/-- Every event keeps the law. -/
theorem exec_event_keepsAlarmInv {i : Instr} {s t : State} (event : serviceOf i = none) (h : AlarmInv s)
    (next : exec i s = .next t) : AlarmInv t := by
  cases i with
  | analogSampleArrival input sample => cases next; exact (whenRunning_reports (takeSample_reports .refl)).keeps h
  | alarmPoint b p => cases next; exact (whenRunning_reports (takeHanded_reports .refl)).keeps h
  | quadratureEdge e levelA levelB => cases next; exact (takeEdge_reports .refl).keeps h
  | discretePinChange d level => cases next; exact (movePin_reports .refl).keeps h
  | debounceExpiry d => cases next; exact (whenRunning_reports (debounceExpires_reports .refl)).keeps h
  | emergencyStopTrip b => cases next; exact (whenRunning_reports (takeHanded_reports .refl)).keeps h
  | mainLost => cases next; exact (whenRunning_reports (takeHanded_reports .refl)).keeps h
  | planCycleExpiry => cases next; exact (whenRunning_reports (planCycleExpires_reports .refl)).keeps h
  | holdTimerExpiry c => cases next; exact (whenRunning_reports (holdExpires_reports .refl)).keeps h
  | stageTimerExpiry c => cases next; exact (whenRunning_reports (stageExpires_reports .refl)).keeps h
  | purgeTimerExpiry b => cases next; exact (whenRunning_reports (purgeExpires_reports .refl)).keeps h
  | trialTimerExpiry b => cases next; exact (whenRunning_reports (trialExpires_reports .refl)).keeps h
  | stabiliseTimerExpiry b => cases next; exact (whenRunning_reports (stabiliseExpires_reports .refl)).keeps h
  | forwardExpiry g => cases next; exact (whenRunning_reports (forwardExpires_reports .refl)).keeps h
  | deadAExpiry g => cases next; exact (whenRunning_reports (deadAExpires_reports .refl)).keeps h
  | returnExpiry g => cases next; exact (whenRunning_reports (returnExpires_reports .refl)).keeps h
  | restExpiry g => cases next; exact (whenRunning_reports (restExpires_reports .refl)).keeps h
  | returnGuardEnd g => cases next; exact (whenRunning_reports (guardExpires_reports .refl)).keeps h
  | secondTimerExpiry => cases next; exact whenRunning_keepsAlarmInv (fun _ => secondExpires_keepsAlarmInv) h
  | shelveExpiry p => cases next; exact whenRunning_keepsAlarmInv (fun _ => expireShelve_keepsAlarmInv p) h
  | supervisionExpiry => cases next; exact (whenRunning_reports (supervisionExpires_reports .refl)).keeps h
  | graceExpiry => cases next; exact (whenRunning_reports (graceExpires_reports .refl)).keeps h
  | settleExpiry => cases next; exact (whenRunning_reports (settleExpires_reports .refl)).keeps h
  | linkByteArrival byte stopBit =>
    cases next; exact whenLinked_keepsAlarmInv (fun _ => byteArrives_keepsAlarmInv byte stopBit) h
  | gapExpiry => cases next; exact whenLinked_keepsAlarmInv (fun _ => gapExpires_keepsAlarmInv) h
  | transmissionCompletion =>
    cases next; exact whenLinked_keepsAlarmInv (fun _ => transmissionCompletes_keepsAlarmInv) h
  | linkBreak => cases next; exact whenLinked_keepsAlarmInv (fun _ => breakLine_keepsAlarmInv) h
  | powerOn => cases next; exact fullReset_keepsAlarmInv _ _ s
  | supplyDip => cases next; exact fullReset_keepsAlarmInv _ _ s
  | resetPin => cases next; exact fullReset_keepsAlarmInv _ _ s
  | resetRelease => cases next; exact .ite (h.of_alarm rfl) h
  | loadCompletion => cases next; exact .ite (completeLoad_keepsAlarmInv s) h
  | saveCompletion readBack => cases next; exact (whenRunning_reports (saveCompletes_reports .refl)).keeps h
  | breakEnd => cases next; exact h.of_alarm rfl
  | _ => cases event

theorem exec_keepsAlarmInv {i : Instr} {s t : State} (h : AlarmInv s) (next : exec i s = .next t) : AlarmInv t := by
  cases owner : serviceOf i with
  | none => exact exec_event_keepsAlarmInv owner h next
  | some f =>
    have keeps := serviceOf_keepsAlarmInv owner
    by_cases restart : ∃ seq, i = .restart seq
    · obtain ⟨seq, rfl⟩ := restart
      cases next
      exact whenLinked_keepsAlarmInv (fun _ => meetRequest_keepsAlarmInv (.of_reports fun _ => .refl) seq _) h
    · rw [exec_request s owner fun seq e => restart ⟨seq, e⟩] at next
      cases next
      exact takeRequest_keepsAlarmInv keeps h

theorem idle_keepsAlarmInv {s t : State} (h : AlarmInv s) (next : idle s = .next t) : AlarmInv t := by
  unfold idle at next
  split at next
  · cases next
    exact tick_keepsAlarmInv h
  · exact exec_keepsAlarmInv h next
  · exact exec_keepsAlarmInv (s := s.drawn) (h.of_alarm rfl) next

/-- Settles O52: a step is the command at the front of the queue, the one that is due, or 1 ms. -/
theorem stepKeepsAlarmInv : Obligations.StepKeepsAlarmInv := by
  intro s t h next
  unfold step at next
  split at next
  next => exact idle_keepsAlarmInv h next
  next c rest _ => exact exec_keepsAlarmInv (s := { s with pending := rest }) (h.of_alarm rfl) next

end Sys2Proof.Machine
end

section
/-! PROOFS. What the laws of every step speak of: an outline of the state, the changes that can happen to an outline, and
that each change keeps each law (R43, R46, R69, R86 to R96, R122, R141, R155). -/

namespace Sys2Proof.Machine

-- One proof at a time: proofs that wait for one another hold a thread each, and the threads' memory is bounded.
set_option Elab.async false

/-! ## The outline -/

/-- What the laws speak of in a channel: its state, drive and trim (R41), its hold and fault conditions (R43), and the
settings that bound them (R40). -/
@[ext] structure ChanOutline where
  state : ChanState
  u : Nat
  trim : Int
  hold : Bool
  fault : Bool
  assign : Assign
  trimLimit : Nat
  calDrive : Nat

/-- What the laws speak of in a section (R86, R90). -/
@[ext] structure GrateOutline where
  state : GrateState
  runOut : Bool
  phase : Option Phase
  guarded : Bool

/-- What the laws of every step speak of. `held`: the point is SHELVED or DISABLED; `seqs`: the numbers of the reports in
the ring; `pending`: the queue, which no command touches. -/
@[ext] structure Outline where
  chan : Channel → ChanOutline
  burner : Burner → BurnState
  grate : Grate → GrateOutline
  mode : FloorMode
  held : Point → Bool
  target : Point → TripTarget
  seqs : List Nat
  nextSeq : Nat
  pending : List Instr

/-- R117: SHELVED or DISABLED, where a condition trips no burner that is lighting. -/
def PointState.isHeld (x : PointState) : Bool := decide (x = .shelved ∨ x = .disabled)

/-- What the laws speak of in a section's record. -/
def GrateRec.outline (x : GrateRec) : GrateOutline := ⟨x.state, x.runOut, x.phase, x.guard.isSome⟩

/-- What the laws speak of in a channel, from its record, its two points and its settings. -/
def chanOutline (x : Chan) (hold fault : PointRec) (set : ChanSet) : ChanOutline :=
  ⟨x.state, x.u, x.trim, hold.cond, fault.cond, set.assign, set.trimLimit, set.calDrive⟩

/-- The outline of a state. -/
def State.outline (s : State) : Outline where
  chan c := chanOutline s.chans[c] s.alarm.points[holdPoint c] s.alarm.points[faultPoint c] s.live.chans[c]
  burner b := (s.burns.get b).state
  grate g := s.cooler.grates[g].outline
  mode := s.floor.mode
  held p := s.alarm.points[p].state.isHeld
  target := tripTarget s
  seqs := s.shift.ring.map Report.seq
  nextSeq := s.shift.nextSeq
  pending := s.pending

/-- The outline with that of one channel changed. -/
def Outline.onChan (c : Channel) (f : ChanOutline → ChanOutline) (v : Outline) : Outline :=
  { v with chan := Function.update v.chan c (f (v.chan c)) }

/-- The outline with that of one section changed. -/
def Outline.onGrate (g : Grate) (f : GrateOutline → GrateOutline) (v : Outline) : Outline :=
  { v with grate := Function.update v.grate g (f (v.grate g)) }

/-- The outline with a burner in another state. -/
def Outline.setBurner (b : Burner) (x : BurnState) (v : Outline) : Outline :=
  { v with burner := Function.update v.burner b x }

/-- The outline with a point held back, or no longer. -/
def Outline.setHeld (p : Point) (x : Bool) (v : Outline) : Outline := { v with held := Function.update v.held p x }

/-- Is a channel with this assignment one of the burner's (R40)? -/
def Assign.feeds (a : Assign) (b : Burner) : Bool :=
  match b with
  | .main => decide (a = .main)
  | .calciner => decide (a = .calciner)

/-- Does a burner with this channel assigned to it fire? -/
def Outline.fires (v : Outline) (c : Channel) : Prop := ∃ b, (v.chan c).assign.feeds b = true ∧ v.burner b = .firing

/-- Is a point held back whose trip target includes the burner (R117)? -/
def Outline.inhibited (v : Outline) (b : Burner) : Prop := ∃ p, (v.target p).includes b = true ∧ v.held p = true

/-! ## The laws, in the terms of an outline -/

/-- R43, of one channel. -/
structure ChanOutline.DriveLaw (x : ChanOutline) : Prop where
  still : x.state = .out ∨ x.state = .idle ∨ x.state = .fault → x.u = 0
  top : x.u ≤ 10000
  low : -(x.trimLimit : Int) ≤ x.trim
  high : x.trim ≤ x.trimLimit
  cal : x.calDrive ≤ 10000

/-- R43, of the two conditions of one channel. -/
structure ChanOutline.ConditionLaw (x : ChanOutline) : Prop where
  hold : x.hold = true ↔ x.state = .hold
  fault : x.fault = true ↔ x.state = .fault

/-- R46. -/
def Outline.FollowLaw (v : Outline) : Prop :=
  ∀ c, (v.chan c).state = .dosing ∨ (v.chan c).state = .hold → v.fires c

/-- R69. -/
def Outline.InhibitLaw (v : Outline) : Prop := ∀ b, v.burner b ≠ .off → ¬v.inhibited b

/-- R155. -/
structure Outline.StandbyLaw (v : Outline) : Prop where
  burners : v.mode = .standby ∨ v.mode = .settle → ∀ b, v.burner b = .off
  grates : v.mode = .standby → ∀ g, (v.grate g).state ≠ .running ∧ (v.grate g).state ≠ .single

/-- R141. -/
structure Outline.RingLaw (v : Outline) : Prop where
  short : v.seqs.length ≤ 4
  chain : (v.seqs ++ [v.nextSeq]).IsChain fun a b => b = sequenceAfter a

/-- R86, R90, R91, R95, of one section. -/
structure GrateOutline.StrokeLaw (x : GrateOutline) : Prop where
  closed : x.guarded = true → x.phase ≠ some .forward
  phase : x.phase = none ↔ x.state = .stalled ∨ (x.state = .stopped ∧ x.runOut = false)
  runOut : x.runOut = true → x.state = .stopped

theorem driveInv_iff (s : State) : DriveInv s ↔ ∀ c, (s.outline.chan c).DriveLaw :=
  forall_congr' fun _ =>
    ⟨fun ⟨still, top, low, high, cal⟩ => ⟨still, top, low, high, cal⟩, fun h => ⟨h.still, h.top, h.low, h.high, h.cal⟩⟩

theorem conditionInv_iff (s : State) : ConditionInv s ↔ ∀ c, (s.outline.chan c).ConditionLaw :=
  forall_congr' fun _ => ⟨fun ⟨hold, fault⟩ => ⟨hold, fault⟩, fun h => ⟨h.hold, h.fault⟩⟩

theorem feeds_eq (s : State) (c : Channel) (b : Burner) : feeds s c b = (s.outline.chan c).assign.feeds b := by
  cases b <;> rfl

theorem burnerFires_iff (s : State) (c : Channel) : burnerFires s c = true ↔ s.outline.fires c := by
  simp only [burnerFires, burnerOf, Outline.fires, State.outline, chanOutline]
  cases s.live.chans[c].assign with
  | unassigned => simp only [Bool.false_eq_true, false_iff]; rintro ⟨b, h, -⟩; cases b <;> simp [Assign.feeds] at h
  | main =>
    simp only [fires, decide_eq_true_eq]
    exact ⟨fun h => ⟨.main, rfl, h⟩, fun ⟨b, h, k⟩ => by cases b; exacts [k, absurd h (by decide)]⟩
  | calciner =>
    simp only [fires, decide_eq_true_eq]
    exact ⟨fun h => ⟨.calciner, rfl, h⟩, fun ⟨b, h, k⟩ => by cases b; exacts [absurd h (by decide), k]⟩

theorem followInv_iff (s : State) : FollowInv s ↔ s.outline.FollowLaw :=
  forall_congr' fun c => by rw [burnerFires_iff]; rfl

theorem tripPointInhibited_iff (s : State) (b : Burner) : tripPointInhibited s b = true ↔ s.outline.inhibited b := by
  simp [tripPointInhibited, Outline.inhibited, State.outline, PointState.isHeld]

theorem inhibitInv_iff (s : State) : InhibitInv s ↔ s.outline.InhibitLaw :=
  forall_congr' fun b => by rw [← tripPointInhibited_iff, Bool.not_eq_true]; rfl

theorem standbyInv_iff (s : State) : StandbyInv s ↔ s.outline.StandbyLaw :=
  ⟨fun ⟨burners, grates⟩ => ⟨burners, grates⟩, fun h => ⟨h.burners, h.grates⟩⟩

theorem ringInv_iff (s : State) : RingInv s ↔ s.outline.RingLaw :=
  ⟨fun ⟨short, chain⟩ => ⟨by simpa [State.outline] using short, chain⟩,
    fun h => ⟨by simpa [State.outline] using h.short, h.chain⟩⟩

theorem strokeInv_iff (s : State) : StrokeInv s ↔ ∀ g, (s.outline.grate g).StrokeLaw := by
  refine forall_congr' fun g => ⟨fun ⟨closed, phase, runOut⟩ => ⟨fun h => ?_, phase, runOut⟩,
    fun h => ⟨fun k => ?_, h.phase, h.runOut⟩⟩
  · exact of_decide_eq_false (closed h)
  · exact decide_eq_false (h.closed k)

/-! ## The changes -/

/-- R46: a channel after its burner has left FIRING. -/
def ChanOutline.left (x : ChanOutline) : ChanOutline :=
  if x.state = .dosing ∨ x.state = .hold then
    { x with state := .idle, u := 0, trim := 0, hold := if x.state = .hold then false else x.hold }
  else x

/-- What can happen to one channel; `fires` says that its burner does (R42 to R62). -/
inductive ChanOutline.Change (fires : Prop) (x : ChanOutline) : ChanOutline → Prop where
  | enterHold (was : x.state = .dosing) : Change fires x { x with state := .hold, hold := true }
  | returnFromHold (was : x.state = .hold) : Change fires x { x with state := .dosing, hold := false }
  | enterFault (was : x.state = .dosing ∨ x.state = .hold) :
      Change fires x { x with state := .fault, u := 0, trim := 0, fault := true, hold := if x.state = .hold then false else x.hold }
  | enterDosing (was : x.state = .out ∨ x.state = .idle) (fire : fires) :
      Change fires x { x with state := .dosing, u := 0, trim := 0 }
  | toIdle (was : x.state = .out) : Change fires x { x with state := .idle, u := 0 }
  | toOut (was : x.state = .idle ∨ x.state = .calib) : Change fires x { x with state := .out, u := 0 }
  | faultToOut (was : x.state = .fault) : Change fires x { x with state := .out, u := 0, fault := false }
  | faultToIdle (was : x.state = .fault) : Change fires x { x with state := .idle, u := 0, fault := false }
  | calibrate (was : x.state = .out) : Change fires x { x with state := .calib, u := x.calDrive }
  | drive {u : Nat} {trim : Int} (was : x.state = .dosing) (top : u ≤ 10000)
      (bounded : trim = x.trim ∨ (-(x.trimLimit : Int) ≤ trim ∧ trim ≤ x.trimLimit)) :
      Change fires x { x with u := u, trim := trim }
  | assign {a : Assign} (was : x.state = .out) : Change fires x { x with assign := a }
  | limit {n : Nat} : Change fires x { x with trimLimit := n, trim := clampInt (-n) n x.trim }
  | calDrive {n : Nat} (top : n ≤ 10000) : Change fires x { x with calDrive := n }

/-- R95: a section stopped through the end of its stroke. -/
def GrateOutline.stopped (x : GrateOutline) : GrateOutline :=
  if x.state = .running ∨ x.state = .single then
    if x.phase = some .rest ∨ x.phase = none then { x with state := .stopped, phase := none }
    else { x with state := .stopped, runOut := true }
  else x

/-- R90, R94, R95: a section whose RETURN has ended. -/
def GrateOutline.returned (x : GrateOutline) : GrateOutline :=
  match x.state with
  | .running => { x with guarded := true, phase := some .rest }
  | .single => { x with guarded := true, state := .stopped, phase := none }
  | .stopped => { x with guarded := true, runOut := false, phase := none }
  | .stalled => { x with guarded := true, runOut := false, phase := none }

/-- What can happen to one section; `open` says that the floor is not in STANDBY (R88 to R96). -/
inductive GrateOutline.Change (awake : Prop) (x : GrateOutline) : GrateOutline → Prop where
  | guardEnds : Change awake x { x with guarded := false }
  | forward (phase : x.phase ≠ none) : Change awake x { x with phase := some .forward, guarded := false }
  | deadA (phase : x.phase = some .forward) : Change awake x { x with phase := some .deadA }
  | ret (phase : x.phase = some .deadA) : Change awake x { x with phase := some .ret }
  | returned (phase : x.phase = some .ret) : Change awake x x.returned
  | stall : Change awake x { x with state := .stalled, phase := none, runOut := false }
  | stop : Change awake x x.stopped
  | reset : Change awake x { x with state := .stopped, phase := none, runOut := false }
  | goOn {y : GrateState} (was : x.state = .running ∨ x.state = .single) (now : y = .running ∨ y = .single) :
      Change awake x { x with state := y }
  | takeOver {y : GrateState} (was : x.state = .stopped) (stroke : x.runOut = true) (up : awake)
      (now : y = .running ∨ y = .single) : Change awake x { x with state := y, runOut := false }
  | wait {y : GrateState} (up : awake) (now : y = .running ∨ y = .single) :
      Change awake x { x with state := y, runOut := false, phase := some .rest }
  | start {y : GrateState} (up : awake) (now : y = .running ∨ y = .single) :
      Change awake x { x with state := y, runOut := false, phase := some .forward, guarded := false }

/-- An outline as a start leaves it (R20, R39, R65, R85, R108, R132, R148, R158), among outlines with this queue. -/
structure Outline.Started (v : Outline) (pending : List Instr) : Prop where
  chan : ∀ c, ∃ assign trimLimit calDrive, v.chan c = ⟨.out, 0, 0, false, false, assign, trimLimit, calDrive⟩
  burner : ∀ b, v.burner b = .off
  grate : ∀ g, ∃ guarded, v.grate g = ⟨.stopped, false, none, guarded⟩
  mode : v.mode = .normal
  seqs : v.seqs = []
  nextSeq : v.nextSeq = 1
  pending : v.pending = pending

/-- R141: the numbers of a ring to which one more is added. -/
def seqsAfter (seqs : List Nat) (n : Nat) : List Nat := (if 4 ≤ seqs.length then seqs.drop 1 else seqs) ++ [n]

/-- What a command can do, at one time, to what the laws speak of. -/
inductive Outline.Change (v : Outline) : Outline → Prop where
  | chan {c : Channel} {f : ChanOutline → ChanOutline} (h : (v.chan c).Change (v.fires c) (f (v.chan c))) :
      Change v (v.onChan c f)
  | grate {g : Grate} {f : GrateOutline → GrateOutline} (h : (v.grate g).Change (v.mode ≠ .standby) (f (v.grate g))) :
      Change v (v.onGrate g f)
  | light {b : Burner} (off : v.burner b = .off) (awake : v.mode ≠ .standby ∧ v.mode ≠ .settle) (free : ¬v.inhibited b) :
      Change v (v.setBurner b .purge)
  | burner {b : Burner} {x : BurnState} (lit : v.burner b ≠ .off) (cold : v.burner b ≠ .firing) :
      Change v (v.setBurner b x)
  | leave {b : Burner} {x : BurnState} (lit : v.burner b ≠ .off) :
      Change v { v.setBurner b x with chan := fun c => if (v.chan c).assign.feeds b then (v.chan c).left else v.chan c }
  | awaken {m : FloorMode} (up : m ≠ .standby ∧ (m = .settle → v.mode = .standby)) : Change v { v with mode := m }
  | sleep (off : ∀ b, v.burner b = .off) :
      Change v { v with mode := .standby, grate := fun g => (v.grate g).stopped }
  | hold {p : Point} (off : ∀ b, (v.target p).includes b = true → v.burner b = .off) : Change v (v.setHeld p true)
  | free {p : Point} : Change v (v.setHeld p false)
  | target {p : Point} {x : TripTarget} (off : v.held p = true → ∀ b, x.includes b = true → v.burner b = .off) :
      Change v { v with target := Function.update v.target p x }
  | close : Change v { v with seqs := seqsAfter v.seqs v.nextSeq, nextSeq := sequenceAfter v.nextSeq }
  | start {w : Outline} (started : w.Started v.pending)
      (cal : ∀ c, (w.chan c).calDrive ≤ 10000 ∨ (w.chan c).calDrive = (v.chan c).calDrive) : Change v w

/-! ## Each change keeps each law -/

theorem ChanOutline.Change.keepsDriveLaw {fires : Prop} {x y : ChanOutline} (h : x.Change fires y) (law : x.DriveLaw) :
    y.DriveLaw := by
  obtain ⟨still, top, low, high, cal⟩ := law
  cases h with
  | enterHold was => exact ⟨by simp, top, low, high, cal⟩
  | returnFromHold was => exact ⟨by simp, top, low, high, cal⟩
  | enterFault was => exact ⟨fun _ => rfl, by simp, by simp, by simp, cal⟩
  | enterDosing was fire => exact ⟨fun _ => rfl, by simp, by simp, by simp, cal⟩
  | toIdle was => exact ⟨fun _ => rfl, by simp, low, high, cal⟩
  | toOut was => exact ⟨fun _ => rfl, by simp, low, high, cal⟩
  | faultToOut was => exact ⟨fun _ => rfl, by simp, low, high, cal⟩
  | faultToIdle was => exact ⟨fun _ => rfl, by simp, low, high, cal⟩
  | calibrate was => exact ⟨by simp, cal, low, high, cal⟩
  | drive was top bounded =>
    refine ⟨by simp [was], top, ?_, ?_, cal⟩
    · rcases bounded with rfl | ⟨h, -⟩ <;> assumption
    · rcases bounded with rfl | ⟨-, h⟩ <;> assumption
  | assign was => exact ⟨still, top, low, high, cal⟩
  | limit => exact ⟨still, top, by simp only [clampInt]; split_ifs <;> omega, by simp only [clampInt]; split_ifs <;> omega, cal⟩
  | calDrive k => exact ⟨still, top, low, high, k⟩

theorem ChanOutline.left_keepsDriveLaw {x : ChanOutline} (law : x.DriveLaw) : x.left.DriveLaw := by
  unfold left
  split
  · exact ⟨fun _ => rfl, by simp, by simp, by simp, law.cal⟩
  · exact law

theorem Outline.Change.keepsDriveLaw {v w : Outline} (h : v.Change w) (law : ∀ c, (v.chan c).DriveLaw) :
    ∀ c, (w.chan c).DriveLaw := by
  intro d
  cases h with
  | @chan c f change =>
    by_cases e : d = c
    · subst e; simpa [onChan] using change.keepsDriveLaw (law d)
    · simpa [onChan, e] using law d
  | leave lit =>
    dsimp only
    split
    · exact ChanOutline.left_keepsDriveLaw (law d)
    · exact law d
  | start started cal =>
    obtain ⟨assign, trimLimit, calDrive, e⟩ := started.chan d
    have top := cal d
    have was := (law d).cal
    rw [e] at top ⊢
    exact ⟨fun _ => rfl, by simp, by simp, by simp, by dsimp at *; omega⟩
  | _ => exact law d

theorem ChanOutline.Change.keepsConditionLaw {fires : Prop} {x y : ChanOutline} (h : x.Change fires y)
    (law : x.ConditionLaw) : y.ConditionLaw := by
  obtain ⟨hold, fault⟩ := law
  cases h with
  | enterHold was => exact ⟨by simp, by simp [fault, was]⟩
  | returnFromHold was => exact ⟨by simp, by simp [fault, was]⟩
  | enterFault was => exact ⟨by simp [hold], by simp⟩
  | enterDosing was fire => rcases was with was | was <;> exact ⟨by simp [hold, was], by simp [fault, was]⟩
  | toIdle was => exact ⟨by simp [hold, was], by simp [fault, was]⟩
  | toOut was => rcases was with was | was <;> exact ⟨by simp [hold, was], by simp [fault, was]⟩
  | faultToOut was => exact ⟨by simp [hold, was], by simp⟩
  | faultToIdle was => exact ⟨by simp [hold, was], by simp⟩
  | calibrate was => exact ⟨by simp [hold, was], by simp [fault, was]⟩
  | drive was top bounded => exact ⟨hold, fault⟩
  | assign was => exact ⟨hold, fault⟩
  | limit => exact ⟨hold, fault⟩
  | calDrive k => exact ⟨hold, fault⟩

theorem ChanOutline.left_keepsConditionLaw {x : ChanOutline} (law : x.ConditionLaw) : x.left.ConditionLaw := by
  unfold left
  split
  next was => rcases was with was | was <;> exact ⟨by simp [law.hold, was], by simp [law.fault, was]⟩
  next => exact law

theorem Outline.Change.keepsConditionLaw {v w : Outline} (h : v.Change w) (law : ∀ c, (v.chan c).ConditionLaw) :
    ∀ c, (w.chan c).ConditionLaw := by
  intro d
  cases h with
  | @chan c f change =>
    by_cases e : d = c
    · subst e; simpa [onChan] using change.keepsConditionLaw (law d)
    · simpa [onChan, e] using law d
  | leave lit =>
    dsimp only
    split
    · exact ChanOutline.left_keepsConditionLaw (law d)
    · exact law d
  | start started cal =>
    obtain ⟨assign, trimLimit, calDrive, e⟩ := started.chan d
    rw [e]
    exact ⟨by simp, by simp⟩
  | _ => exact law d

/-- R46: only an entry to DOSING while the burner fires, and a reassignment in OUT, touch what the law says of a channel. -/
theorem ChanOutline.Change.follows {fires : Prop} {x y : ChanOutline} (h : x.Change fires y)
    (now : y.state = .dosing ∨ y.state = .hold) : (x.state = .dosing ∨ x.state = .hold ∨ fires) ∧ y.assign = x.assign := by
  cases h with
  | enterHold was => exact ⟨.inl was, rfl⟩
  | returnFromHold was => exact ⟨.inr (.inl was), rfl⟩
  | enterDosing was fire => exact ⟨.inr (.inr fire), rfl⟩
  | drive was top bounded => exact ⟨.inl was, rfl⟩
  | assign was => simp [was] at now
  | limit => exact ⟨now.imp_right .inl, rfl⟩
  | calDrive k => exact ⟨now.imp_right .inl, rfl⟩
  | _ => simp at now

theorem ChanOutline.left_not_following (x : ChanOutline) : ¬(x.left.state = .dosing ∨ x.left.state = .hold) := by
  unfold left
  split
  next => simp
  next out => exact out

theorem Outline.fires_setBurner {v : Outline} {b : Burner} {x : BurnState} {c : Channel} (h : v.fires c)
    (other : (v.chan c).assign.feeds b = true → v.burner b ≠ .firing) : (v.setBurner b x).fires c := by
  obtain ⟨d, feeds, fire⟩ := h
  refine ⟨d, feeds, ?_⟩
  by_cases e : d = b
  · subst e; exact absurd fire (other feeds)
  · simpa [setBurner, e] using fire

theorem Outline.Change.keepsFollowLaw {v w : Outline} (h : v.Change w) (law : v.FollowLaw) : w.FollowLaw := by
  intro d now
  cases h with
  | @chan c f change =>
    by_cases e : d = c
    · subst e
      simp only [onChan, Function.update_self] at now
      obtain ⟨was, assign⟩ := change.follows now
      have fire : v.fires d := by
        rcases was with h | h | h
        · exact law d (.inl h)
        · exact law d (.inr h)
        · exact h
      simpa [fires, onChan, assign] using fire
    · simp only [onChan, Function.update_of_ne e] at now
      simpa [fires, onChan, e] using law d now
  | light off awake free => exact fires_setBurner (law d now) fun _ => by simp [off]
  | burner lit cold => exact fires_setBurner (law d now) fun _ => cold
  | @leave b x lit =>
    dsimp only at now
    split at now
    next => exact absurd now (ChanOutline.left_not_following _)
    next other =>
      obtain ⟨b', feeds, fire⟩ := fires_setBurner (x := x) (law d now) fun feeds => absurd feeds other
      exact ⟨b', by simpa [setBurner, other] using feeds, fire⟩
  | start started cal =>
    obtain ⟨assign, trimLimit, calDrive, e⟩ := started.chan d
    simp [e] at now
  | _ => exact law d now

theorem Outline.Change.keepsInhibitLaw {v w : Outline} (h : v.Change w) (law : v.InhibitLaw) : w.InhibitLaw := by
  have lit {b d : Burner} {x : BurnState} (was : v.burner b ≠ .off) (now : (v.setBurner b x).burner d ≠ .off) :
      ¬v.inhibited d := by
    by_cases e : d = b
    · subst e; exact law d was
    · exact law d (by simpa [setBurner, e] using now)
  intro d now
  cases h with
  | @light b off awake free =>
    by_cases e : d = b
    · subst e; exact free
    · exact law d (by simpa [setBurner, e] using now)
  | burner was cold => exact lit was now
  | leave was => exact lit was now
  | @hold p off =>
    rintro ⟨q, includes, held⟩
    by_cases e : q = p
    · subst e; exact now (off d includes)
    · exact law d now ⟨q, includes, by simpa [setHeld, e] using held⟩
  | @free p =>
    rintro ⟨q, includes, held⟩
    by_cases e : q = p
    · subst e; simp [setHeld] at held
    · exact law d now ⟨q, includes, by simpa [setHeld, e] using held⟩
  | @target p x off =>
    rintro ⟨q, includes, held⟩
    by_cases e : q = p
    · subst e; exact now (off held d (by simpa using includes))
    · exact law d now ⟨q, by simpa [e] using includes, held⟩
  | start started cal => exact absurd (started.burner d) now
  | _ => exact law d now

theorem GrateOutline.stopped_resting (x : GrateOutline) : x.stopped.state ≠ .running ∧ x.stopped.state ≠ .single := by
  unfold stopped
  split
  next => split <;> simp
  next h => exact not_or.mp h

/-- R155: only a section that is awake starts to run. -/
theorem GrateOutline.Change.rests {awake : Prop} {x y : GrateOutline} (h : x.Change awake y) (asleep : ¬awake)
    (was : x.state ≠ .running ∧ x.state ≠ .single) : y.state ≠ .running ∧ y.state ≠ .single := by
  cases h with
  | returned phase =>
    unfold GrateOutline.returned
    split <;> simp_all
  | stop => exact x.stopped_resting
  | goOn h => exact absurd h (not_or.mpr was)
  | takeOver _ _ up => exact absurd up asleep
  | wait up => exact absurd up asleep
  | start up => exact absurd up asleep
  | stall => simp
  | reset => simp
  | _ => exact was

theorem Outline.Change.keepsStandbyLaw {v w : Outline} (h : v.Change w) (law : v.StandbyLaw) : w.StandbyLaw := by
  have lit {b : Burner} {x : BurnState} (was : v.burner b ≠ .off) :
      ¬(v.mode = .standby ∨ v.mode = .settle) := fun asleep => was (law.burners asleep b)
  cases h with
  | @grate g f change =>
    refine ⟨law.burners, fun asleep d => ?_⟩
    by_cases e : d = g
    · subst e; simpa [onGrate] using change.rests (fun up => up asleep) (law.grates asleep d)
    · simpa [onGrate, e] using law.grates asleep d
  | light off awake free => exact ⟨fun asleep => absurd asleep (not_or.mpr awake), law.grates⟩
  | burner was cold => exact ⟨fun asleep => absurd asleep (lit (x := .off) was), law.grates⟩
  | leave was => exact ⟨fun asleep => absurd asleep (lit (x := .off) was), law.grates⟩
  | @awaken m up =>
    exact ⟨fun asleep b => law.burners (.inl (up.2 (asleep.resolve_left up.1))) b, fun asleep => absurd asleep up.1⟩
  | sleep off => exact ⟨fun _ => off, fun _ g => (v.grate g).stopped_resting⟩
  | start started cal =>
    exact ⟨fun _ => started.burner, fun asleep => absurd (started.mode.symm.trans asleep) (by decide)⟩
  | _ => exact ⟨law.burners, law.grates⟩

theorem Outline.Change.keepsRingLaw {v w : Outline} (h : v.Change w) (law : v.RingLaw) : w.RingLaw := by
  obtain ⟨short, chain⟩ := law
  cases h with
  | close =>
    have after : (v.seqs ++ [v.nextSeq] ++ [sequenceAfter v.nextSeq]).IsChain fun a b => b = sequenceAfter a :=
      List.isChain_append.mpr ⟨chain, .singleton _, by simp⟩
    unfold seqsAfter
    split
    next full =>
      cases e : v.seqs with
      | nil => simp [e] at full
      | cons a rest => exact ⟨by simp [e] at short ⊢; omega, by rw [e] at after; exact after.tail⟩
    next room => exact ⟨by simp; omega, after⟩
  | start started cal =>
    exact ⟨by simp [started.seqs], by simp [started.seqs]⟩
  | _ => exact ⟨short, chain⟩

theorem GrateOutline.Change.keepsStrokeLaw {awake : Prop} {x y : GrateOutline} (h : x.Change awake y)
    (law : x.StrokeLaw) : y.StrokeLaw := by
  obtain ⟨closed, phase, runOut⟩ := law
  cases h with
  | guardEnds => exact ⟨by simp, phase, runOut⟩
  | forward present => exact ⟨by simp, by simpa using phase.not.mp present, runOut⟩
  | deadA present => exact ⟨by simp, by simpa using phase.not.mp (by simp [present]), runOut⟩
  | ret present => exact ⟨by simp, by simpa using phase.not.mp (by simp [present]), runOut⟩
  | returned present =>
    have busy := phase.not.mp (by simp [present])
    unfold GrateOutline.returned
    split
    next h => exact ⟨by simp, by simp [h], by simpa [h] using runOut⟩
    next h => exact ⟨by simp, by simpa [h] using runOut, by simp⟩
    next h => exact ⟨by simp, by simp [h], by simp⟩
    next h => exact ⟨by simp, by simp [h], by simp⟩
  | stall => exact ⟨by simp, by simp, by simp⟩
  | stop =>
    unfold stopped
    split
    next h =>
      have noRunOut : x.runOut = false := by
        by_contra k
        rcases h with h | h <;> simp [runOut (by simpa using k)] at h
      split
      next => exact ⟨by simp, by simp [noRunOut], by simp⟩
      next away => exact ⟨closed, by simpa using (not_or.mp away).2, by simp⟩
    next => exact ⟨closed, phase, runOut⟩
  | reset => exact ⟨by simp, by simp, by simp⟩
  | goOn was now =>
    have stopped : x.state ≠ .stopped ∧ x.state ≠ .stalled := by rcases was with h | h <;> simp [h]
    refine ⟨closed, ?_, fun k => absurd (runOut k) stopped.1⟩
    rcases now with rfl | rfl <;> simpa [stopped] using phase
  | takeOver was stroke up now =>
    refine ⟨closed, ?_, by simp⟩
    rcases now with rfl | rfl <;> simpa [was, stroke] using phase
  | wait up now => rcases now with rfl | rfl <;> exact ⟨by simp, by simp, by simp⟩
  | start up now => rcases now with rfl | rfl <;> exact ⟨by simp, by simp, by simp⟩

theorem Outline.Change.keepsStrokeLaw {v w : Outline} (h : v.Change w) (law : ∀ g, (v.grate g).StrokeLaw) :
    ∀ g, (w.grate g).StrokeLaw := by
  intro d
  cases h with
  | @grate g f change =>
    by_cases e : d = g
    · subst e; simpa [onGrate] using change.keepsStrokeLaw (law d)
    · simpa [onGrate, e] using law d
  | sleep off => exact (GrateOutline.Change.stop (awake := True)).keepsStrokeLaw (law d)
  | start started cal =>
    obtain ⟨guarded, e⟩ := started.grate d
    rw [e]
    exact ⟨by simp, by simp, by simp⟩
  | _ => exact law d

theorem Outline.Change.keepsQueue {v w : Outline} (h : v.Change w) : w.pending = v.pending := by
  cases h with
  | start started cal => exact started.pending
  | _ => rfl

end Sys2Proof.Machine
end

section
/-! PROOFS. What each operation can do to what the laws speak of, block by block (the changes of the outline). -/

namespace Sys2Proof.Machine

-- One proof at a time: proofs that wait for one another hold a thread each, and the threads' memory is bounded.
set_option Elab.async false

/-- From `s` to `t` the outline goes through changes alone. -/
def Reaches (s t : State) : Prop := Relation.ReflTransGen Outline.Change s.outline t.outline

theorem Reaches.refl {s : State} : Reaches s s := Relation.ReflTransGen.refl

theorem Reaches.same {s t u : State} (h : Reaches s t) (same : u.outline = t.outline) : Reaches s u := by
  rw [Reaches, same]; exact h

theorem Reaches.change {s t u : State} (h : Reaches s t) (c : t.outline.Change u.outline) : Reaches s u := h.tail c

theorem Reaches.ite {s t u : State} {c : Prop} [Decidable c] (h : Reaches s t) (k : Reaches s u) :
    Reaches s (if c then t else u) := by split <;> assumption

theorem Reaches.each {α : Type} {s t : State} {f : α → State → State} {l : List α}
    (step : ∀ a u, Reaches s u → Reaches s (f a u)) (h : Reaches s t) : Reaches s (forEach l f t) :=
  forEach_preserves step l h

/-- The parts of State that the outline is taken from. -/
def outlinedParts : List Part := [.chans, .burns, .cooler, .alarm, .shift, .floor, .store, .pending]

theorem Touches.outline {l : List Part} {s t : State} (h : Touches l s t) (out : ∀ p ∈ outlinedParts, p ∉ l := by decide) :
    t.outline = s.outline := by
  have chans : t.chans = s.chans := h .chans (out _ (by decide))
  have burns : t.burns = s.burns := h .burns (out _ (by decide))
  have cooler : t.cooler = s.cooler := h .cooler (out _ (by decide))
  have alarm : t.alarm = s.alarm := h .alarm (out _ (by decide))
  have shift : t.shift = s.shift := h .shift (out _ (by decide))
  have floor : t.floor = s.floor := h .floor (out _ (by decide))
  have store : t.store = s.store := h .store (out _ (by decide))
  have pending : t.pending = s.pending := h .pending (out _ (by decide))
  have targets : tripTarget t = tripTarget s := by funext p; simp only [tripTarget, State.live, store]
  simp only [State.outline, State.live, targets, chans, burns, cooler, alarm, shift, floor, store, pending]

theorem Touches.reaches {l : List Part} {s t u : State} (k : Touches l t u) (h : Reaches s t)
    (out : ∀ p ∈ outlinedParts, p ∉ l := by decide) : Reaches s u := h.same (k.outline out)

/-! ## An update of one record -/

section
variable {s t : State}

theorem Reaches.onScan {f : Scanner → Scanner} (h : Reaches s t) : Reaches s (t.onScan f) := h
theorem Reaches.onPlanner {f : Planner → Planner} (h : Reaches s t) : Reaches s (t.onPlanner f) := h
theorem Reaches.onLink {f : Link → Link} (h : Reaches s t) : Reaches s (t.onLink f) := h
theorem Reaches.onTotals {f : Totals → Totals} (h : Reaches s t) : Reaches s (t.onTotals f) := h
theorem Reaches.onHanded {f : List (Burner × Cause) → List (Burner × Cause)} (h : Reaches s t) :
    Reaches s (t.onHanded f) := h
theorem Reaches.onFan {n : Fan} {f : FanRec → FanRec} (h : Reaches s t) : Reaches s (t.onFan n f) := h

theorem onChan_outline (c : Channel) (f : Chan → Chan) (s : State) :
    (s.onChan c f).outline = s.outline.onChan c fun x =>
      { x with state := (f s.chans[c]).state, u := (f s.chans[c]).u, trim := (f s.chans[c]).trim } := by
  refine Outline.ext (funext fun d => ?_) rfl rfl rfl rfl rfl rfl rfl rfl
  by_cases e : d = c
  · subst e; simp [State.outline, chanOutline, Outline.onChan]
  · simp [State.outline, chanOutline, Outline.onChan, e, upd_other _ _ (Ne.symm e)]

/-- A channel changes in what no law speaks of. -/
theorem Reaches.onChan {c : Channel} {f : Chan → Chan} (h : Reaches s t)
    (same : ∀ x, (f x).state = x.state ∧ (f x).u = x.u ∧ (f x).trim = x.trim := by exact fun _ => ⟨rfl, rfl, rfl⟩) :
    Reaches s (t.onChan c f) := by
  refine h.same ((onChan_outline c f t).trans ?_)
  obtain ⟨state, u, trim⟩ := same t.chans[c]
  simp only [state, u, trim]
  exact Outline.ext (Function.update_eq_self c _) rfl rfl rfl rfl rfl rfl rfl rfl

theorem onBurn_outline (b : Burner) (f : Burn → Burn) (s : State) :
    (s.onBurn b f).outline = s.outline.setBurner b (f (s.burns.get b)).state := by
  refine Outline.ext rfl (funext fun d => ?_) rfl rfl rfl rfl rfl rfl rfl
  by_cases e : d = b
  · subst e; simp [State.outline, Outline.setBurner]
  · simp [State.outline, Outline.setBurner, e, PerBurner.get_upd_other _ _ (Ne.symm e)]

/-- A burner changes in what no law speaks of. -/
theorem Reaches.onBurn {b : Burner} {f : Burn → Burn} (h : Reaches s t)
    (same : ∀ x, (f x).state = x.state := by exact fun _ => rfl) : Reaches s (t.onBurn b f) := by
  refine h.same ((onBurn_outline b f t).trans ?_)
  rw [same]
  exact Outline.ext rfl (Function.update_eq_self b _) rfl rfl rfl rfl rfl rfl rfl

theorem onGrate_outline (g : Grate) (f : GrateRec → GrateRec) (s : State) :
    (s.onGrate g f).outline = s.outline.onGrate g fun _ => (f s.cooler.grates[g]).outline := by
  refine Outline.ext rfl rfl (funext fun d => ?_) rfl rfl rfl rfl rfl rfl
  by_cases e : d = g
  · subst e; simp [State.outline, Outline.onGrate]
  · simp [State.outline, Outline.onGrate, e, upd_other _ _ (Ne.symm e)]

theorem onGrate_outline_same {g : Grate} {f : GrateRec → GrateRec} (s : State) (same : ∀ x, (f x).outline = x.outline) :
    (s.onGrate g f).outline = s.outline := by
  rw [onGrate_outline, same]
  exact Outline.ext rfl rfl (Function.update_eq_self g _) rfl rfl rfl rfl rfl rfl

/-- A section changes in what no law speaks of. -/
theorem Reaches.onGrate {g : Grate} {f : GrateRec → GrateRec} (h : Reaches s t)
    (same : ∀ x, (f x).outline = x.outline := by exact fun _ => rfl) : Reaches s (t.onGrate g f) :=
  h.same (onGrate_outline_same t same)

/-- A section makes one of its changes. -/
theorem Reaches.grate {g : Grate} {f : GrateRec → GrateRec} (h : Reaches s t)
    (change : t.cooler.grates[g].outline.Change (t.floor.mode ≠ .standby) (f t.cooler.grates[g]).outline) :
    Reaches s (t.onGrate g f) := by
  refine h.change ?_
  rw [onGrate_outline]
  exact .grate change

/-- The cooler changes in what no law speaks of. -/
theorem Reaches.onCooler {f : Cooler → Cooler} (h : Reaches s t) (same : ∀ x, (f x).grates = x.grates := by exact fun _ => rfl) :
    Reaches s (t.onCooler f) := by
  refine h.same ?_
  simp only [State.outline, State.onCooler, same]
  rfl

theorem Reaches.onShift {f : Shift → Shift} (h : Reaches s t)
    (same : ∀ x, (f x).ring = x.ring ∧ (f x).nextSeq = x.nextSeq := by exact fun _ => ⟨rfl, rfl⟩) :
    Reaches s (t.onShift f) := by
  refine h.same ?_
  simp only [State.outline, State.onShift, same]
  rfl

theorem Reaches.onFloor {f : Floor → Floor} (h : Reaches s t) (same : ∀ x, (f x).mode = x.mode := by exact fun _ => rfl) :
    Reaches s (t.onFloor f) := by
  refine h.same ?_
  simp only [State.outline, State.onFloor, same]
  rfl

/-- The store changes outside the live set. -/
theorem Reaches.onStore {f : Store → Store} (h : Reaches s t) (same : ∀ x, (f x).live = x.live := by exact fun _ => rfl) :
    Reaches s (t.onStore f) := by
  refine h.same ?_
  have live : (t.onStore f).live = t.live := same t.store
  have targets : tripTarget (t.onStore f) = tripTarget t := by funext p; simp only [tripTarget, live]
  simp only [State.outline, live, targets]
  rfl

end

/-! ## The Alarm Table -/

theorem onAlarm_outline (f : AlarmTable → AlarmTable) (s : State) (same : (f s.alarm).points = s.alarm.points) :
    (s.onAlarm f).outline = s.outline := by
  simp only [State.outline, State.onAlarm, same]
  rfl

theorem onPoint_outline (p : Point) (f : PointRec → PointRec) (s : State)
    (cond : (f s.alarm.points[p]).cond = s.alarm.points[p].cond) :
    (s.onPoint p f).outline = s.outline.setHeld p (f s.alarm.points[p]).state.isHeld := by
  have conds (q : Point) : (s.onPoint p f).alarm.points[q].cond = s.alarm.points[q].cond := by
    by_cases e : p = q
    · subst e; simpa using cond
    · simp [upd_other _ _ e]
  refine Outline.ext (funext fun d => ?_) rfl rfl rfl (funext fun q => ?_) rfl rfl rfl rfl
  · simp only [State.outline, chanOutline, conds]; rfl
  · by_cases e : q = p
    · subst e; simp [State.outline, Outline.setHeld]
    · simp [State.outline, Outline.setHeld, e, upd_other _ _ (Ne.symm e)]

theorem setHeld_eq_self {v : Outline} {p : Point} {x : Bool} (h : v.held p = x) : v.setHeld p x = v := by
  subst h
  exact Outline.ext rfl rfl rfl rfl (Function.update_eq_self p _) rfl rfl rfl rfl

/-- A point goes from one state that is not held back to another. -/
theorem onPoint_outline_same (p : Point) (f : PointRec → PointRec) (s : State)
    (cond : (f s.alarm.points[p]).cond = s.alarm.points[p].cond)
    (held : (f s.alarm.points[p]).state.isHeld = s.alarm.points[p].state.isHeld) : (s.onPoint p f).outline = s.outline := by
  rw [onPoint_outline p f s cond, held]
  exact setHeld_eq_self rfl

theorem addActivation_outline (k : Nat) (s : State) : (addActivation k s).outline = s.outline := by
  unfold addActivation; split <;> rfl

theorem place_outline (p : Point) (s : State) : (place p s).outline = s.outline := by
  unfold place; split <;> rfl

theorem leavePlacement_outline (p : Point) (s : State) : (leavePlacement p s).outline = s.outline := by
  unfold leavePlacement
  split
  · dsimp only; split <;> rfl
  · rfl

theorem activate_outline (p : Point) (s : State) : (activate p s).outline = s.outline.setHeld p false := by
  unfold activate
  dsimp only
  split
  · rw [addActivation_outline, onPoint_outline p _ s rfl]; rfl
  · rw [place_outline, addActivation_outline, onPoint_outline p _ s rfl]; rfl

theorem conditionChanged_outline (p : Point) (present : Bool) (s : State) :
    (conditionChanged p present s).outline = s.outline := by
  have free {x : PointState} (h : s.alarm.points[p].state = x) (k : x.isHeld = false) : s.outline.held p = false := by
    simp only [State.outline, h, k]
  unfold conditionChanged
  split
  next _ h => rw [activate_outline, setHeld_eq_self (free h rfl)]
  next _ h => exact onPoint_outline_same p _ s rfl (by rw [h]; rfl)
  next _ h => exact onPoint_outline_same p _ s rfl (by rw [h]; rfl)
  next _ h => rw [activate_outline, setHeld_eq_self (free h rfl)]
  all_goals rfl

/-- A condition report stores the condition of its point, and changes nothing else that the laws speak of (R112). -/
theorem reportCond_outline (p : Point) (present : Bool) (s : State) :
    (reportCond p present s).outline = { s.outline with chan := fun d => { s.outline.chan d with
      hold := if holdPoint d = p then present else (s.outline.chan d).hold
      fault := if faultPoint d = p then present else (s.outline.chan d).fault } } := by
  have stored : (s.onPoint p fun x => { x with cond := present }).outline = { s.outline with chan := fun d => { s.outline.chan d with
      hold := if holdPoint d = p then present else (s.outline.chan d).hold
      fault := if faultPoint d = p then present else (s.outline.chan d).fault } } := by
    have point (q : Point) : (s.onPoint p fun x => { x with cond := present }).alarm.points[q]
        = if q = p then { s.alarm.points[p] with cond := present } else s.alarm.points[q] := by
      by_cases e : q = p
      · subst e; simp
      · simp [e, upd_other _ _ (Ne.symm e)]
    refine Outline.ext (funext fun d => ?_) rfl rfl rfl (funext fun q => ?_) rfl rfl rfl rfl
    · simp only [State.outline, chanOutline, point]
      congr 1 <;> split <;> rfl
    · simp only [State.outline, point]
      split
      next e => rw [e]
      next => rfl
  unfold reportCond
  split
  next held =>
    refine Outline.ext (funext fun d => ChanOutline.ext rfl rfl rfl ?_ ?_ rfl rfl rfl) rfl rfl rfl rfl rfl rfl rfl rfl
    · dsimp only; split
      next e => rw [← held, ← e]; rfl
      next => rfl
    · dsimp only; split
      next e => rw [← held, ← e]; rfl
      next => rfl
  next =>
    rw [← stored, ← conditionChanged_outline p present (s.onPoint p _)]
    split <;> rfl

/-- R109: is the point that of a hold or of a fault condition? -/
def ofChannel (p : Point) : Bool := decide (50 ≤ p.val ∧ p.val < 62)

theorem ofChannel_holdPoint (c : Channel) : ofChannel (holdPoint c) = true :=
  decide_eq_true (by dsimp only [holdPoint]; omega)
theorem ofChannel_faultPoint (c : Channel) : ofChannel (faultPoint c) = true :=
  decide_eq_true (by dsimp only [faultPoint]; omega)

theorem reportCond_outline_other {p : Point} (other : ofChannel p = false) (present : Bool) (s : State) :
    (reportCond p present s).outline = s.outline := by
  have hold (d : Channel) : holdPoint d ≠ p := fun e => by simp [← e, ofChannel_holdPoint] at other
  have fault (d : Channel) : faultPoint d ≠ p := fun e => by simp [← e, ofChannel_faultPoint] at other
  rw [reportCond_outline]
  simp only [hold, fault, ↓reduceIte]

theorem holdPoint_inj {c d : Channel} : holdPoint c = holdPoint d ↔ c = d := by simp [holdPoint, Fin.ext_iff]
theorem faultPoint_inj {c d : Channel} : faultPoint c = faultPoint d ↔ c = d := by simp [faultPoint, Fin.ext_iff]
theorem holdPoint_ne_faultPoint (c d : Channel) : holdPoint c ≠ faultPoint d := by simp [holdPoint, faultPoint]; omega

theorem reportCond_hold_outline (c : Channel) (present : Bool) (s : State) :
    (reportCond (holdPoint c) present s).outline = s.outline.onChan c fun x => { x with hold := present } := by
  rw [reportCond_outline]
  refine Outline.ext (funext fun d => ?_) rfl rfl rfl rfl rfl rfl rfl rfl
  by_cases e : d = c
  · subst e; simp [Outline.onChan, (holdPoint_ne_faultPoint _ _).symm]
  · simp [Outline.onChan, e, holdPoint_inj, (holdPoint_ne_faultPoint _ _).symm]

theorem reportCond_fault_outline (c : Channel) (present : Bool) (s : State) :
    (reportCond (faultPoint c) present s).outline = s.outline.onChan c fun x => { x with fault := present } := by
  rw [reportCond_outline]
  refine Outline.ext (funext fun d => ?_) rfl rfl rfl rfl rfl rfl rfl rfl
  by_cases e : d = c
  · subst e; simp [Outline.onChan, holdPoint_ne_faultPoint]
  · simp [Outline.onChan, e, faultPoint_inj, holdPoint_ne_faultPoint]

end Sys2Proof.Machine
end

section
/-! PROOFS. Chapter 10, the settings set: an item stored is the one read back, and every other stays (R171, R179). -/

namespace Sys2Proof.Machine

-- One proof at a time: proofs that wait for one another hold a thread each, and the threads' memory is bounded.
set_option Elab.async false

/-! ## One record -/

theorem InputSet.item_withItem_other (x : InputSet) {k j : InputItem} (v : Int) (h : k ≠ j) :
    (x.withItem k v).item j = x.item j := by cases k <;> cases j <;> first | rfl | contradiction
theorem BurnerSet.heatItem_withHeatItem_other (x : BurnerSet) {k j : HeatItem} (v : Int) (h : k ≠ j) :
    (x.withHeatItem k v).heatItem j = x.heatItem j := by cases k <;> cases j <;> first | rfl | contradiction
theorem BurnerSet.item_withItem_other (x : BurnerSet) {k j : BurnerItem} (v : Int) (h : k ≠ j) :
    (x.withItem k v).item j = x.item j := by cases k <;> cases j <;> first | rfl | contradiction
theorem BurnerSet.item_withHeatItem (x : BurnerSet) (k : HeatItem) (j : BurnerItem) (v : Int) :
    (x.withHeatItem k v).item j = x.item j := by cases k <;> cases j <;> rfl
theorem BurnerSet.heatItem_withItem (x : BurnerSet) (k : BurnerItem) (j : HeatItem) (v : Int) :
    (x.withItem k v).heatItem j = x.heatItem j := by cases k <;> cases j <;> rfl
theorem ChanSet.item_withItem_other (x : ChanSet) {k j : ChanItem} (v : Int) (h : k ≠ j) :
    (x.withItem k v).item j = x.item j := by cases k <;> cases j <;> first | rfl | contradiction
theorem GrateSet.item_withItem_other (x : GrateSet) {k j : GrateItem} (v : Int) (h : k ≠ j) :
    (x.withItem k v).item j = x.item j := by cases k <;> cases j <;> first | rfl | contradiction
theorem CoolerSet.item_withItem_other (x : CoolerSet) {k j : CoolerItem} (v : Int) (h : k ≠ j) :
    (x.withItem k v).item j = x.item j := by cases k <;> cases j <;> first | rfl | contradiction
theorem PointSet.item_withItem_other (x : PointSet) {k j : PointItem} (v : Int) (h : k ≠ j) :
    (x.withItem k v).item j = x.item j := by cases k <;> cases j <;> first | rfl | contradiction
theorem FanSet.item_withItem_other (x : FanSet) {k j : FanItem} (v : Int) (h : k ≠ j) :
    (x.withItem k v).item j = x.item j := by
  cases k with
  | table i =>
    cases j with
    | table i' => simp [FanSet.item, FanSet.withItem, upd_other x.table (fun _ => v.toNat) (i := i) (j := i') (by simpa using h)]
    | _ => rfl
  | _ => cases j <;> first | rfl | contradiction

/-! ## The whole set -/

/-- An item stored leaves every other as it was. -/
theorem Settings.get_put_other (s : Settings) {r q : Ref} (v : Int) (h : q ≠ r) : (s.put r v).get q = s.get q := by
  cases r with
  | input i k =>
    cases q with
    | input j m =>
      by_cases e : i = j
      · subst e; simpa [put, get] using InputSet.item_withItem_other _ v (by rintro rfl; exact h rfl)
      · simp [put, get, upd_other _ _ e]
    | _ => rfl
  | heat b k =>
    cases q with
    | heat d m =>
      by_cases e : b = d
      · subst e; simpa [put, get] using BurnerSet.heatItem_withHeatItem_other _ v (by rintro rfl; exact h rfl)
      · simp [put, get, PerBurner.get_upd_other _ _ e]
    | burner d m =>
      by_cases e : b = d
      · subst e; simp [put, get, BurnerSet.item_withHeatItem]
      · simp [put, get, PerBurner.get_upd_other _ _ e]
    | fallbackHeat d =>
      by_cases e : b = d
      · subst e; cases k <;> simp [put, get, BurnerSet.withHeatItem]
      · simp [put, get, PerBurner.get_upd_other _ _ e]
    | _ => rfl
  | chan c k =>
    cases q with
    | chan d m =>
      by_cases e : c = d
      · subst e; simpa [put, get] using ChanSet.item_withItem_other _ v (by rintro rfl; exact h rfl)
      · simp [put, get, upd_other _ _ e]
    | _ => rfl
  | burner b k =>
    cases q with
    | heat d m =>
      by_cases e : b = d
      · subst e; simp [put, get, BurnerSet.heatItem_withItem]
      · simp [put, get, PerBurner.get_upd_other _ _ e]
    | burner d m =>
      by_cases e : b = d
      · subst e; simpa [put, get] using BurnerSet.item_withItem_other _ v (by rintro rfl; exact h rfl)
      · simp [put, get, PerBurner.get_upd_other _ _ e]
    | fallbackHeat d =>
      by_cases e : b = d
      · subst e; cases k <;> simp [put, get, BurnerSet.withItem]
      · simp [put, get, PerBurner.get_upd_other _ _ e]
    | _ => rfl
  | grate g k =>
    cases q with
    | grate d m =>
      by_cases e : g = d
      · subst e; simpa [put, get] using GrateSet.item_withItem_other _ v (by rintro rfl; exact h rfl)
      · simp [put, get, upd_other _ _ e]
    | _ => rfl
  | cooler k =>
    cases q with
    | cooler m => exact CoolerSet.item_withItem_other _ v (by rintro rfl; exact h rfl)
    | _ => rfl
  | fan f k =>
    cases q with
    | fan d m =>
      by_cases e : f = d
      · subst e; simpa [put, get] using FanSet.item_withItem_other _ v (by rintro rfl; exact h rfl)
      · simp [put, get, upd_other _ _ e]
    | _ => rfl
  | point p k =>
    cases q with
    | point d m =>
      by_cases e : p = d
      · subst e; simpa [put, get] using PointSet.item_withItem_other _ v (by rintro rfl; exact h rfl)
      · simp [put, get, upd_other _ _ e]
    | _ => rfl
  | fallbackHeat b =>
    cases q with
    | heat d m =>
      by_cases e : b = d
      · subst e; cases m <;> simp [put, get, BurnerSet.heatItem]
      · simp [put, get, PerBurner.get_upd_other _ _ e]
    | burner d m =>
      by_cases e : b = d
      · subst e; cases m <;> simp [put, get, BurnerSet.item]
      · simp [put, get, PerBurner.get_upd_other _ _ e]
    | fallbackHeat d =>
      have e : b ≠ d := by rintro rfl; exact h rfl
      simp [put, get, PerBurner.get_upd_other _ _ e]
    | _ => rfl
  | _ => cases q <;> first | rfl | contradiction

theorem within_iff {lo hi v : Int} : within lo hi v = true ↔ lo ≤ v ∧ v ≤ hi := by simp [within]

theorem assignOf_code {v : Int} (h : within 0 2 v = true) : ((assignOf v).code : Int) = v := by
  obtain ⟨lo, hi⟩ := within_iff.mp h
  obtain rfl | rfl | rfl : v = 0 ∨ v = 1 ∨ v = 2 := by omega
  all_goals rfl
theorem targetOf_code {v : Int} (h : within 0 3 v = true) : ((targetOf v).code : Int) = v := by
  obtain ⟨lo, hi⟩ := within_iff.mp h
  obtain rfl | rfl | rfl | rfl : v = 0 ∨ v = 1 ∨ v = 2 ∨ v = 3 := by omega
  all_goals rfl
theorem startOf_code {v : Int} (h : within 0 1 v = true) : ((startOf v).code : Int) = v := by
  obtain ⟨lo, hi⟩ := within_iff.mp h
  obtain rfl | rfl : v = 0 ∨ v = 1 := by omega
  all_goals rfl
theorem modeOf_code {v : Int} (h : within 0 1 v = true) : ((modeOf v).code : Int) = v := by
  obtain ⟨lo, hi⟩ := within_iff.mp h
  obtain rfl | rfl : v = 0 ∨ v = 1 := by omega
  all_goals rfl

theorem toNat_of_within {lo hi v : Int} (h : within lo hi v = true) (low : 0 ≤ lo := by decide) : (v.toNat : Int) = v := by
  obtain ⟨lo, hi⟩ := within_iff.mp h
  omega

/-- An item stored at a value in its range is read back. -/
theorem Settings.get_put_same (s : Settings) {r : Ref} {v : Int} (h : inRange r v = true) : (s.put r v).get r = v := by
  cases r with
  | input i k => cases k <;> simp [put, get, InputSet.item, InputSet.withItem]; exact (within_iff.mp h).1
  | heat b k => cases k <;> simpa [put, get, BurnerSet.heatItem, BurnerSet.withHeatItem] using toNat_of_within h
  | chan c k =>
    cases k with
    | assign => simpa [put, get, ChanSet.item, ChanSet.withItem] using assignOf_code h
    | _ => simpa only [put, get, ChanSet.item, ChanSet.withItem, Fin.getElem_fin, upd_same] using toNat_of_within h
  | burner b k =>
    cases k with
    | purgeLow => simp [put, get, BurnerSet.item, BurnerSet.withItem]
    | purgeHigh => simp [put, get, BurnerSet.item, BurnerSet.withItem]
    | _ => simpa only [put, get, BurnerSet.item, BurnerSet.withItem, PerBurner.get_upd] using toNat_of_within h
  | grate g k =>
    cases k with
    | mode => simpa [put, get, GrateSet.item, GrateSet.withItem] using modeOf_code h
    | _ => simpa only [put, get, GrateSet.item, GrateSet.withItem, Fin.getElem_fin, upd_same] using toNat_of_within h
  | cooler k => cases k <;> exact toNat_of_within h
  | fan f k =>
    cases k with
    | table j => simpa only [put, get, FanSet.item, FanSet.withItem, Fin.getElem_fin, upd_same] using toNat_of_within h
    | _ => simpa only [put, get, FanSet.item, FanSet.withItem, Fin.getElem_fin, upd_same] using toNat_of_within h
  | point p k =>
    cases k with
    | priority => simpa only [put, get, PointSet.item, PointSet.withItem, Fin.getElem_fin, upd_same] using toNat_of_within h
    | target => simpa [put, get, PointSet.item, PointSet.withItem] using targetOf_code h
    | start => simpa [put, get, PointSet.item, PointSet.withItem] using startOf_code h
  | shiftLength =>
    have h : v = 240 ∨ v = 360 ∨ v = 480 ∨ v = 720 := of_decide_eq_true h
    show (v.toNat : Int) = v
    omega
  | fallbackHeat b => simpa only [put, get, PerBurner.get_upd] using toNat_of_within h
  | _ => exact toNat_of_within h

end Sys2Proof.Machine
end

section
/-! PROOFS. Chapter 10, the image: what an image area stores of each item, and the set that the load makes of it (R175, R179). -/

namespace Sys2Proof.Machine

-- One proof at a time: proofs that wait for one another hold a thread each, and the threads' memory is bounded.
set_option Elab.async false

/-! ## The order of the items -/

/-- A number for each item, by its kind, its number within the kind and its instance: the order of R179. -/
def Ref.order : Ref → Nat
  | .input i k => 100000 + 1000 * inputItems.idxOf k + i.val
  | .heat b k => 200000 + 1000 * heatItems.idxOf k + burnerCode b
  | .chan c k => 300000 + 1000 * chanItems.idxOf k + c.val
  | .burner b k => 400000 + 1000 * burnerItems.idxOf k + burnerCode b
  | .grate g k => 500000 + 1000 * grateItems.idxOf k + g.val
  | .cooler k => 600000 + 1000 * coolerItems.idxOf k
  | .fan f k => 700000 + 1000 * fanItems.idxOf k + f.val
  | .point p k => 800000 + 1000 * pointItems.idxOf k + p.val
  | .shelveDefault => 900000
  | .shiftStart => 900001
  | .shiftLength => 900002
  | .supervisionTime => 900003
  | .graceTime => 900004
  | .fallbackHeat b => 900010 + burnerCode b

theorem allRefs_length : allRefs.length = 659 := by decide +kernel

theorem allRefs_ordered : (allRefs.map Ref.order).IsChain (· < ·) := by decide +kernel

theorem allRefs_nodup : allRefs.Nodup :=
  .of_map Ref.order (List.isChain_iff_pairwise.mp allRefs_ordered |>.imp Nat.ne_of_lt)

theorem mem_instances {α β : Type} {items : List α} {instances : List β} {f : α → β → Ref} {k : α} {i : β} (item : k ∈ items)
    (instanceOf : i ∈ instances) : f k i ∈ items.flatMap fun k => instances.map fun i => f k i :=
  List.mem_flatMap.mpr ⟨k, item, List.mem_map.mpr ⟨i, instanceOf, rfl⟩⟩

theorem mem_allRefs (r : Ref) : r ∈ allRefs := by
  have burners (b : Burner) : b ∈ bothBurners := by cases b <;> decide
  simp only [allRefs, List.mem_append]
  cases r with
  | input i k =>
    have mem : k ∈ inputItems := by cases k <;> decide
    simp only [mem_instances (f := fun k i => Ref.input i k) mem (List.mem_finRange i), true_or]
  | heat b k =>
    have mem : k ∈ heatItems := by cases k <;> decide
    simp only [mem_instances (f := fun k b => Ref.heat b k) mem (burners b), true_or, or_true]
  | chan c k =>
    have mem : k ∈ chanItems := by cases k <;> decide
    simp only [mem_instances (f := fun k c => Ref.chan c k) mem (List.mem_finRange c), true_or, or_true]
  | burner b k =>
    have mem : k ∈ burnerItems := by cases k <;> decide
    simp only [mem_instances (f := fun k b => Ref.burner b k) mem (burners b), true_or, or_true]
  | grate g k =>
    have mem : k ∈ grateItems := by cases k <;> decide
    simp only [mem_instances (f := fun k g => Ref.grate g k) mem (List.mem_finRange g), true_or, or_true]
  | cooler k =>
    have mem : k ∈ coolerItems := by cases k <;> decide
    simp only [List.mem_map_of_mem (f := Ref.cooler) mem, true_or, or_true]
  | fan f k =>
    have mem : k ∈ fanItems := by cases k <;> simp [fanItems]
    simp only [mem_instances (f := fun k f => Ref.fan f k) mem (List.mem_finRange f), true_or, or_true]
  | point p k =>
    have mem : k ∈ pointItems := by cases k <;> decide
    simp only [mem_instances (f := fun k p => Ref.point p k) mem (List.mem_finRange p), true_or, or_true]
  | fallbackHeat b => simp only [List.mem_map_of_mem (f := Ref.fallbackHeat) (burners b), or_true]
  | _ => simp only [List.mem_cons, true_or, or_true]

/-! ## What an area stores -/

theorem areaOf_length (image : List Byte) : (areaOf image).length = 2644 := by
  simp only [areaOf, imageLength, List.length_append, List.length_take, List.length_replicate]
  omega

/-- An area long enough stores each item of the order once. -/
theorem readItems_keys (refs : List Ref) (l : List Byte) (h : 4 * refs.length ≤ l.length) :
    (readItems refs l).map Prod.fst = refs := by
  induction refs generalizing l with
  | nil => rfl
  | cons r rs ih =>
    match l, h with
    | a :: b :: c :: d :: rest, h =>
      simp only [List.length_cons] at h
      rw [readItems, List.map_cons, ih rest (by omega)]

/-- The place at which an area stores an item. -/
theorem readItems_lookup (refs : List Ref) (l : List Byte) (h : 4 * refs.length ≤ l.length) {r : Ref} (mem : r ∈ refs) :
    (readItems refs l).lookup r = some (ofBeS ((l.drop (4 * refs.idxOf r)).take 4)) := by
  induction refs generalizing l with
  | nil => simp at mem
  | cons x rs ih =>
    match l, h with
    | a :: b :: c :: d :: rest, h =>
      simp only [List.length_cons] at h
      by_cases e : r = x
      · subst e; simp [readItems]
      · have later := ih rest (by omega) (List.mem_of_ne_of_mem e mem)
        have place : (x :: rs).idxOf r = rs.idxOf r + 1 := List.idxOf_cons_ne _ (Ne.symm e)
        rw [readItems, List.lookup_cons, beq_false_of_ne e, place, Nat.mul_succ]
        simpa using later

/-- In a list in which no key stands twice, each entry is the one found by its key. -/
theorem lookup_of_mem {l : List (Ref × Int)} (nodup : (l.map Prod.fst).Nodup) {p : Ref × Int} (mem : p ∈ l) :
    l.lookup p.1 = some p.2 := by
  induction l with
  | nil => simp at mem
  | cons x l ih =>
    obtain ⟨new, nodup⟩ := List.nodup_cons.mp nodup
    rcases List.mem_cons.mp mem with rfl | mem
    · rw [List.lookup_cons, beq_self_eq_true]
    · have other : p.1 ≠ x.1 := fun e => new (e ▸ List.mem_map_of_mem mem)
      rw [List.lookup_cons, beq_false_of_ne other]
      exact ih nodup mem

/-! ## The set that the load makes -/

/-- Items stored one after another, each at its own value: what the set then holds of an item. -/
theorem get_foldl_put (ok : Ref → Bool) (value : Ref → Int) (range : ∀ r, ok r = true → inRange r (value r) = true)
    (l : List (Ref × Int)) (values : ∀ p ∈ l, p.2 = value p.1) (set : Settings) (r : Ref) :
    (l.foldl (fun set p => if ok p.1 then set.put p.1 p.2 else set) set).get r
      = if r ∈ l.map Prod.fst ∧ ok r = true then value r else set.get r := by
  induction l generalizing set with
  | nil => simp
  | cons p l ih =>
    rw [List.foldl_cons, ih fun q mem => values q (List.mem_cons_of_mem p mem), values p List.mem_cons_self]
    by_cases e : r = p.1
    · subst e
      by_cases accepted : ok p.1 = true
      · simp [accepted, Settings.get_put_same _ (range _ accepted)]
      · simp [accepted]
    · have kept : (if ok p.1 then set.put p.1 (value p.1) else set).get r = set.get r := by
        split
        · exact Settings.get_put_other _ _ e
        · rfl
      have same : r ∈ (p :: l).map Prod.fst ↔ r ∈ l.map Prod.fst := by rw [List.map_cons, List.mem_cons, or_iff_right e]
      simp only [kept, same]

/-- The items that an image stores. -/
def storedItems (image : List Byte) : List (Ref × Int) := readItems allRefs ((areaOf image).drop 4)

theorem storedItems_room (image : List Byte) : 4 * allRefs.length ≤ ((areaOf image).drop 4).length := by
  rw [List.length_drop, areaOf_length, allRefs_length]; decide

theorem storedItems_keys (image : List Byte) : (storedItems image).map Prod.fst = allRefs :=
  readItems_keys _ _ (storedItems_room image)

/-- R175: each item as stored or at its default. -/
theorem setOf_get (image : List Byte) (r : Ref) :
    (setOf (storedItems image)).get r
      = if loadsAsStored (storedItems image) r then storedOf (storedItems image) r else defaultSettings.get r := by
  have range (r : Ref) (h : loadsAsStored (storedItems image) r = true) : inRange r (storedOf (storedItems image) r) = true := by
    simp only [loadsAsStored, Bool.and_eq_true] at h
    obtain ⟨⟨loaded, inside⟩, -⟩ := h
    simpa [isOut, loaded] using inside
  have values (p : Ref × Int) (mem : p ∈ storedItems image) : p.2 = storedOf (storedItems image) p.1 := by
    rw [storedOf, lookup_of_mem ((storedItems_keys image).symm ▸ allRefs_nodup) mem]
    rfl
  rw [setOf, get_foldl_put _ _ range _ values, storedItems_keys]
  simp [mem_allRefs]

/-- Every item of a loaded set is in its range, or at its default. -/
theorem judgeImage_get_bounded (image : List Byte) (r : Ref) :
    inRange r ((judgeImage image).2.get r) = true ∨ (judgeImage image).2.get r = defaultSettings.get r := by
  have bounded : inRange r ((setOf (storedItems image)).get r) = true
      ∨ (setOf (storedItems image)).get r = defaultSettings.get r := by
    rw [setOf_get]
    split
    next h =>
      simp only [loadsAsStored, Bool.and_eq_true] at h
      obtain ⟨⟨loaded, inside⟩, -⟩ := h
      exact .inl (by simpa [isOut, loaded] using inside)
    next => exact .inr rfl
  unfold judgeImage
  dsimp only
  split
  · exact .inr rfl
  · split
    · exact .inr rfl
    · split
      · exact bounded
      · exact bounded

theorem judgeImage_calDrive (image : List Byte) (c : Channel) : (judgeImage image).2.chans[c].calDrive ≤ 10000 := by
  rcases judgeImage_get_bounded image (.chan c .calDrive) with h | h
  · have bound : ((judgeImage image).2.chans[c].calDrive : Int) ≤ 10000 := (within_iff.mp h).2
    omega
  · have default : ((judgeImage image).2.chans[c].calDrive : Int) = 3000 := by
      simpa [Settings.get, ChanSet.item, defaultSettings] using h
    omega

end Sys2Proof.Machine
end

section
/-! PROOFS. What the operations of the blocks can do to what the laws speak of. -/

namespace Sys2Proof.Machine

-- One proof at a time: proofs that wait for one another hold a thread each, and the threads' memory is bounded.
set_option Elab.async false

theorem ofChannel_deviationPoint (c : Channel) : ofChannel (deviationPoint c) = false :=
  decide_eq_false (by dsimp only [deviationPoint]; omega)
theorem ofChannel_lowPoint (i : AnalogIn) : ofChannel (lowPoint i) = false :=
  decide_eq_false (by dsimp only [lowPoint]; omega)
theorem ofChannel_highPoint (i : AnalogIn) : ofChannel (highPoint i) = false :=
  decide_eq_false (by dsimp only [highPoint]; omega)
theorem ofChannel_stallPoint (g : Grate) : ofChannel (stallPoint g) = false :=
  decide_eq_false (by dsimp only [stallPoint]; omega)
theorem ofChannel_fanPoint (f : Fan) : ofChannel (fanPoint f) = false :=
  decide_eq_false (by dsimp only [fanPoint]; omega)
theorem ofChannel_tripPointOf (b : Burner) : ofChannel (tripPointOf b) = false := by cases b <;> rfl
theorem ofChannel_shortfallPoint (b : Burner) : ofChannel (shortfallPoint b) = false := by cases b <;> rfl

/-- A report of a condition that is no channel's hold or fault condition. -/
theorem Reaches.report {s t : State} {p : Point} {present : Bool} (h : Reaches s t) (other : ofChannel p = false := by rfl) :
    Reaches s (reportCond p present t) := h.same (reportCond_outline_other other present t)

theorem Reaches.reportIf {s t : State} {c : Prop} [Decidable c] {p : Point} {present : Bool} (h : Reaches s t)
    (other : ofChannel p = false := by rfl) : Reaches s (if c then reportCond p present t else t) := .ite (h.report other) h

theorem Reaches.reportUnless {s t : State} {c : Prop} [Decidable c] {p : Point} {present : Bool} (h : Reaches s t)
    (other : ofChannel p = false := by rfl) : Reaches s (if c then t else reportCond p present t) := .ite h (h.report other)

/-! ## The channels -/

theorem Outline.onChan_onChan (v : Outline) (c : Channel) (f g : ChanOutline → ChanOutline) :
    (v.onChan c f).onChan c g = v.onChan c (g ∘ f) := by simp [Outline.onChan]

theorem Outline.onChan_congr {v : Outline} {c : Channel} {f g : ChanOutline → ChanOutline}
    (h : f (v.chan c) = g (v.chan c)) : v.onChan c f = v.onChan c g := by simp only [Outline.onChan, h]

/-- A channel makes one of its changes. -/
theorem Reaches.chan {s t u : State} {c : Channel} {f : ChanOutline → ChanOutline} (h : Reaches s t)
    (now : u.outline = t.outline.onChan c f) (change : (t.outline.chan c).Change (t.outline.fires c) (f (t.outline.chan c))) :
    Reaches s u := by
  refine h.change ?_
  rw [now]
  exact .chan change

theorem enterDosing_outline (c : Channel) (s : State) :
    (enterDosing c s).outline = s.outline.onChan c fun x => { x with state := .dosing, u := 0, trim := 0 } :=
  onChan_outline c _ s

theorem enterHold_outline (c : Channel) (s : State) :
    (enterHold c s).outline = s.outline.onChan c fun x => { x with state := .hold, hold := true } := by
  unfold enterHold
  rw [reportCond_hold_outline, onChan_outline, Outline.onChan_onChan]
  exact Outline.onChan_congr rfl

theorem returnFromHold_outline (c : Channel) (s : State) :
    (returnFromHold c s).outline = s.outline.onChan c fun x => { x with state := .dosing, hold := false } := by
  unfold returnFromHold
  rw [reportCond_hold_outline, onChan_outline, Outline.onChan_onChan]
  exact Outline.onChan_congr rfl

theorem reportDeviation_outline {q : Prop} [Decidable q] (c : Channel) (present : Bool) (s : State) :
    (if q then reportCond (deviationPoint c) present s else s).outline = s.outline := by
  split
  · exact reportCond_outline_other (ofChannel_deviationPoint c) present s
  · rfl

theorem reportHold_outline {q : Prop} [Decidable q] (c : Channel) (s : State) :
    (if q then reportCond (holdPoint c) false s else s).outline
      = s.outline.onChan c fun x => { x with hold := if q then false else x.hold } := by
  split
  next h => rw [reportCond_hold_outline]
  next h => exact Outline.ext (Function.update_eq_self c _).symm rfl rfl rfl rfl rfl rfl rfl rfl

theorem enterFault_outline (c : Channel) (cause : FaultCause) (s : State) :
    (enterFault c cause s).outline = s.outline.onChan c fun x =>
      { x with state := .fault, u := 0, trim := 0, fault := true, hold := if x.state = .hold then false else x.hold } := by
  unfold enterFault
  dsimp only
  rw [reportHold_outline, reportDeviation_outline, reportCond_fault_outline, onChan_outline, Outline.onChan_onChan,
    Outline.onChan_onChan]
  exact Outline.onChan_congr rfl

theorem leaveToIdle_outline (c : Channel) (s : State) : (leaveToIdle c s).outline = s.outline.onChan c ChanOutline.left := by
  unfold leaveToIdle
  dsimp only
  split
  next feeding =>
    rw [reportDeviation_outline, reportHold_outline, onChan_outline, Outline.onChan_onChan]
    exact Outline.onChan_congr (Eq.trans rfl (if_pos feeding).symm)
  next out =>
    have stays : (s.outline.chan c).left = s.outline.chan c := if_neg out
    exact Outline.ext (by rw [Outline.onChan, stays, Function.update_eq_self]) rfl rfl rfl rfl rfl rfl rfl rfl

section
variable {s t : State}

theorem enterDosing_reaches {c : Channel} (h : Reaches s t)
    (was : (t.outline.chan c).state = .out ∨ (t.outline.chan c).state = .idle) (fire : t.outline.fires c) :
    Reaches s (enterDosing c t) := h.chan (enterDosing_outline c t) (.enterDosing was fire)

theorem enterHold_reaches {c : Channel} (h : Reaches s t) (was : (t.outline.chan c).state = .dosing) :
    Reaches s (enterHold c t) := h.chan (enterHold_outline c t) (.enterHold was)

theorem returnFromHold_reaches {c : Channel} (h : Reaches s t) (was : (t.outline.chan c).state = .hold) :
    Reaches s (returnFromHold c t) := h.chan (returnFromHold_outline c t) (.returnFromHold was)

theorem enterFault_reaches {c : Channel} {cause : FaultCause} (h : Reaches s t)
    (was : (t.outline.chan c).state = .dosing ∨ (t.outline.chan c).state = .hold) :
    Reaches s (enterFault c cause t) := h.chan (enterFault_outline c cause t) (.enterFault was)

theorem abortStage_reaches {c : Channel} {reason : CalReason} (h : Reaches s t) : Reaches s (abortStage c reason t) := by
  unfold abortStage
  split
  next was => exact h.chan (onChan_outline c _ t) (.toOut (.inr was))
  next => exact h

theorem abortStages_reaches {reason : CalReason} (h : Reaches s t) : Reaches s (abortStages reason t) :=
  .each (fun _ _ => abortStage_reaches) h

theorem channelsToOut_reaches (h : Reaches s t) : Reaches s (channelsToOut t) := by
  refine .each (fun c u k => ?_) h
  split
  next was => exact k.chan (onChan_outline c _ u) (.toOut (.inl was))
  next => exact k

theorem channelsFollowFiring_reaches {b : Burner} (h : Reaches s t) (fire : t.outline.burner b = .firing) :
    Reaches s (channelsFollowFiring b t) := by
  suffices Reaches s (channelsFollowFiring b t) ∧ (channelsFollowFiring b t).outline.burner b = .firing from this.1
  refine forEach_preserves (P := fun u => Reaches s u ∧ u.outline.burner b = .firing) (fun c u k => ?_) _ ⟨h, fire⟩
  obtain ⟨reached, lit⟩ := k
  split
  next follows =>
    simp only [Bool.and_eq_true, decide_eq_true_eq] at follows
    rw [feeds_eq] at follows
    exact ⟨enterDosing_reaches reached (.inr follows.2) ⟨b, follows.1, lit⟩, lit⟩
  next => exact ⟨reached, lit⟩

theorem handLoadCell_reaches {c : Channel} {arrival : Bool} (h : Reaches s t) :
    Reaches s (handLoadCell c arrival t) := by
  unfold handLoadCell
  split
  next was => exact .ite (enterHold_reaches h was) h
  next was => exact .ite h (returnFromHold_reaches h was)
  next => exact .ite (abortStage_reaches h) (.ite (.onChan h) h)
  all_goals exact h

theorem addDosed_outline (c : Channel) (b : Option Burner) (grams kj : Nat) (s : State) :
    (addDosed c b grams kj s).outline = s.outline := by
  unfold addDosed
  dsimp only
  split <;> rfl

theorem onChan_outline_same {c : Channel} {f : Chan → Chan} (s : State)
    (same : ∀ x, (f x).state = x.state ∧ (f x).u = x.u ∧ (f x).trim = x.trim := by exact fun _ => ⟨rfl, rfl, rfl⟩) :
    (s.onChan c f).outline = s.outline := by
  obtain ⟨state, u, trim⟩ := same s.chans[c]
  rw [onChan_outline]
  simp only [state, u, trim]
  exact Outline.ext (Function.update_eq_self c _) rfl rfl rfl rfl rfl rfl rfl rfl

theorem markInService_outline (c : Channel) (s : State) : (markInService c s).outline = s.outline := rfl

theorem addDosingSecond_outline (c : Channel) (s : State) : (addDosingSecond c s).outline = s.outline := rfl

theorem account_outline (c : Channel) (p : Int) (s : State) : (account c p s).outline = s.outline := by
  unfold account
  dsimp only
  split
  · rw [markInService_outline, addDosingSecond_outline, addDosed_outline]
    exact onChan_outline_same s
  · rw [markInService_outline, addDosed_outline]
    exact onChan_outline_same s

theorem lockUpdated_outline (c : Channel) (tolerance : Nat) (s : State) :
    (s.onChan c fun x => x.lockUpdated tolerance).outline = s.outline :=
  onChan_outline_same s fun x => by unfold Chan.lockUpdated; split <;> exact ⟨rfl, rfl, rfl⟩

theorem updateDeviation_outline (c : Channel) (s : State) : (updateDeviation c s).outline = s.outline := by
  unfold updateDeviation
  have counted (count : Nat) : (if s.live.chans[c].devTime ≤ count ∧ s.chans[c].devCond = false then
        addDeviation c (reportCond (deviationPoint c) true
          (s.onChan c fun x => { x with devCount := count, devCond := true }))
      else s.onChan c fun x => { x with devCount := count }).outline = s.outline := by
    split
    · refine (reportCond_outline_other (ofChannel_deviationPoint c) _ _).trans ?_
      exact onChan_outline_same s
    · exact onChan_outline_same s
  dsimp only
  split
  · exact counted _
  · rw [reportDeviation_outline]
    exact onChan_outline_same s

theorem supervise_reaches {c : Channel} {p : Int} (h : Reaches s t) (was : (t.outline.chan c).state = .dosing) :
    Reaches s (supervise c p t) := by
  unfold supervise
  dsimp only
  have counted (set : ChanSet) (tolerance : Nat) : ((updateDeviation c (t.onChan c fun x => x.lockUpdated tolerance)).onChan c
      fun x => x.countsUpdated set p).outline = t.outline := by
    rw [onChan_outline_same, updateDeviation_outline, lockUpdated_outline]
  split
  · exact h.same (counted _ _)
  · exact enterFault_reaches (h.same (counted _ _)) (.inl (by rw [counted]; exact was))

theorem clampInt_low {lo hi v : Int} (h : lo ≤ hi) : lo ≤ clampInt lo hi v := by unfold clampInt; split_ifs <;> omega
theorem clampInt_high {lo hi v : Int} (h : lo ≤ hi) : clampInt lo hi v ≤ hi := by unfold clampInt; split_ifs <;> omega

/-- The drive law keeps the drive within 0 to 10 000 and the trim within its limit, and nothing of the state (R55). -/
theorem driven_bounds (x : Chan) (set : ChanSet) :
    (x.driven set).state = x.state ∧ (x.driven set).u ≤ 10000
    ∧ ((x.driven set).trim = x.trim ∨ (-(set.trimLimit : Int) ≤ (x.driven set).trim ∧ (x.driven set).trim ≤ set.trimLimit)) := by
  unfold Chan.driven
  split
  · exact ⟨rfl, by simp, .inl rfl⟩
  · have top (v : Int) : clampInt 0 10000 v ≤ 10000 := clampInt_high (by decide)
    refine ⟨rfl, Int.toNat_le.mpr (top _), ?_⟩
    dsimp only
    split
    · exact .inl rfl
    · exact .inr ⟨clampInt_low (by omega), clampInt_high (by omega)⟩

theorem driven_reaches {c : Channel} (h : Reaches s t) (was : (t.outline.chan c).state = .dosing) :
    Reaches s (t.onChan c fun x => x.driven t.live.chans[c]) := by
  obtain ⟨state, top, bounded⟩ := driven_bounds t.chans[c] t.live.chans[c]
  refine h.chan (f := fun x => { x with u := _, trim := _ }) ?_ (.drive was top bounded)
  rw [onChan_outline]
  refine Outline.onChan_congr ?_
  rw [state]
  rfl

theorem drivenIfDosing_reaches {c : Channel} (h : Reaches s t) :
    Reaches s (if t.chans[c].state = .dosing then t.onChan c fun x => x.driven t.live.chans[c] else t) := by
  split
  next still => exact driven_reaches h still
  next => exact h

/-- The state of a channel in the outline. -/
theorem outline_chan_state (s : State) (c : Channel) : (s.outline.chan c).state = s.chans[c].state := rfl

theorem cycleWork_reaches {c : Channel} (h : Reaches s t) : Reaches s (cycleWork c t) := by
  unfold cycleWork
  dsimp only
  generalize taken : takeCount c (t.onChan c fun x => { x with r := t.planner.entries[c].rate, awaitsPlan := false }) = u
  have reached : Reaches s u := by
    rw [← taken]
    exact .onScan (.onChan h)
  split
  · exact .onChan reached
  · exact .onTotals (.onChan reached)
  · exact .onTotals (.onChan reached)
  · exact .onTotals (.onChan reached)
  · exact reached.same (account_outline _ _ _)
  next was =>
    exact drivenIfDosing_reaches (supervise_reaches (reached.same (account_outline _ _ _))
      (by rw [account_outline, outline_chan_state, was]))

theorem holdExpires_reaches {c : Channel} (h : Reaches s t) : Reaches s (holdExpires c t) := by
  unfold holdExpires
  split
  next was => exact enterFault_reaches h (.inr was.1)
  next => exact h

/-- The live set changes in items that no law speaks of. -/
theorem onLive_outline_same {f : Settings → Settings} (s : State)
    (chans : ∀ c : Channel, (f s.live).chans[c].assign = s.live.chans[c].assign
      ∧ (f s.live).chans[c].trimLimit = s.live.chans[c].trimLimit ∧ (f s.live).chans[c].calDrive = s.live.chans[c].calDrive)
    (points : ∀ p : Point, (f s.live).points[p].target = s.live.points[p].target) :
    (s.onLive f).outline = s.outline := by
  refine Outline.ext (funext fun c => ?_) rfl rfl rfl rfl (funext fun p => ?_) rfl rfl rfl
  · obtain ⟨assign, trimLimit, calDrive⟩ := chans c
    exact ChanOutline.ext rfl rfl rfl rfl rfl assign trimLimit calDrive
  · show (if _ then (f s.live).points[p].target else _) = if _ then s.live.points[p].target else _
    rw [points]

/-- Does a law speak of the item: an assignment, a trim limit, a calibration drive or a trip target? -/
def Ref.isOutlined : Ref → Bool
  | .chan _ .assign => true
  | .chan _ .trimLimit => true
  | .chan _ .calDrive => true
  | .point _ .target => true
  | _ => false

theorem put_outline {r : Ref} (quiet : r.isOutlined = false) (v : Int) (s : State) :
    (s.onLive fun l => l.put r v).outline = s.outline := by
  refine onLive_outline_same s (fun d => ?_) fun q => ?_
  · cases r with
    | chan c k =>
      by_cases e : c = d
      · subst e
        simp only [Settings.put, Fin.getElem_fin, upd_same]
        cases k <;> first | exact ⟨rfl, rfl, rfl⟩ | cases quiet
      · simp [Settings.put, upd_other _ _ e]
    | _ => exact ⟨rfl, rfl, rfl⟩
  · cases r with
    | point p k =>
      by_cases e : p = q
      · subst e
        simp only [Settings.put, Fin.getElem_fin, upd_same]
        cases k <;> first | rfl | cases quiet
      · simp [Settings.put, upd_other _ _ e]
    | _ => rfl

theorem completeStage_reaches {c : Channel} {g : Stage} (h : Reaches s t) (was : (t.outline.chan c).state = .calib) :
    Reaches s (completeStage c g t) := by
  have drawn : (if g.count = 0 then t.drawn else t).outline = t.outline := by split <;> rfl
  unfold completeStage
  dsimp only
  generalize ended : (if g.count = 0 then t.drawn else t).onChan c _ = u
  have out : Reaches s u := by
    refine h.chan (f := fun x => { x with state := .out, u := 0 }) ?_ (.toOut (.inr was))
    rw [← ended, onChan_outline, drawn]
    refine Outline.onChan_congr ?_
    rw [← drawn]
    rfl
  split
  · exact out
  · split
    · exact .onChan (out.same (put_outline (r := .chan c .tare) rfl _ _))
    · exact out.same (put_outline (r := .chan c .span) rfl _ _)

theorem stageExpires_reaches {c : Channel} (h : Reaches s t) : Reaches s (stageExpires c t) := by
  unfold stageExpires
  split
  · exact h
  · split
    next was => exact completeStage_reaches h was
    next => exact h

/-! ## The planner -/

theorem shortfallCheck_reaches {b : Burner} (h : Reaches s t) : Reaches s (shortfallCheck b t) :=
  .ite (.ite (.report (.onPlanner (.onPlanner h)) (ofChannel_shortfallPoint b)) (.onPlanner h))
    (.reportIf (.onPlanner h) (ofChannel_shortfallPoint b))

theorem planCycleOf_reaches {b : Burner} (h : Reaches s t) : Reaches s (planCycleOf b t) := by
  have planned {f : Demand → Demand} : Reaches s (shortfallCheck b (planBurner b (t.onDemand b f))) :=
    shortfallCheck_reaches ((planBurner_touches _ _).reaches (.onPlanner h))
  exact .ite (.onTotals (.ite (.onTotals planned) planned))
    (shortfallCheck_reaches ((emptyPlan_touches _ _).reaches (.onPlanner h)))

theorem planAndDose_reaches (h : Reaches s t) : Reaches s (planAndDose t) :=
  .each (fun _ _ => cycleWork_reaches) (.each (fun _ _ k => .ite (.onPlanner k) k)
    (planCycleOf_reaches (planCycleOf_reaches (.onPlanner h))))

theorem handReplan_outline (s : State) : (handReplan s).outline = s.outline :=
  forEach_keeps (fun _ t => onChan_outline_same t) _ s

theorem capEvent_outline (cap : Nat) (s : State) : (capEvent cap s).outline = s.outline := by
  unfold capEvent
  dsimp only
  split
  · rw [handReplan_outline, (replan_touches _).outline]; rfl
  · rfl

/-! ## The burners -/

/-- One channel's part of what follows when its burner leaves FIRING. -/
theorem leaveToIdle_of_feeds_outline (b : Burner) (c : Channel) (s : State) :
    (if feeds s c b then leaveToIdle c s else s).outline
      = s.outline.onChan c fun x => if x.assign.feeds b then x.left else x := by
  rw [feeds_eq]
  split
  next feed => exact (leaveToIdle_outline c s).trans (Outline.onChan_congr (if_pos feed).symm)
  next other =>
    have stays : (if (s.outline.chan c).assign.feeds b then (s.outline.chan c).left else s.outline.chan c)
      = s.outline.chan c := if_neg other
    exact Outline.ext (by rw [Outline.onChan, stays, Function.update_eq_self]) rfl rfl rfl rfl rfl rfl rfl rfl

theorem channelsFollowStop_outline (b : Burner) (s : State) :
    (channelsFollowStop b s).outline
      = { s.outline with chan := fun c =>
          if (s.outline.chan c).assign.feeds b then (s.outline.chan c).left else s.outline.chan c } := by
  have rounds (l : List Channel) (nodup : l.Nodup) (s : State) :
      (forEach l (fun c t => if feeds t c b then leaveToIdle c t else t) s).outline
        = { s.outline with chan := fun c => if c ∈ l then
            if (s.outline.chan c).assign.feeds b then (s.outline.chan c).left else s.outline.chan c
            else s.outline.chan c } := by
    induction l generalizing s with
    | nil => simp [forEach]
    | cons a l ih =>
      obtain ⟨new, nodup⟩ := List.nodup_cons.mp nodup
      refine (ih nodup _).trans ?_
      simp only [leaveToIdle_of_feeds_outline]
      refine Outline.ext (funext fun c => ?_) rfl rfl rfl rfl rfl rfl rfl rfl
      by_cases e : c = a
      · subst e; simp [Outline.onChan, new]
      · simp [Outline.onChan, e]
  simpa [channelsFollowStop] using rounds (List.finRange 6) (List.nodup_finRange 6) s

theorem followLeaving_outline (b : Burner) (s : State) :
    (followLeaving b s).outline
      = { s.outline with chan := fun c =>
          if (s.outline.chan c).assign.feeds b then (s.outline.chan c).left else s.outline.chan c } := by
  rw [followLeaving, channelsFollowStop_outline, (plannerLeavesFiring_touches b s).outline]

theorem leaving_reaches {b : Burner} {f : Burn → Burn} (h : Reaches s t) (lit : t.outline.burner b ≠ .off) :
    Reaches s (followLeaving b (t.onBurn b f)) := by
  refine h.change ?_
  rw [followLeaving_outline, onBurn_outline]
  exact .leave lit

theorem enterTripped_reaches {b : Burner} {cause : Cause} (h : Reaches s t) (lit : t.outline.burner b ≠ .off) :
    Reaches s (enterTripped b cause t) := by
  have tripped {f : Burn → Burn} :
      Reaches s (addTrip b (reportCond (tripPointOf b) true (followLeaving b (t.onBurn b f)))) :=
    .onTotals (.report (leaving_reaches h lit) (ofChannel_tripPointOf b))
  exact .ite (.onHanded tripped) tripped

theorem takeCause_reaches {b : Burner} {cause : Cause} (h : Reaches s t) : Reaches s (takeCause b cause t) := by
  have lit {x : BurnState} (was : (t.burns.get b).state = x) (k : x ≠ .off) : t.outline.burner b ≠ .off :=
    fun e => k (was.symm.trans e)
  unfold takeCause
  split
  next => exact h
  next => exact .onBurn h
  next was => exact enterTripped_reaches h (lit was (by decide))
  next was => exact enterTripped_reaches h (lit was (by decide))
  next was => exact enterTripped_reaches h (lit was (by decide))
  next was => exact enterTripped_reaches h (lit was (by decide))

/-- A burner that neither is in OFF nor fires goes to another state. -/
theorem Reaches.burner {b : Burner} {f : Burn → Burn} {x : BurnState} (h : Reaches s t) (was : (t.burns.get b).state = x)
    (lit : x ≠ .off := by decide) (cold : x ≠ .firing := by decide) : Reaches s (t.onBurn b f) := by
  refine h.change ?_
  rw [onBurn_outline]
  exact .burner (fun e => lit (was.symm.trans e)) fun e => cold (was.symm.trans e)

theorem purgeJudged_reaches {b : Burner} (h : Reaches s t) : Reaches s (purgeJudged b t) := .ite (.onBurn h) (.onBurn h)

theorem handDraught_reaches {b : Burner} (h : Reaches s t) : Reaches s (handDraught b t) := .ite (purgeJudged_reaches h) h

theorem flameSample_reaches {b : Burner} (h : Reaches s t) : Reaches s (flameSample b t) :=
  .ite (takeCause_reaches (.onBurn h)) (.onBurn h)

theorem handFlame_reaches {b : Burner} (h : Reaches s t) : Reaches s (handFlame b t) := by
  unfold handFlame
  split
  next was => exact .ite (h.burner was) (.onBurn h)
  next => exact flameSample_reaches h
  next => exact flameSample_reaches h
  all_goals exact h

theorem handInlet_reaches (h : Reaches s t) : Reaches s (handInlet t) := .ite (takeCause_reaches h) h

theorem purgeExpires_reaches {b : Burner} (h : Reaches s t) : Reaches s (purgeExpires b t) := by
  unfold purgeExpires
  split
  next was => exact h.burner was.1
  next => exact h

theorem trialExpires_reaches {b : Burner} (h : Reaches s t) : Reaches s (trialExpires b t) :=
  .ite (takeCause_reaches h) h

theorem stabiliseExpires_reaches {b : Burner} (h : Reaches s t) : Reaches s (stabiliseExpires b t) := by
  unfold stabiliseExpires
  split
  next was =>
    refine channelsFollowFiring_reaches (.onPlanner (h.burner was.1)) ?_
    show ((t.burns.upd b _).get b).state = .firing
    rw [PerBurner.get_upd]
  next => exact h

theorem stopBurner_reaches {b : Burner} (h : Reaches s t) : Reaches s (stopBurner b t) := by
  unfold stopBurner
  dsimp only
  split
  next active =>
    split
    next => exact leaving_reaches h fun e => by rw [show (t.burns.get b).state = .off from e] at active; cases active
    next cold =>
      refine h.burner rfl (fun e => by rw [e] at active; cases active) fun e => cold ?_
      simp [fires, e]
  next => exact h

/-! ## The cooler -/

theorem computeDamper_reaches {f : Fan} (h : Reaches s t) : Reaches s (computeDamper f t) := h

theorem enterOverload_reaches (h : Reaches s t) : Reaches s (enterOverload t) := by
  unfold enterOverload
  exact .onCooler (.report (.each (fun _ _ => computeDamper_reaches) ((Reaches.onCooler h).same (capEvent_outline _ _))))

theorem leaveOverload_reaches (h : Reaches s t) : Reaches s (leaveOverload t) := by
  unfold leaveOverload
  exact .onCooler (.report (.each (fun _ _ => computeDamper_reaches) ((Reaches.onCooler h).same (capEvent_outline _ _))))

theorem enteringEvent_reaches (h : Reaches s t) : Reaches s (enteringEvent t) :=
  .ite (.onCooler h) (enterOverload_reaches h)

theorem clearTest_reaches (h : Reaches s t) : Reaches s (clearTest t) :=
  .ite (.ite (leaveOverload_reaches (.onCooler h)) (.onCooler h)) h

theorem judgeFan_reaches {f : Fan} (h : Reaches s t) : Reaches s (judgeFan f t) :=
  .ite (.ite (.ite (.ite (.report (.onFan (.onFan h)) (ofChannel_fanPoint f)) (.onFan h)) (.onFan h))
    (.reportIf (.onFan h) (ofChannel_fanPoint f))) h

theorem updateFan_reaches {f : Fan} (h : Reaches s t) : Reaches s (updateFan f t) :=
  .ite (computeDamper_reaches (.ite (.onFan (judgeFan_reaches h)) (judgeFan_reaches h))) h

theorem coolerCycle_reaches (h : Reaches s t) : Reaches s (coolerCycle t) := by
  have tested : Reaches s (pressureTest (forEach (List.finRange 8) updateFan (takeTables t))) :=
    have fans := Reaches.each (fun _ _ => updateFan_reaches) (Reaches.onCooler h)
    .ite (.onCooler fans) (.onCooler fans)
  unfold coolerCycle
  dsimp only
  exact .ite (.onTotals (clearTest_reaches (.ite (enteringEvent_reaches tested) tested)))
    (clearTest_reaches (.ite (enteringEvent_reaches tested) tested))

theorem fanToStandby_outline (f : Fan) (s : State) : (fanToStandby f s).outline = s.outline := by
  unfold fanToStandby
  dsimp only
  split
  · split
    · exact reportCond_outline_other (ofChannel_fanPoint f) _ _
    · rfl
  · rfl

theorem fansResume_reaches (h : Reaches s t) : Reaches s (fansResume t) := .each (fun _ _ k => .ite (computeDamper_reaches k) k) h

theorem newRate_outline (g : Grate) (s : State) : (match newRate s g with
    | none => s
    | some r => s.onGrate g fun x => { x with rate := r, staged := some (timingFor r s.live.grates[g]) }).outline = s.outline := by
  split
  · rfl
  · exact onGrate_outline_same s fun _ => rfl

theorem forwardStart_outline (g : Grate) (s : State) :
    (forwardStart g s).outline = s.outline.onGrate g fun x => { x with phase := some .forward, guarded := false } := by
  refine (newRate_outline g _).trans ?_
  split
  · rw [onGrate_outline_same _ (by exact fun _ => rfl)]
    exact onGrate_outline g _ s
  · exact onGrate_outline g _ s

/-- A section makes one of its changes, in an operation that does more than update its record. -/
theorem Reaches.grateTo {u : State} {g : Grate} {f : GrateOutline → GrateOutline} (h : Reaches s t)
    (now : u.outline = t.outline.onGrate g f)
    (change : (t.outline.grate g).Change (t.outline.mode ≠ .standby) (f (t.outline.grate g))) : Reaches s u := by
  refine h.change ?_
  rw [now]
  exact .grate change

theorem forwardStart_reaches {g : Grate} (h : Reaches s t) (phase : (t.outline.grate g).phase ≠ none) :
    Reaches s (forwardStart g t) := h.grateTo (forwardStart_outline g t) (.forward phase)

theorem guardEnds_reaches {g : Grate} (h : Reaches s t) : Reaches s (guardEnds g t) := by
  have ended : Reaches s (t.onGrate g fun x => { x with guard := none }) := h.grate .guardEnds
  unfold guardEnds
  dsimp only
  split
  next waits => exact forwardStart_reaches ended (by
    show (t.onGrate g fun x => { x with guard := none }).cooler.grates[g].phase ≠ none
    rw [waits.1]; decide)
  next => exact ended

theorem stageTiming_reaches {g : Grate} {x : Timing} (h : Reaches s t) : Reaches s (stageTiming g x t) := by
  unfold stageTiming
  dsimp only
  split
  · exact .onGrate h
  · exact .ite (guardEnds_reaches (.onGrate h)) (.onGrate h)

theorem stallGrate_reaches {g : Grate} (h : Reaches s t) : Reaches s (stallGrate g t) :=
  have stalled {f : GrateRec → GrateRec} (now : ∀ x, (f x).outline = { x.outline with state := .stalled, phase := none, runOut := false }) :
      Reaches s (reportCond (stallPoint g) true (t.onGrate g f)) :=
    .report (h.grate (by rw [now]; exact .stall)) (ofChannel_stallPoint g)
  .ite (enteringEvent_reaches (stalled fun _ => rfl)) (stalled fun _ => rfl)

/-- R90: a section that stands in a phase. -/
theorem phase_of_phaseRuns {s : State} {g : Grate} {p : Phase} (h : phaseRuns s g p = true) :
    s.cooler.grates[g].outline.phase = some p := by
  simp only [phaseRuns, Bool.and_eq_true, decide_eq_true_eq] at h
  exact h.1

theorem forwardExpires_reaches {g : Grate} (h : Reaches s t) : Reaches s (forwardExpires g t) := by
  unfold forwardExpires
  split
  next runs =>
    exact .ite (h.grate (.deadA (phase_of_phaseRuns runs)))
      (.ite (h.grate (.deadA (phase_of_phaseRuns runs))) (stallGrate_reaches h))
  next => exact h

theorem countStroke_reaches {g : Grate} (h : Reaches s t) : Reaches s (countStroke g t) :=
  have counted : Reaches s (t.onGrate g GrateRec.strokeCounted) :=
    .onGrate h fun x => by unfold GrateRec.strokeCounted; split <;> rfl
  .ite (.onTotals (.onTotals counted)) (.onTotals counted)

theorem deadAExpires_reaches {g : Grate} (h : Reaches s t) : Reaches s (deadAExpires g t) := by
  unfold deadAExpires
  split
  next runs =>
    have returning {f : GrateRec → GrateRec} (now : ∀ x, (f x).outline = { x.outline with phase := some .ret }) :
        Reaches s (t.onGrate g f) := h.grate (by rw [now]; exact .ret (phase_of_phaseRuns runs))
    exact .ite (countStroke_reaches (returning fun _ => rfl)) (returning fun _ => rfl)
  next => exact h

theorem returnExpires_reaches {g : Grate} (h : Reaches s t) : Reaches s (returnExpires g t) := by
  unfold returnExpires
  split
  next runs =>
    refine h.grate ?_
    have returned := GrateOutline.Change.returned (awake := t.floor.mode ≠ .standby) (phase_of_phaseRuns runs)
    convert returned using 1
    dsimp only [GrateOutline.returned, GrateRec.outline]
    split <;> rename_i state <;> simp only [state] <;> rfl
  next => exact h

theorem restExpires_reaches {g : Grate} (h : Reaches s t) : Reaches s (restExpires g t) := by
  unfold restExpires
  dsimp only
  split
  next runs =>
    refine .ite (.onGrate h) (forwardStart_reaches (.onGrate h) ?_)
    rw [onGrate_outline_same t (by exact fun _ => rfl), show (t.outline.grate g).phase = some .rest from phase_of_phaseRuns runs]
    decide
  next => exact h

theorem guardExpires_reaches {g : Grate} (h : Reaches s t) : Reaches s (guardExpires g t) := .ite (guardEnds_reaches h) h

/-- R95, of a section's record. -/
def GrateRec.stopped (x : GrateRec) : GrateRec :=
  match x.state with
  | .running =>
    if x.phase = some .rest ∨ x.phase = none then { x with state := .stopped, phase := none, phaseTimer := none }
    else { x with state := .stopped, runOut := true }
  | .single =>
    if x.phase = some .rest ∨ x.phase = none then { x with state := .stopped, phase := none, phaseTimer := none }
    else { x with state := .stopped, runOut := true }
  | .stopped => x
  | .stalled => x

theorem stopGrate_eq (g : Grate) (s : State) : stopGrate g s = s.onGrate g GrateRec.stopped := rfl

theorem GrateRec.stopped_outline (x : GrateRec) : x.stopped.outline = x.outline.stopped := by
  have moving (h : x.state = .running ∨ x.state = .single) : x.outline.stopped
      = if x.phase = some .rest ∨ x.phase = none then { x.outline with state := .stopped, phase := none }
        else { x.outline with state := .stopped, runOut := true } := if_pos h
  have still (h : ¬(x.state = .running ∨ x.state = .single)) : x.outline.stopped = x.outline := if_neg h
  unfold GrateRec.stopped
  split
  next state => rw [moving (.inl state)]; split <;> rfl
  next state => rw [moving (.inr state)]; split <;> rfl
  next state => rw [still (by simp [state])]
  next state => rw [still (by simp [state])]

theorem stopGrate_reaches {g : Grate} (h : Reaches s t) : Reaches s (stopGrate g t) :=
  h.grate (f := GrateRec.stopped) (by rw [GrateRec.stopped_outline]; exact .stop)

theorem stopGrates_reaches (h : Reaches s t) : Reaches s (stopGrates t) := .each (fun _ _ => stopGrate_reaches) h

theorem onGrate_onGrate (g : Grate) (f f' : GrateRec → GrateRec) (s : State) :
    (s.onGrate g f).onGrate g f' = s.onGrate g (f' ∘ f) := by simp [State.onGrate, State.onCooler, upd]

theorem startGrateStroke_reaches {g : Grate} {x : GrateState} (h : Reaches s t) (was : t.cooler.grates[g].state = .stopped)
    (awake : t.floor.mode ≠ .standby) (now : x = .running ∨ x = .single) : Reaches s (startGrateStroke g x t) := by
  unfold startGrateStroke
  dsimp only
  split
  next stroke => exact h.grate (.takeOver was stroke awake now)
  next =>
    split
    next guarded =>
      refine h.grateTo (g := g) (f := fun x' => { x' with state := x, runOut := false, phase := some .rest }) ?_ (.wait awake now)
      rw [onGrate_onGrate, onGrate_outline]
      rfl
    next free =>
      refine h.grateTo (g := g) (f := fun x' => { x' with state := x, runOut := false, phase := some .forward, guarded := false })
        ?_ (.start awake now)
      rw [forwardStart_outline, onGrate_outline]
      simp [Outline.onGrate, State.outline, GrateRec.outline]

end

end Sys2Proof.Machine
end

section
/-! PROOFS. What the inputs, the floor, the alarm table, the shift, the store and a start can do to what the laws speak of. -/

namespace Sys2Proof.Machine

-- One proof at a time: proofs that wait for one another hold a thread each, and the threads' memory is bounded.
set_option Elab.async false

section
variable {s t : State}

/-! ## The inputs -/

theorem evaluate_reaches {i : AnalogIn} (h : Reaches s t) : Reaches s (evaluate i t) :=
  .reportUnless (.reportUnless (.onScan h) (ofChannel_lowPoint i)) (ofChannel_highPoint i)

theorem handBedPressure_reaches (h : Reaches s t) : Reaches s (handBedPressure t) :=
  .onCooler h fun x => by split <;> rfl

theorem handOver_reaches {i : AnalogIn} {arrival : Bool} (h : Reaches s t) : Reaches s (handOver i arrival t) := by
  unfold handOver
  split
  · exact handLoadCell_reaches h
  · exact .ite (.ite (handFlame_reaches h) h) (.ite (.ite (handFlame_reaches h) h)
      (.ite (.ite (handBedPressure_reaches h) h) (.ite (.ite (handInlet_reaches h) h)
        (.ite (handDraught_reaches (handDraught_reaches h)) h))))

theorem takeSample_reaches {i : AnalogIn} {sample : Nat} (h : Reaches s t) : Reaches s (takeSample i sample t) :=
  handOver_reaches (.ite (evaluate_reaches (.onScan h)) (.onScan h))

theorem unsettleInputs_reaches (h : Reaches s t) : Reaches s (unsettleInputs t) :=
  .each (fun _ _ k => .ite k (handOver_reaches (.onScan k))) h

theorem settleInput_reaches {i : AnalogIn} (h : Reaches s t) : Reaches s (settleInput i t) := by
  unfold settleInput
  dsimp only
  split
  · exact handOver_reaches (.onScan h)
  · exact h

theorem takeEdge_reaches {e : PulseIn} {a b : Bool} (h : Reaches s t) : Reaches s (takeEdge e a b t) :=
  .ite (.onScan h) (.onScan h)

theorem movePin_reaches {d : DiscreteIn} {level : Bool} (h : Reaches s t) : Reaches s (movePin d level t) :=
  .ite (.onScan h) (.onScan h)

theorem emergencyStop_reaches (h : Reaches s t) : Reaches s (emergencyStop t) :=
  abortStages_reaches (stopGrates_reaches (.onHanded (.report h)))

theorem crusherStopped_reaches (h : Reaches s t) : Reaches s (crusherStopped t) :=
  enteringEvent_reaches (stopGrate_reaches (.report h))

theorem strokeSwitchCloses_reaches {g : Grate} (h : Reaches s t) : Reaches s (strokeSwitchCloses g t) :=
  .onGrate h fun x => by split <;> rfl

theorem discreteChanged_reaches {d : DiscreteIn} {level : Bool} (h : Reaches s t) :
    Reaches s (discreteChanged d level t) := by
  unfold discreteChanged
  split
  · exact .ite (strokeSwitchCloses_reaches h) h
  · exact .ite (.ite (.report h) (emergencyStop_reaches h)) (.ite (.report h) (crusherStopped_reaches h))

theorem debounceExpires_reaches {d : DiscreteIn} (h : Reaches s t) : Reaches s (debounceExpires d t) :=
  .ite (.ite (.onScan h) (discreteChanged_reaches (.onScan h))) h

theorem reportForced_reaches {before : Bool} (h : Reaches s t) : Reaches s (reportForced before t) := .reportUnless h

theorem forceAnalog_reaches {i : AnalogIn} {v : Nat} (h : Reaches s t) : Reaches s (forceAnalog i v t) :=
  handOver_reaches (evaluate_reaches (reportForced_reaches (.onScan h)))

theorem releaseAnalog_reaches {i : AnalogIn} (h : Reaches s t) : Reaches s (releaseAnalog i t) :=
  .ite (handOver_reaches (reportForced_reaches (.onScan h))) h

/-! ## The floor -/

/-- The floor enters a mode other than STANDBY, and SETTLE only from STANDBY. -/
theorem Reaches.awaken {f : Floor → Floor} {m : FloorMode} (h : Reaches s t) (now : ∀ x, (f x).mode = m)
    (up : m ≠ .standby ∧ (m = .settle → t.floor.mode = .standby)) : Reaches s (t.onFloor f) := by
  have outline : (t.onFloor f).outline = { t.outline with mode := m } := by rw [← now t.floor]; rfl
  refine h.change ?_
  rw [outline]
  exact .awaken up

theorem enterFallback_reaches (h : Reaches s t) : Reaches s (enterFallback t) := by
  have entered : Reaches s (t.onFloor fun x => { x with mode := .fallback, stage := some .frozen }) :=
    h.awaken (m := .fallback) (fun _ => rfl) ⟨by decide, by simp⟩
  have frozen {u : State} (k : Reaches s u) : Reaches s (forEach bothBurners
      (fun b u => writeRequest b (u.planner.demand.get b).hApp u) u) := .each (fun _ _ k => .onPlanner k) k
  unfold enterFallback
  exact .onFloor (abortStages_reaches (frozen entered))

theorem linkFoundLost_reaches (h : Reaches s t) : Reaches s (linkFoundLost t) := .report (.onFloor h)

theorem supervisionExpires_reaches (h : Reaches s t) : Reaches s (supervisionExpires t) := by
  unfold supervisionExpires
  refine .ite ?_ h
  dsimp only
  split
  · exact enterFallback_reaches (linkFoundLost_reaches (.onFloor h))
  · exact linkFoundLost_reaches (.onFloor h)
  · exact linkFoundLost_reaches (.onFloor h)
  · exact .onFloor h

theorem validFrame_reaches (h : Reaches s t) : Reaches s (validFrame t) := by
  have found {u : State} (k : Reaches s u) : Reaches s (linkFoundAgain u) := .ite (.report (.onFloor k)) k
  exact .ite ((found (.onFloor h)).awaken (m := .normal) (fun _ => rfl) ⟨by decide, by simp⟩) (found (.onFloor h))

theorem graceExpires_reaches (h : Reaches s t) : Reaches s (graceExpires t) :=
  .ite (.each (fun _ _ k => .onPlanner k) (.onFloor h)) h

theorem stopGrates_outline (s : State) :
    (stopGrates s).outline = { s.outline with grate := fun g => (s.outline.grate g).stopped } := by
  have again (x : GrateOutline) : x.stopped.stopped = x.stopped := by
    have rested : ¬(x.stopped.state = .running ∨ x.stopped.state = .single) := not_or.mpr x.stopped_resting
    exact if_neg rested
  have one (g : Grate) (t : State) : (stopGrate g t).outline = t.outline.onGrate g GrateOutline.stopped := by
    rw [stopGrate_eq, onGrate_outline, GrateRec.stopped_outline]; rfl
  have rounds (l : List Grate) (s : State) : (forEach l stopGrate s).outline
      = { s.outline with grate := fun g => if g ∈ l then (s.outline.grate g).stopped else s.outline.grate g } := by
    induction l generalizing s with
    | nil => simp [forEach]
    | cons a l ih =>
      refine (ih _).trans ?_
      simp only [one]
      refine Outline.ext rfl rfl (funext fun g => ?_) rfl rfl rfl rfl rfl rfl
      by_cases e : g = a
      · subst e; simp [Outline.onGrate, again]
      · simp [Outline.onGrate, e]
  simpa [stopGrates] using rounds (List.finRange 3) s

theorem enterStandbyMode_reaches (h : Reaches s t) (off : ∀ b, (t.burns.get b).state = .off) :
    Reaches s (enterStandbyMode t) := by
  unfold enterStandbyMode
  refine channelsToOut_reaches (h.change ?_)
  rw [forEach_keeps (g := State.outline) fanToStandby_outline, stopGrates_outline]
  exact .sleep off

theorem settleExpires_reaches (h : Reaches s t) : Reaches s (settleExpires t) := by
  unfold settleExpires
  dsimp only
  have resumed {f : Floor → Floor} (now : ∀ x, (f x).mode = .normal) :
      Reaches s (fansResume (settleInputs (t.onFloor f))) :=
    fansResume_reaches (.each (fun _ _ => settleInput_reaches) (h.awaken now ⟨by decide, by simp⟩))
  exact .ite (.ite (enterFallback_reaches (resumed fun _ => rfl)) (resumed fun _ => rfl)) h

theorem modeSecond_reaches (h : Reaches s t) : Reaches s (modeSecond t) := by
  unfold modeSecond
  split
  · exact h
  all_goals exact .onTotals h

theorem planCycleExpires_reaches (h : Reaches s t) : Reaches s (planCycleExpires t) :=
  have forced {u : State} (k : Reaches s u) : Reaches s (forcedSecond u) := .ite (.onTotals k) k
  have fired {u : State} (k : Reaches s u) : Reaches s (firingSeconds u) := .each (fun _ _ k => .ite (.onTotals k) k) k
  .ite (modeSecond_reaches (coolerCycle_reaches (fired (forced (planAndDose_reaches (.onPlanner h)))))) h

/-! ## The Alarm Table -/

theorem Reaches.free {u : State} {p : Point} (h : Reaches s t) (now : u.outline = t.outline.setHeld p false) : Reaches s u := by
  refine h.change ?_
  rw [now]
  exact .free

theorem ackPoint_reaches {p : Point} (h : Reaches s t) : Reaches s (ackPoint p t) := by
  unfold ackPoint
  split
  next was =>
    refine h.same ((leavePlacement_outline p _).trans (onPoint_outline_same p _ t rfl ?_))
    rw [was]; rfl
  next was =>
    refine h.same ((leavePlacement_outline p _).trans (onPoint_outline_same p _ t rfl ?_))
    rw [was]; rfl
  next => exact h

theorem points_map_outline {f : AlarmTable → AlarmTable} (g : PointRec → PointRec) (s : State)
    (points : (f s.alarm).points = s.alarm.points.map g) (cond : ∀ x, (g x).cond = x.cond)
    (held : ∀ x, (g x).state.isHeld = x.state.isHeld) : (s.onAlarm f).outline = s.outline := by
  refine Outline.ext (funext fun c => ?_) rfl rfl rfl (funext fun p => ?_) rfl rfl rfl rfl
  · simp only [State.outline, chanOutline, points, State.onAlarm, Fin.getElem_fin, Vector.getElem_map, cond]; rfl
  · simp only [State.outline, points, State.onAlarm, Fin.getElem_fin, Vector.getElem_map, held]

theorem ackAll_reaches (h : Reaches s t) : Reaches s (ackAll t) :=
  h.same (points_map_outline (fun x => { x with state := ackedState x.state }) t rfl (fun _ => rfl)
    fun x => by cases x with | mk state _ _ _ _ => cases state <;> rfl)

theorem closeAlarms_outline (s : State) : (closeAlarms s).outline = s.outline :=
  points_map_outline (f := fun t => { t with points := t.points.map fun x => { x with count := 0 } })
    (fun x => { x with count := 0 }) s rfl (fun _ => rfl) fun _ => rfl

/-- A point enters SHELVED or DISABLED while every burner of its trip target is in OFF. -/
theorem Reaches.holdBack {u : State} {p : Point} (h : Reaches s t) (now : u.outline = t.outline.setHeld p true)
    (off : ∀ b, (tripTarget t p).includes b = true → (t.burns.get b).state = .off) : Reaches s u := by
  refine h.change ?_
  rw [now]
  exact .hold off

theorem shelvePoint_reaches {p : Point} {n : Nat} (h : Reaches s t)
    (off : ∀ b, (tripTarget t p).includes b = true → (t.burns.get b).state = .off) : Reaches s (shelvePoint p n t) := by
  have shelved := onPoint_outline p (fun x => { x with state := .shelved, shelve := some n }) t rfl
  unfold shelvePoint
  exact .ite (h.holdBack ((leavePlacement_outline p _).trans shelved) off) (h.holdBack shelved off)

theorem disablePoint_reaches {p : Point} (h : Reaches s t)
    (off : ∀ b, (tripTarget t p).includes b = true → (t.burns.get b).state = .off) : Reaches s (disablePoint p t) := by
  have disabled := onPoint_outline p (fun x => { x with state := .disabled, shelve := none }) t rfl
  unfold disablePoint
  exact .ite (h.holdBack ((leavePlacement_outline p _).trans disabled) off) (h.holdBack disabled off)

theorem resumePoint_reaches {p : Point} (h : Reaches s t) : Reaches s (resumePoint p t) := by
  have resumed : Reaches s (t.onPoint p fun x => { x with state := .normal, shelve := none }) :=
    h.free (onPoint_outline p _ t rfl)
  unfold resumePoint
  exact .ite (resumed.free (activate_outline p _)) resumed

theorem expireShelve_reaches {p : Point} (h : Reaches s t) : Reaches s (expireShelve p t) := .ite (resumePoint_reaches h) h

theorem minuteAt_reaches {p : Point} (h : Reaches s t) : Reaches s (minuteAt p t) :=
  .ite (.ite (expireShelve_reaches h) (h.same (onPoint_outline_same p _ t rfl rfl))) h

/-! ## The shift -/

theorem closeShift_reaches {reason : CloseReason} (h : Reaches s t) : Reaches s (closeShift reason t) := by
  have added (ring : List Report) (r : Report) : (ringAdd ring r).map Report.seq = seqsAfter (ring.map Report.seq) r.seq := by
    unfold ringAdd seqsAfter
    rw [List.length_map]
    split <;> simp
  refine h.change ?_
  rw [closeShift, closeAlarms_outline]
  convert Outline.Change.close (v := t.outline) using 1
  exact Outline.ext rfl rfl rfl rfl rfl rfl (added _ _) rfl rfl

theorem secondExpires_reaches (h : Reaches s t) : Reaches s (secondExpires t) := by
  have ticked : Reaches s (t.onShift Shift.ticked) := .onShift h
  have closed := Reaches.ite (c := boundaryTest (t.onShift Shift.ticked)) (closeShift_reaches (reason := .boundary) ticked) ticked
  exact .ite (.ite (.each (fun _ _ => minuteAt_reaches) closed) closed) h

/-! ## The store -/

theorem saveCompletes_reaches {readBack : Option (List Byte)} (h : Reaches s t) : Reaches s (saveCompletes readBack t) := by
  unfold saveCompletes
  split
  · exact h
  · exact .report (.onStore h)

theorem restage_reaches {g : Grate} (h : Reaches s t) : Reaches s (restage g t) :=
  stageTiming_reaches (.ite (.onGrate h) h)

/-- A section's settings are none that a law speaks of. -/
theorem onLive_grates_outline (g : Grate) (f : GrateSet → GrateSet) (s : State) :
    (s.onLive fun l => { l with grates := upd l.grates g f }).outline = s.outline :=
  onLive_outline_same s (fun _ => ⟨rfl, rfl, rfl⟩) fun _ => rfl

/-- R40: a channel is assigned to another burner in OUT. -/
theorem putAssign_reaches {c : Channel} {v : Int} (h : Reaches s t) (out : t.chans[c].state = .out) :
    Reaches s (t.onLive fun l => l.put (.chan c .assign) v) := by
  refine h.chan (c := c) (f := fun x => { x with assign := assignOf v }) ?_ (.assign out)
  refine Outline.ext (funext fun d => ?_) rfl rfl rfl rfl rfl rfl rfl rfl
  by_cases e : d = c
  · subst e; simp [State.outline, chanOutline, Outline.onChan, Settings.put, ChanSet.withItem]
  · simp [State.outline, chanOutline, Outline.onChan, Settings.put, e, upd_other _ _ (Ne.symm e)]

theorem putCalDrive_reaches {c : Channel} {v : Int} (h : Reaches s t) (top : v ≤ 10000) :
    Reaches s (t.onLive fun l => l.put (.chan c .calDrive) v) := by
  refine h.chan (c := c) (f := fun x => { x with calDrive := v.toNat }) ?_ (.calDrive (Int.toNat_le.mpr top))
  refine Outline.ext (funext fun d => ?_) rfl rfl rfl rfl rfl rfl rfl rfl
  by_cases e : d = c
  · subst e; simp [State.outline, chanOutline, Outline.onChan, Settings.put, ChanSet.withItem]
  · simp [State.outline, chanOutline, Outline.onChan, Settings.put, e, upd_other _ _ (Ne.symm e)]

/-- R42: a trim limit is stored, and the trim is clamped to it. -/
theorem putTrimLimit_reaches {c : Channel} {v : Int} (h : Reaches s t) (low : 0 ≤ v) :
    Reaches s ((t.onLive fun l => l.put (.chan c .trimLimit) v).onChan c fun x => { x with trim := clampInt (-v) v x.trim }) := by
  obtain ⟨n, rfl⟩ := Int.eq_ofNat_of_zero_le low
  refine h.chan (c := c) (f := fun x => { x with trimLimit := n, trim := clampInt (-n) n x.trim }) ?_ .limit
  rw [onChan_outline]
  refine Outline.ext (funext fun d => ?_) rfl rfl rfl rfl rfl rfl rfl rfl
  by_cases e : d = c
  · subst e; simp [State.outline, chanOutline, Outline.onChan, Settings.put, ChanSet.withItem]
  · simp [State.outline, chanOutline, Outline.onChan, Settings.put, e, upd_other _ _ (Ne.symm e)]

/-- R111: a trip target is stored that includes no burner outside OFF while its point is SHELVED or DISABLED. -/
theorem putTarget_reaches {p : Point} {v : Int} (h : Reaches s t) (settable : targetIsSetting p = true)
    (off : t.alarm.points[p].state.isHeld = true → ∀ b, (targetOf v).includes b = true → (t.burns.get b).state = .off) :
    Reaches s (t.onLive fun l => l.put (.point p .target) v) := by
  have now : (t.onLive fun l => l.put (.point p .target) v).outline
      = { t.outline with target := Function.update t.outline.target p (targetOf v) } := by
    refine Outline.ext rfl rfl rfl rfl rfl (funext fun q => ?_) rfl rfl rfl
    by_cases e : q = p
    · subst e; simp [State.outline, tripTarget, Settings.put, PointSet.withItem, settable, State.live]
    · simp [State.outline, tripTarget, Settings.put, State.live, e, upd_other _ _ (Ne.symm e)]
  refine h.change ?_
  rw [now]
  exact .target off

theorem targetRefusal_none {p : Point} {v : Int} (accepted : targetRefusal s p v = none)
    (held : s.alarm.points[p].state.isHeld = true) (b : Burner) (includes : (targetOf v).includes b = true) :
    (s.burns.get b).state = .off := by
  have targeted : v ≠ 0 := fun e => by subst e; cases b <;> simp [targetOf, TripTarget.includes] at includes
  unfold targetRefusal at accepted
  split at accepted
  · cases accepted
  · split at accepted
    · cases accepted
    next unshelved =>
      split at accepted
      · cases accepted
      next free =>
        have disabled : s.alarm.points[p].state = .disabled := by
          simp only [PointState.isHeld, decide_eq_true_eq] at held
          exact held.resolve_left fun h => unshelved ⟨targeted, h⟩
        by_contra active
        exact free ⟨targeted, disabled, List.any_eq_true.mpr ⟨b, by cases b <;> decide, by simp [includes, active]⟩⟩

/-- What an accepted write of a value in range asks of it. -/
theorem writeRefusal_none_inRange {r : Ref} {v : Int} (accepted : writeRefusal s r v = none) (exact' : clampRange r = none)
    (plainItem : ∀ b, r ≠ .burner b .flameOn ∧ r ≠ .burner b .flameOff) : inRange r v = true := by
  unfold writeRefusal at accepted
  split at accepted
  · cases accepted
  · rw [exact'] at accepted
    have inside (h : ¬rangeRefused s r v = true) : inRange r v = true := by
      simp only [rangeRefused, Bool.not_eq_true', Bool.not_eq_false, Bool.and_eq_true] at h
      exact h.1
    simp only [Option.isSome_none, Bool.false_eq_true, ↓reduceIte] at accepted
    split at accepted
    next b _ => exact absurd rfl (plainItem b).1
    next b _ => exact absurd rfl (plainItem b).2
    next c _ =>
      split at accepted
      · cases accepted
      next h => exact inside h
    next p _ =>
      unfold targetRefusal at accepted
      split at accepted
      · cases accepted
      next h => simpa using h
    next =>
      split at accepted
      · cases accepted
      next h => exact inside h

theorem writeRefusal_assign {c : Channel} {v : Int} (accepted : writeRefusal s (.chan c .assign) v = none) :
    s.chans[c].state = .out := by
  by_contra away
  simp only [writeRefusal, isSettable, isLoaded, clampRange, Bool.not_true, Bool.false_eq_true, ↓reduceIte,
    Option.isSome_none, away, ne_eq, not_false_eq_true] at accepted
  split at accepted <;> cases accepted

theorem writeRefusal_target {p : Point} {v : Int} (accepted : writeRefusal s (.point p .target) v = none) :
    targetIsSetting p = true ∧ targetRefusal s p v = none := by
  unfold writeRefusal at accepted
  split at accepted
  · cases accepted
  next settable => exact ⟨by simpa [isSettable] using settable, accepted⟩

theorem putQuiet_reaches {r : Ref} {v : Int} (h : Reaches s t) (quiet : r.isOutlined = false := by rfl) :
    Reaches s (t.onLive fun l => l.put r v) := h.same (put_outline quiet v t)

theorem storeItem_reaches {r : Ref} {v : Int} (h : Reaches s t) (accepted : writeRefusal t r v = none) :
    Reaches s (storeItem r v t) := by
  unfold storeItem writeEffect
  split
  next => exact .onPlanner (putQuiet_reaches h)
  next => exact .onChan (putQuiet_reaches h)
  next =>
    exact putTrimLimit_reaches h (within_iff.mp (writeRefusal_none_inRange accepted rfl fun _ => ⟨by simp, by simp⟩)).1
  next => exact .onChan (putQuiet_reaches h)
  next => exact restage_reaches (putQuiet_reaches h)
  next => exact restage_reaches (putQuiet_reaches h)
  next => exact restage_reaches (putQuiet_reaches h)
  next => exact restage_reaches (putQuiet_reaches h)
  next => exact restage_reaches (putQuiet_reaches h)
  next _ _ limit _ _ _ _ _ _ =>
    by_cases outlined : r.isOutlined = true
    · unfold Ref.isOutlined at outlined
      split at outlined
      next => exact putAssign_reaches h (writeRefusal_assign accepted)
      next => exact absurd rfl (limit _)
      next =>
        exact putCalDrive_reaches h (within_iff.mp (writeRefusal_none_inRange accepted rfl fun _ => ⟨by simp, by simp⟩)).2
      next =>
        obtain ⟨settable, free⟩ := writeRefusal_target accepted
        exact putTarget_reaches h settable (targetRefusal_none free)
      next => cases outlined
    · exact putQuiet_reaches h (Bool.not_eq_true _ ▸ outlined)

/-! ## A start -/

/-- The outline of a state whose blocks stand as a start sets them. -/
theorem outline_started {s : State} {set : Settings} {tare : Bool} {pending : List Instr}
    (chans : s.chans = Vector.replicate 6 (startChan tare)) (burns : s.burns = ⟨startBurn, startBurn⟩)
    (alarm : s.alarm = startAlarm set) (grates : ∀ g, ∃ guarded, s.outline.grate g = ⟨.stopped, false, none, guarded⟩)
    (mode : s.floor.mode = .normal) (ring : s.shift.ring = []) (nextSeq : s.shift.nextSeq = 1) (queue : s.pending = pending) :
    s.outline.Started pending where
  chan c := by
    refine ⟨s.live.chans[c].assign, s.live.chans[c].trimLimit, s.live.chans[c].calDrive, ?_⟩
    simp only [State.outline, chanOutline, chans, alarm, startAlarm, startPoint, Fin.getElem_fin, Vector.getElem_replicate,
      Vector.getElem_ofFn, startChan]
  burner b := by cases b <;> simp only [State.outline, burns, PerBurner.get, startBurn]
  grate := grates
  mode := mode
  seqs := by simp only [State.outline, ring, List.map_nil]
  nextSeq := nextSeq
  pending := queue

theorem stopSave_live (s : State) : (stopSave s).live = s.live := by
  unfold stopSave
  split
  · rfl
  · show (saveStopped _ _ s.store).live = _
    unfold saveStopped
    split <;> rfl

theorem stopSave_pending (s : State) : (stopSave s).pending = s.pending := by unfold stopSave; split <;> rfl

theorem fullReset_live (cause : ResetCause) (phase : RunPhase) (s : State) : (fullReset cause phase s).live = s.live :=
  stopSave_live s

theorem startGrateOf_outline (set : GrateSet) : (startGrateOf set).outline = ⟨.stopped, false, none, true⟩ := rfl

theorem startBlocks_grates (set : Settings) (tare : Bool) (s : State) :
    (startBlocks set tare s).cooler.grates = set.grates.map startGrateOf := rfl

theorem stopTimers_grates (s : State) :
    (stopTimers s).cooler.grates = s.cooler.grates.map fun g => { g with guard := none } := rfl

theorem fullReset_cooler (cause : ResetCause) (phase : RunPhase) (s : State) :
    (fullReset cause phase s).cooler = (stopTimers (startBlocks (stopSave s).live false (stopSave s))).cooler := rfl

theorem startBlocks_pending (set : Settings) (tare : Bool) (s : State) : (startBlocks set tare s).pending = s.pending := by
  unfold startBlocks; rfl

theorem fullReset_pending (cause : ResetCause) (phase : RunPhase) (s : State) :
    (fullReset cause phase s).pending = s.pending := by
  rw [← stopSave_pending s, ← startBlocks_pending (stopSave s).live false (stopSave s)]
  unfold fullReset stopTimers
  simp only [State.onLink, State.onStore, State.onPlanner, State.onShift, State.onFloor, State.onCooler]

theorem fullReset_started (cause : ResetCause) (phase : RunPhase) (s : State) :
    (fullReset cause phase s).outline.Started s.pending := by
  refine outline_started (set := (stopSave s).live) (tare := false) rfl rfl rfl (fun g => ⟨false, ?_⟩) rfl rfl rfl
    (fullReset_pending cause phase s)
  simp only [State.outline, fullReset_cooler, stopTimers_grates, startBlocks_grates, Fin.getElem_fin, Vector.getElem_map]
  rfl

theorem fullReset_reaches {cause : ResetCause} {phase : RunPhase} (h : Reaches s t) : Reaches s (fullReset cause phase t) := by
  refine h.change (.start (fullReset_started cause phase t) fun c => .inr ?_)
  show (fullReset cause phase t).live.chans[c].calDrive = t.live.chans[c].calDrive
  rw [fullReset_live]

theorem reportImage_reaches {state : ImageState} (h : Reaches s t) : Reaches s (reportImage state t) := by
  cases state with
  | valid => exact h
  | blank => exact .report h
  | invalid => exact .report h

theorem reportPins_reaches (h : Reaches s t) : Reaches s (reportPins t) := by
  have loop : Reaches s (if stopLoopClosed t then t else emergencyStop t) := .ite h (emergencyStop_reaches h)
  exact .ite loop (crusherStopped_reaches loop)

/-- The state of a load before its conditions are reported. -/
theorem startBlocks_started (set : Settings) (tare : Bool) (s : State) :
    (startBlocks set tare s).outline.Started s.pending := by
  refine outline_started (set := set) (tare := tare) rfl rfl rfl (fun g => ⟨true, ?_⟩) rfl rfl rfl
    (startBlocks_pending set tare s)
  simp only [State.outline, startBlocks_grates, Fin.getElem_fin, Vector.getElem_map, startGrateOf_outline]

theorem running_outline (s : State) : ({ s with phase := .running } : State).outline = s.outline := rfl

theorem startBlocks_reaches {judged : ImageState × Settings} {tare : Bool} (h : Reaches s t)
    (cal : ∀ c : Channel, judged.2.chans[c].calDrive ≤ 10000) :
    Reaches s (startBlocks judged.2 tare (installImage judged t)) :=
  h.change (.start (startBlocks_started judged.2 tare (installImage judged t)) fun c => .inl (cal c))

theorem completeLoad_reaches (h : Reaches s t) : Reaches s (completeLoad t) := by
  have started : Reaches s (startBlocks (judgeImage t.store.image).2 (decide ((judgeImage t.store.image).1 = .valid))
      (installImage (judgeImage t.store.image) t)) := startBlocks_reaches h (judgeImage_calDrive t.store.image)
  exact reportPins_reaches (reportImage_reaches (started.same (running_outline _)))

/-- A millisecond is nothing that a law speaks of. -/
theorem tick_reaches (h : Reaches s t) : Reaches s (tick t) := by
  unfold tick
  split
  · exact h
  · exact .onLink h
  · refine h.same (Outline.ext (funext fun c => ?_) (funext fun b => ?_) (funext fun g => ?_) rfl rfl rfl rfl rfl rfl)
    · simp only [State.outline, tickBlocks, chanOutline, Fin.getElem_fin, Vector.getElem_map, Chan.tick]
      rfl
    · cases b <;> rfl
    · simp [State.outline, tickBlocks, GrateRec.outline, GrateRec.tick]

end

end Sys2Proof.Machine
end

section
/-! PROOFS. What requests, frames and events can do to what the laws speak of, and the laws of every step that follow
(R43, R46, R69, R86 to R96, R141, R155). -/

namespace Sys2Proof.Machine

-- One proof at a time: proofs that wait for one another hold a thread each, and the threads' memory is bounded.
set_option Elab.async false

/-- Whatever a service answers, the outline goes through changes alone. -/
def Service.Moves (f : Service) : Prop := ∀ s, Reaches s (f s).1

section
variable {s t : State}

/-- A branch of a service between two answers. -/
theorem Reaches.iteAnswer {x y : State × Ans} {c : Prop} [Decidable c] (h : Reaches s x.1) (k : Reaches s y.1) :
    Reaches s (if c then x else y).1 := by split <;> assumption

theorem Reaches.answer {a : Ans} (h : Reaches s t) : Reaches s (t, a).1 := h

theorem applyAfter_reaches {a : After} (h : Reaches s t) : Reaches s (applyAfter a t) := by
  cases a with
  | nothing => exact h
  | clearIdent => exact .onStore h
  | clearCounters => exact h
  | clearChannel c => exact .onChan h

theorem answered_reaches {r : State × Ans} (h : Reaches s r.1) : Reaches s (answered r) := applyAfter_reaches h

theorem takeRequest_reaches {f : Service} (moves : f.Moves) : Reaches s (takeRequest f s) := by
  unfold takeRequest
  split
  · exact .refl
  · exact answered_reaches .refl
  · exact answered_reaches (moves s)

/-! ## Requests that name a channel, a burner, a section or a point -/

theorem forChannel_moves {k : Nat} {f : Channel → Service} (h : ∀ c, (f c).Moves) : (forChannel k f).Moves := by
  intro s
  unfold forChannel
  split
  · exact .refl
  · exact h _ s

theorem forBurner_moves {k : Nat} {f : Burner → Service} (h : ∀ b, (f b).Moves) : (forBurner k f).Moves := by
  intro s
  unfold forBurner
  split
  · exact .refl
  · exact h _ s

theorem forGrate_moves {k : Nat} {f : Grate → Service} (h : ∀ g, (f g).Moves) : (forGrate k f).Moves := by
  intro s
  unfold forGrate
  split
  · exact .refl
  · exact h _ s

theorem forPoint_moves {k : Nat} {f : Point → Service} (h : ∀ p, (f p).Moves) : (forPoint k f).Moves := by
  intro s
  unfold forPoint
  split
  · exact .refl
  · exact h _ s

/-! ## Requests that read -/

theorem linkRead_moves (clear : Nat) : (linkRead clear).Moves := fun s => by unfold linkRead; split <;> exact .refl

theorem channelRead_moves (k clear : Nat) : (channelRead k clear).Moves :=
  fun s => by unfold channelRead; split <;> exact .refl

theorem coolerRead_moves (item number : Nat) : (coolerRead item number).Moves := fun s => by
  unfold coolerRead
  refine .iteAnswer ?_ (.iteAnswer ?_ (.iteAnswer (.iteAnswer .refl .refl) .refl))
  · split <;> exact .refl
  · split <;> exact .refl

theorem inputRead_moves (cls number : Nat) : (inputRead cls number).Moves := fun s => by
  unfold inputRead
  refine .iteAnswer ?_ (.iteAnswer ?_ (.iteAnswer ?_ .refl))
  · split <;> exact .refl
  · split <;> exact .refl
  · split <;> exact .refl

theorem listRead_moves (part start : Nat) : (listRead part start).Moves :=
  fun s => by unfold listRead; exact .iteAnswer .refl (.iteAnswer (.iteAnswer .refl .refl) .refl)

theorem settingsRead_moves (item index : Nat) : (settingsRead item index).Moves :=
  fun s => by unfold settingsRead; split <;> exact .refl

/-! ## Requests of the channels and the burners -/

theorem serviceIn_moves (c : Channel) : (serviceIn c).Moves := fun s => by
  unfold serviceIn
  split
  next was =>
    refine .iteAnswer .refl (.iteAnswer .refl ?_)
    split
    next fire => exact enterDosing_reaches .refl (.inl was) ((burnerFires_iff s c).mp fire)
    next => exact Reaches.refl.chan (onChan_outline c _ s) (.toIdle was)
  all_goals exact .refl

theorem faultToOut_outline (c : Channel) (s : State) :
    (reportCond (faultPoint c) false (s.onChan c fun x => { x with state := .out, u := 0, cause := none })).outline
      = s.outline.onChan c fun x => { x with state := .out, u := 0, fault := false } := by
  rw [reportCond_fault_outline, onChan_outline, Outline.onChan_onChan]
  exact Outline.onChan_congr rfl

theorem faultToIdle_outline (c : Channel) (s : State) :
    (reportCond (faultPoint c) false (s.onChan c fun x => { x with state := .idle, u := 0, cause := none })).outline
      = s.outline.onChan c fun x => { x with state := .idle, u := 0, fault := false } := by
  rw [reportCond_fault_outline, onChan_outline, Outline.onChan_onChan]
  exact Outline.onChan_congr rfl

theorem serviceOut_moves (c : Channel) : (serviceOut c).Moves := fun s => by
  unfold serviceOut
  split
  next was => exact Reaches.refl.chan (onChan_outline c _ s) (.toOut (.inl was))
  next was => exact Reaches.refl.chan (faultToOut_outline c s) (.faultToOut was)
  all_goals exact .refl

theorem resetChannel_moves (c : Channel) : (resetChannel c).Moves := fun s => by
  unfold resetChannel
  split
  next was =>
    have idle := Reaches.refl.chan (faultToIdle_outline c s) (.faultToIdle was)
    refine .iteAnswer .refl ?_
    dsimp only
    split
    next fire =>
      refine enterDosing_reaches idle (.inr ?_) ((burnerFires_iff _ c).mp fire)
      rw [faultToIdle_outline]
      simp [Outline.onChan]
    next => exact idle
  all_goals exact .refl

theorem startStage_moves (kind : StageKind) (c : Channel) (testLoad : Option Nat) (duration : Nat) :
    (startStage kind c testLoad duration).Moves := fun s => by
  unfold startStage
  dsimp only
  refine .iteAnswer .refl ?_
  split
  next => exact .refl
  next was =>
    exact .iteAnswer .refl (.iteAnswer .refl (.iteAnswer .refl
      (Reaches.refl.chan (onChan_outline c _ s) (.calibrate (not_not.mp was)))))

theorem calibrateZero_moves (k duration : Nat) : (calibrateZero k duration).Moves := fun s => by
  unfold calibrateZero
  exact .iteAnswer (forChannel_moves (fun c => startStage_moves .zero c none duration) s) .refl

theorem calibrateSpan_moves (k testLoad duration : Nat) : (calibrateSpan k testLoad duration).Moves := fun s => by
  unfold calibrateSpan
  exact .iteAnswer (forChannel_moves (fun c => startStage_moves .span c (some testLoad) duration) s) .refl

theorem calibrateAbort_moves (c : Channel) : (calibrateAbort c).Moves := fun _ => abortStage_reaches .refl

theorem heatSet_moves (demand : Nat) (b : Burner) : (heatSet demand b).Moves := fun _ => .onPlanner .refl

theorem lightRefusal_none {b : Burner} (accepted : lightRefusal s b = none) :
    (s.floor.mode ≠ .standby ∧ s.floor.mode ≠ .settle) ∧ ¬s.outline.inhibited b := by
  rw [← tripPointInhibited_iff]
  unfold lightRefusal at accepted
  grind

theorem burnerLight_moves (b : Burner) : (burnerLight b).Moves := fun s => by
  unfold burnerLight
  split
  next off =>
    split
    next => exact .refl
    next accepted =>
      obtain ⟨awake, free⟩ := lightRefusal_none accepted
      refine purgeJudged_reaches (Reaches.refl.change ?_)
      rw [onBurn_outline]
      exact .light off awake free
  all_goals exact .refl

theorem burnerStop_moves (b : Burner) : (burnerStop b).Moves :=
  fun _ => .ite (stopBurner_reaches (stopBurner_reaches .refl)) (stopBurner_reaches .refl)

theorem burnerResetTrip_moves (b : Burner) : (burnerResetTrip b).Moves := fun s => by
  unfold burnerResetTrip
  split
  next was =>
    split
    next => exact .refl
    next => exact .report (Reaches.refl.burner was) (ofChannel_tripPointOf b)
  next => exact .refl

/-! ## Requests of the cooler, the inputs and the floor -/

theorem coolerSet_moves (mode rate forward ret dead : Nat) (g : Grate) : (coolerSet mode rate forward ret dead g).Moves :=
  fun s => by
    unfold coolerSet
    exact .iteAnswer (restage_reaches (Reaches.refl.same (onLive_grates_outline g _ s))) .refl

theorem startRefusal_none {g : Grate} (accepted : startRefusal s g = none) : s.floor.mode ≠ .standby := by
  intro mode
  simp [startRefusal, mode] at accepted

theorem grateRun_moves (g : Grate) : (grateRun g).Moves := fun s => by
  unfold grateRun
  split
  next => exact .refl
  next was => exact Reaches.refl.grate (.goOn (.inr was) (.inl rfl))
  next => exact .refl
  next was =>
    split
    next => exact .refl
    next accepted => exact startGrateStroke_reaches .refl was (startRefusal_none accepted) (.inl rfl)

theorem grateSingle_moves (g : Grate) : (grateSingle g).Moves := fun s => by
  unfold grateSingle
  split
  next was =>
    refine Reaches.refl.grate ?_
    split
    next rest =>
      have stopped : s.cooler.grates[g].outline.stopped = { s.cooler.grates[g].outline with state := .stopped, phase := none } :=
        (if_pos (.inl was)).trans (if_pos (.inl rest))
      have change := GrateOutline.Change.stop (awake := s.floor.mode ≠ .standby) (x := s.cooler.grates[g].outline)
      rwa [stopped] at change
    next => exact .goOn (.inl was) (.inr rfl)
  next => exact .refl
  next => exact .refl
  next was =>
    split
    next => exact .refl
    next accepted => exact startGrateStroke_reaches .refl was (startRefusal_none accepted) (.inr rfl)

theorem grateStop_moves (g : Grate) : (grateStop g).Moves := fun _ => stopGrate_reaches .refl

theorem grateReset_moves (g : Grate) : (grateReset g).Moves := fun s => by
  unfold grateReset
  split
  next => exact .report (Reaches.refl.grate .reset) (ofChannel_stallPoint g)
  all_goals exact .refl

theorem fanSet_moves (k on target : Nat) : (fanSet k on target).Moves := fun s => by
  unfold fanSet
  split
  next f _ _ _ =>
    exact .iteAnswer (computeDamper_reaches (.onFan (.ite (.ite .refl (.onFan .refl))
      (.reportIf (.onFan .refl) (ofChannel_fanPoint f))))) .refl
  next => exact .refl

theorem inputForce_moves (cls number : Nat) (value : Int) : (inputForce cls number value).Moves := fun s => by
  unfold inputForce
  refine .iteAnswer ?_ (.iteAnswer ?_ .refl)
  · split
    · exact .refl
    · exact .iteAnswer (.iteAnswer .refl (forceAnalog_reaches .refl)) .refl
  · split
    · exact .refl
    · exact .iteAnswer (reportForced_reaches (.onScan .refl)) .refl

theorem inputRelease_moves (cls number : Nat) : (inputRelease cls number).Moves := fun s => by
  unfold inputRelease
  refine .iteAnswer ?_ (.iteAnswer ?_ .refl)
  · split
    · exact .refl
    · exact releaseAnalog_reaches .refl
  · split
    · exact .refl
    · exact reportForced_reaches (.onScan .refl)

theorem enterStandby_moves : enterStandby.Moves := fun s => by
  unfold enterStandby
  refine .iteAnswer .refl ?_
  split
  next => exact .refl
  next off =>
    simp only [ne_eq, not_or, not_not] at off
    exact .iteAnswer .refl (.answer (enterStandbyMode_reaches .refl fun b => by cases b; exacts [off.1, off.2]))

theorem leaveStandby_moves : leaveStandby.Moves := fun s => by
  unfold leaveStandby
  split
  next was =>
    have settling {f : Floor → Floor} (now : ∀ x, (f x).mode = .settle) : Reaches s (unsettleInputs (s.onFloor f)) :=
      unsettleInputs_reaches (Reaches.refl.awaken now ⟨by decide, fun _ => was⟩)
    exact .answer (settling fun _ => rfl)
  next => exact .refl

/-! ## Requests of the Alarm Table -/

theorem ackTop_moves : ackTop.Moves := fun s => by
  unfold ackTop
  split
  · exact .refl
  · exact ackPoint_reaches .refl

theorem shelve_moves (duration : Nat) (p : Point) : (shelve duration p).Moves := fun s => by
  unfold shelve
  split
  next => exact .refl
  next untargeted =>
    refine .iteAnswer .refl (shelvePoint_reaches .refl fun b included => ?_)
    rw [not_not.mp untargeted] at included
    cases b <;> cases included

theorem targetBurnerActive_false {x : TripTarget} (h : ¬targetBurnerActive s x = true) (b : Burner)
    (included : x.includes b = true) : (s.burns.get b).state = .off := by
  by_contra active
  exact h (List.any_eq_true.mpr ⟨b, by cases b <;> decide, by simp [included, active]⟩)

theorem disable_moves (p : Point) : (disable p).Moves := fun s => by
  unfold disable
  split
  next => exact .refl
  next off => exact disablePoint_reaches .refl (targetBurnerActive_false off)

theorem enable_moves (p : Point) : (enable p).Moves := fun _ => .ite (resumePoint_reaches .refl) .refl

theorem external_moves (present : Bool) (p : Point) : (external present p).Moves := fun s => by
  unfold external
  split
  next => exact .refl
  next own => exact .report .refl (decide_eq_false (by omega))

theorem silence_moves : silence.Moves := fun s => Reaches.refl.same (onAlarm_outline _ s rfl)

/-! ## Requests of the totaliser and the store -/

theorem clockSet_moves (seconds day : Nat) : (clockSet seconds day).Moves := fun s => by
  unfold clockSet
  exact .iteAnswer (.onShift .refl) .refl

theorem openTransfer_reaches (x : Transfer) (newest : Bool) : Reaches s (openTransfer x newest s) := .onShift .refl

theorem reportOpen_moves (source form : Nat) : (reportOpen source form).Moves := fun s => by
  unfold reportOpen
  split
  · exact .refl
  · refine .iteAnswer (openTransfer_reaches _ _) (.iteAnswer ?_ .refl)
    split
    · exact .refl
    · exact openTransfer_reaches _ _

theorem reportPart_moves (part : Nat) : (reportPart part).Moves := fun s => by
  unfold reportPart
  split
  · exact .refl
  · split
    · exact .onShift .refl
    · exact .iteAnswer .refl .refl

theorem writeOne_moves (r : Ref) (v : Int) : (writeOne r v).Moves := fun s => by
  unfold writeOne
  split
  next => exact .refl
  next accepted => exact storeItem_reaches .refl accepted

theorem writeInstance_reaches {item : Nat} {v : Int} {a : AllWrite} {index : Nat} (h : Reaches s a.state) :
    Reaches s (writeInstance item v a index).state := by
  unfold writeInstance
  split
  · exact h
  · split
    next => exact h
    next accepted => exact storeItem_reaches h accepted

theorem writeInstances_reaches (item : Nat) (v : Int) (l : List Nat) (a : AllWrite) (h : Reaches s a.state) :
    Reaches s (l.foldl (fun a k => writeInstance item v a (k + 1)) a).state := by
  induction l generalizing a with
  | nil => exact h
  | cons k l ih => exact ih _ (writeInstance_reaches h)

theorem settingsWrite_moves (item index : Nat) (v : Int) : (settingsWrite item index v).Moves := fun s => by
  unfold settingsWrite
  refine .iteAnswer ?_ ?_
  · split
    · exact writeInstances_reaches item v _ _ .refl
    · exact .refl
    · exact .refl
  · split
    · exact .refl
    · exact writeOne_moves _ v s

theorem settingsSave_moves : settingsSave.Moves := fun s => by
  unfold settingsSave
  split
  · exact .refl
  · exact .onStore .refl

/-! ## Every request -/

theorem serviceOf_moves {i : Instr} {f : Service} (h : serviceOf i = some f) : f.Moves := by
  cases i with
  | statusRead => cases h; exact fun _ => .refl
  | identRead => cases h; exact fun _ => .refl
  | linkRead clear => cases h; exact linkRead_moves clear
  | linkEcho bytes => cases h; exact fun _ => .refl
  | clockSet seconds day => cases h; exact clockSet_moves seconds day
  | heatSet burner demand => cases h; exact forBurner_moves (heatSet_moves demand)
  | channelRead channel clear => cases h; exact channelRead_moves channel clear
  | channelServiceIn channel => cases h; exact forChannel_moves serviceIn_moves
  | channelServiceOut channel => cases h; exact forChannel_moves serviceOut_moves
  | channelReset channel => cases h; exact forChannel_moves resetChannel_moves
  | calibrateZero channel duration => cases h; exact calibrateZero_moves channel duration
  | calibrateSpan channel testLoad duration => cases h; exact calibrateSpan_moves channel testLoad duration
  | calibrateAbort channel => cases h; exact forChannel_moves calibrateAbort_moves
  | burnerRead burner => cases h; exact forBurner_moves fun _ _ => .refl
  | burnerLight burner => cases h; exact forBurner_moves burnerLight_moves
  | burnerStop burner => cases h; exact forBurner_moves burnerStop_moves
  | burnerResetTrip burner => cases h; exact forBurner_moves burnerResetTrip_moves
  | coolerRead item number => cases h; exact coolerRead_moves item number
  | coolerSet grate mode rate forward ret dead => cases h; exact forGrate_moves (coolerSet_moves mode rate forward ret dead)
  | grateRun grate => cases h; exact forGrate_moves grateRun_moves
  | grateSingle grate => cases h; exact forGrate_moves grateSingle_moves
  | grateStop grate => cases h; exact forGrate_moves grateStop_moves
  | grateReset grate => cases h; exact forGrate_moves grateReset_moves
  | fanSet fan on target => cases h; exact fanSet_moves fan on target
  | inputRead cls number => cases h; exact inputRead_moves cls number
  | inputForce cls number value => cases h; exact inputForce_moves cls number value
  | inputRelease cls number => cases h; exact inputRelease_moves cls number
  | alarmRead point => cases h; exact forPoint_moves fun _ _ => .refl
  | listRead part start => cases h; exact listRead_moves part start
  | alarmAckTop => cases h; exact ackTop_moves
  | alarmAckPoint point => cases h; exact forPoint_moves fun _ _ => ackPoint_reaches .refl
  | alarmAckAll => cases h; exact fun _ => ackAll_reaches .refl
  | alarmShelve point duration => cases h; exact forPoint_moves (shelve_moves duration)
  | alarmUnshelve point => cases h; exact forPoint_moves fun _ _ => expireShelve_reaches .refl
  | alarmDisable point => cases h; exact forPoint_moves disable_moves
  | alarmEnable point => cases h; exact forPoint_moves enable_moves
  | alarmRaise point => cases h; exact forPoint_moves (external_moves true)
  | alarmClear point => cases h; exact forPoint_moves (external_moves false)
  | hornSilence => cases h; exact silence_moves
  | shiftClose => cases h; exact fun _ => closeShift_reaches .refl
  | reportOpen source form => cases h; exact reportOpen_moves source form
  | reportPart part => cases h; exact reportPart_moves part
  | enterStandby => cases h; exact enterStandby_moves
  | leaveStandby => cases h; exact leaveStandby_moves
  | settingsRead item index => cases h; exact settingsRead_moves item index
  | settingsWrite item index value => cases h; exact settingsWrite_moves item index value
  | settingsSave => cases h; exact settingsSave_moves
  | restart _ => cases h; exact fun _ => .refl
  | _ => cases h

/-! ## The link -/

theorem meetRequest_reaches {f : Service} {seq kind : Byte} (moves : f.Moves) (h : Reaches s t) :
    Reaches s (meetRequest seq kind f t) := by
  have served {f : Service} (moves : f.Moves) : Reaches s (serve seq kind f t) :=
    .onLink (answered_reaches (h.trans (moves t)))
  exact .ite (.onLink h) (.ite (served moves) (served fun _ => .refl))

theorem requestService_moves (kind seq : Byte) (payload : List Byte) : (requestService kind seq payload).Moves := by
  unfold requestService
  split
  · exact fun _ => .refl
  next i _ =>
    cases owner : serviceOf i with
    | none => exact fun _ => .refl
    | some f => exact serviceOf_moves owner

theorem acceptFrame_reaches {seq kind : Byte} {payload : List Byte} (h : Reaches s t) :
    Reaches s (acceptFrame seq kind payload t) :=
  meetRequest_reaches (requestService_moves kind seq payload) (.ite (validFrame_reaches h) h)

theorem takeByte_reaches {b : Byte} (h : Reaches s t) : Reaches s (takeByte b t) := by
  unfold takeByte
  split
  · exact .ite (.onLink h) h
  · exact .ite (.onLink h) (.onLink h)
  · exact .onLink h
  · exact .onLink h
  · exact .onLink h
  · exact .onLink h
  · exact .ite (acceptFrame_reaches (.onLink h)) (.onLink (.onLink h))

theorem byteArrives_reaches {b : Byte} {stopBit : Bool} (h : Reaches s t) : Reaches s (byteArrives b stopBit t) :=
  .ite h (.ite (takeByte_reaches h) (.onLink h))

theorem transmissionCompletes_reaches (h : Reaches s t) : Reaches s (transmissionCompletes t) := by
  unfold transmissionCompletes
  split
  · exact h
  · exact .ite (fullReset_reaches (.onLink h)) (.onLink h)

theorem breakLine_reaches (h : Reaches s t) : Reaches s (breakLine t) :=
  have closed : Reaches s (closeTransfer (t.onLink fun x =>
    { countBreak x.hunting with sending := none, waiting := none, broken := true })) := .onShift (.onLink h)
  .ite h (.ite (fullReset_reaches closed) closed)

/-! ## Every step -/

theorem whenRunning_reaches {f : State → State} (moved : Reaches s (f s)) : Reaches s (whenRunning f s) := .ite moved .refl

theorem whenLinked_reaches {f : State → State} (moved : Reaches s (f s)) : Reaches s (whenLinked f s) := .ite .refl moved

/-- What an event answers is what its outline can change to. -/
theorem exec_event_reaches {i : Instr} (event : serviceOf i = none) : ∃ t, exec i s = .next t ∧ Reaches s t := by
  cases i with
  | analogSampleArrival input sample => exact ⟨_, rfl, whenRunning_reaches (takeSample_reaches .refl)⟩
  | alarmPoint b p => exact ⟨_, rfl, whenRunning_reaches (takeCause_reaches (.onHanded .refl))⟩
  | quadratureEdge e levelA levelB => exact ⟨_, rfl, takeEdge_reaches .refl⟩
  | discretePinChange d level => exact ⟨_, rfl, movePin_reaches .refl⟩
  | debounceExpiry d => exact ⟨_, rfl, whenRunning_reaches (debounceExpires_reaches .refl)⟩
  | emergencyStopTrip b => exact ⟨_, rfl, whenRunning_reaches (takeCause_reaches (.onHanded .refl))⟩
  | mainLost => exact ⟨_, rfl, whenRunning_reaches (takeCause_reaches (.onHanded .refl))⟩
  | planCycleExpiry => exact ⟨_, rfl, whenRunning_reaches (planCycleExpires_reaches .refl)⟩
  | holdTimerExpiry c => exact ⟨_, rfl, whenRunning_reaches (holdExpires_reaches .refl)⟩
  | stageTimerExpiry c => exact ⟨_, rfl, whenRunning_reaches (stageExpires_reaches .refl)⟩
  | purgeTimerExpiry b => exact ⟨_, rfl, whenRunning_reaches (purgeExpires_reaches .refl)⟩
  | trialTimerExpiry b => exact ⟨_, rfl, whenRunning_reaches (trialExpires_reaches .refl)⟩
  | stabiliseTimerExpiry b => exact ⟨_, rfl, whenRunning_reaches (stabiliseExpires_reaches .refl)⟩
  | forwardExpiry g => exact ⟨_, rfl, whenRunning_reaches (forwardExpires_reaches .refl)⟩
  | deadAExpiry g => exact ⟨_, rfl, whenRunning_reaches (deadAExpires_reaches .refl)⟩
  | returnExpiry g => exact ⟨_, rfl, whenRunning_reaches (returnExpires_reaches .refl)⟩
  | restExpiry g => exact ⟨_, rfl, whenRunning_reaches (restExpires_reaches .refl)⟩
  | returnGuardEnd g => exact ⟨_, rfl, whenRunning_reaches (guardExpires_reaches .refl)⟩
  | secondTimerExpiry => exact ⟨_, rfl, whenRunning_reaches (secondExpires_reaches .refl)⟩
  | shelveExpiry p => exact ⟨_, rfl, whenRunning_reaches (expireShelve_reaches .refl)⟩
  | supervisionExpiry => exact ⟨_, rfl, whenRunning_reaches (supervisionExpires_reaches .refl)⟩
  | graceExpiry => exact ⟨_, rfl, whenRunning_reaches (graceExpires_reaches .refl)⟩
  | settleExpiry => exact ⟨_, rfl, whenRunning_reaches (settleExpires_reaches .refl)⟩
  | linkByteArrival byte stopBit => exact ⟨_, rfl, whenLinked_reaches (byteArrives_reaches .refl)⟩
  | gapExpiry => exact ⟨_, rfl, whenLinked_reaches (.ite (.onLink .refl) .refl)⟩
  | transmissionCompletion => exact ⟨_, rfl, whenLinked_reaches (transmissionCompletes_reaches .refl)⟩
  | linkBreak => exact ⟨_, rfl, whenLinked_reaches (breakLine_reaches .refl)⟩
  | powerOn => exact ⟨_, rfl, fullReset_reaches .refl⟩
  | supplyDip => exact ⟨_, rfl, fullReset_reaches .refl⟩
  | resetPin => exact ⟨_, rfl, fullReset_reaches .refl⟩
  | resetRelease => exact ⟨_, rfl, .ite .refl .refl⟩
  | loadCompletion => exact ⟨_, rfl, .ite (completeLoad_reaches .refl) .refl⟩
  | saveCompletion readBack => exact ⟨_, rfl, whenRunning_reaches (saveCompletes_reaches .refl)⟩
  | breakEnd => exact ⟨_, rfl, .onLink .refl⟩
  | _ => cases event

/-- Every command answers a next state, and the outline goes through changes alone. -/
theorem exec_reaches (i : Instr) (s : State) : ∃ t, exec i s = .next t ∧ Reaches s t := by
  cases owner : serviceOf i with
  | none => exact exec_event_reaches owner
  | some f =>
    by_cases restart : ∃ seq, i = .restart seq
    · obtain ⟨seq, rfl⟩ := restart
      exact ⟨_, rfl, whenLinked_reaches (meetRequest_reaches (fun _ => .refl) .refl)⟩
    · exact ⟨_, exec_request s owner fun seq e => restart ⟨seq, e⟩, takeRequest_reaches (serviceOf_moves owner)⟩

theorem idle_reaches (next : idle s = .next t) : Reaches s t := by
  have of_exec {u : State} {i : Instr} (same : u.outline = s.outline) (next : exec i u = .next t) : Reaches s t := by
    obtain ⟨w, ran, reached⟩ := exec_reaches i u
    cases ran.symm.trans next
    rwa [Reaches, same] at reached
  unfold idle at next
  split at next
  · cases next
    exact tick_reaches .refl
  · exact of_exec rfl next
  · exact of_exec (u := s.drawn) rfl next

/-- A step is the command at the front of the queue, the one that is due, or 1 ms. -/
theorem step_reaches (next : step s = .next t) : ∃ pending, Reaches { s with pending := pending } t := by
  unfold step at next
  split at next
  next => exact ⟨s.pending, idle_reaches next⟩
  next c rest _ =>
    obtain ⟨u, ran, reached⟩ := exec_reaches c { s with pending := rest }
    cases ran.symm.trans next
    exact ⟨rest, reached⟩

/-- A law that every change keeps, and that is none about the queue, is one that every step keeps. -/
theorem step_keeps_of_changes {Law : Outline → Prop} (keeps : ∀ v w : Outline, v.Change w → Law v → Law w)
    (unqueued : ∀ (v : Outline) pending, Law v → Law { v with pending := pending }) (law : Law s.outline)
    (next : step s = .next t) : Law t.outline := by
  obtain ⟨pending, reached⟩ := step_reaches next
  refine Relation.ReflTransGen.head_induction_on (motive := fun v _ => Law v → Law t.outline) reached id
    (fun change _ ih law => ih (keeps _ _ change law)) (unqueued s.outline pending law)

end

/-- Settles O53: each change of a channel keeps its bounds. -/
theorem stepKeepsDriveInv : Obligations.StepKeepsDriveInv := by
  intro s t law next
  rw [driveInv_iff] at law ⊢
  exact step_keeps_of_changes (Law := fun v => ∀ c, (v.chan c).DriveLaw) (fun _ _ => Outline.Change.keepsDriveLaw)
    (fun _ _ => id) law next

/-- Settles O54: each change of a channel moves its conditions with its state. -/
theorem stepKeepsConditionInv : Obligations.StepKeepsConditionInv := by
  intro s t law next
  rw [conditionInv_iff] at law ⊢
  exact step_keeps_of_changes (Law := fun v => ∀ c, (v.chan c).ConditionLaw) (fun _ _ => Outline.Change.keepsConditionLaw)
    (fun _ _ => id) law next

/-- Settles O55: a burner leaves FIRING only together with its channels. -/
theorem stepKeepsFollowInv : Obligations.StepKeepsFollowInv := by
  intro s t law next
  rw [followInv_iff] at law ⊢
  exact step_keeps_of_changes (Law := Outline.FollowLaw) (fun _ _ => Outline.Change.keepsFollowLaw) (fun _ _ => id) law next

/-- Settles O56: a burner leaves OFF only with no point of its held back, and a point is held back only with its burners in
OFF. -/
theorem stepKeepsInhibitInv : Obligations.StepKeepsInhibitInv := by
  intro s t law next
  rw [inhibitInv_iff] at law ⊢
  exact step_keeps_of_changes (Law := Outline.InhibitLaw) (fun _ _ => Outline.Change.keepsInhibitLaw) (fun _ _ => id) law next

/-- Settles O57: STANDBY is entered with the burners in OFF, and no burner and no section starts in it. -/
theorem stepKeepsStandbyInv : Obligations.StepKeepsStandbyInv := by
  intro s t law next
  rw [standbyInv_iff] at law ⊢
  exact step_keeps_of_changes (Law := Outline.StandbyLaw) (fun _ _ => Outline.Change.keepsStandbyLaw)
    (fun _ _ h => ⟨h.burners, h.grates⟩) law next

/-- Settles O58: a close takes the next number, and numbers none twice. -/
theorem stepKeepsRingInv : Obligations.StepKeepsRingInv := by
  intro s t law next
  rw [ringInv_iff] at law ⊢
  exact step_keeps_of_changes (Law := Outline.RingLaw) (fun _ _ => Outline.Change.keepsRingLaw)
    (fun _ _ h => ⟨h.short, h.chain⟩) law next

/-- Settles O59: each change of a section keeps its valves, its phase and its run-out with its state. -/
theorem stepKeepsStrokeInv : Obligations.StepKeepsStrokeInv := by
  intro s t law next
  rw [strokeInv_iff] at law ⊢
  exact step_keeps_of_changes (Law := fun v => ∀ g, (v.grate g).StrokeLaw) (fun _ _ => Outline.Change.keepsStrokeLaw)
    (fun _ _ => id) law next

/-- Settles O2: the queue stands in the outline, and no change touches it. -/
theorem everyCommandKeepsQueue : Obligations.EveryCommandKeepsQueue := by
  intro i s
  obtain ⟨t, ran, reached⟩ := exec_reaches i s
  refine ⟨t, ran, ?_⟩
  exact Relation.ReflTransGen.head_induction_on (motive := fun v _ => t.outline.pending = v.pending) reached rfl
    fun change _ ih => ih.trans change.keepsQueue

end Sys2Proof.Machine
end

section
/-! PROOFS. Requests: what one is answered, and those of the channels (R42 to R62, R163). -/

namespace Sys2Proof.Machine

-- One proof at a time: proofs that wait for one another hold a thread each, and the threads' memory is bounded.
set_option Elab.async false

/-! ## What a request is answered -/

theorem instNo_val {n : Nat} (i : Fin n) : instNo n (i.val + 1) = some i := by simp [instNo]

theorem instNo_out {n k : Nat} (h : k = 0 ∨ n < k) : instNo n k = none := by simp [instNo]; omega

theorem forChannel_val (c : Channel) (f : Channel → Service) : forChannel (c.val + 1) f = f c := by
  funext s; simp [forChannel, instNo_val]
theorem forGrate_val (g : Grate) (f : Grate → Service) : forGrate (g.val + 1) f = f g := by
  funext s; simp [forGrate, instNo_val]
theorem forPoint_val (p : Point) (f : Point → Service) : forPoint (p.val + 1) f = f p := by
  funext s; simp [forPoint, instNo_val]
theorem forChannel_out {k : Nat} (h : k = 0 ∨ 6 < k) (f : Channel → Service) (s : State) :
    forChannel k f s = (s, plain .range) := by simp [forChannel, instNo_out h]
theorem forGrate_out {k : Nat} (h : k = 0 ∨ 3 < k) (f : Grate → Service) (s : State) :
    forGrate k f s = (s, plain .range) := by simp [forGrate, instNo_out h]
theorem forPoint_out {k : Nat} (h : k = 0 ∨ 96 < k) (f : Point → Service) (s : State) :
    forPoint k f s = (s, plain .range) := by simp [forPoint, instNo_out h]

theorem answered_eq (u : State) (a : Ans) (plainly : a.after = .nothing) :
    answered (u, a) = answering a.status a.reason a.data u := answered_plain u a plainly

theorem exec_answered {i : Instr} {f : Service} {s : State} (run : s.phase = .running) (owner : serviceOf i = some f)
    (other : ∀ seq, i ≠ .restart seq := by exact fun _ => nofun) : exec i s = .next (answered (f s)) :=
  (exec_request s owner other).trans (congrArg Host.Outcome.next (takeRequest_running f s run))

/-- What a request does while the blocks run is what its owner does, with the answer recorded. -/
theorem exec_answers {i : Instr} {f : Service} {s u : State} {a : Ans} (run : s.phase = .running)
    (owner : serviceOf i = some f) (service : f s = (u, a)) (plainly : a.after = .nothing := by rfl)
    (other : ∀ seq, i ≠ .restart seq := by exact fun _ => nofun) :
    exec i s = .next (answering a.status a.reason a.data u) := by
  rw [exec_answered run owner other, service, answered_eq u a plainly]

/-- The answer is recorded, and nothing else changes with it. -/
theorem Touches.answering {l m : List Part} {s u : State} {status : Status} {reason : Option Reason} {data : List Byte}
    (h : Touches l s u) (hm : ∀ p ∈ l, p ∈ m := by decide) (answer : Part.answer ∈ m := by decide) :
    Touches m s (answering status reason data u) :=
  (h.mono hm).trans ((answer_touches _ u).mono fun p hp => by rw [List.mem_singleton.mp hp]; exact answer)

theorem cond_of_reportCond (p q : Point) (present : Bool) (s : State) :
    (reportCond p present s).alarm.points[q].cond = if q = p then present else s.alarm.points[q].cond := by
  have placed (t : State) : (place p t).alarm.points[q].cond = t.alarm.points[q].cond := by rw [place_points]
  have added (k : Nat) (t : State) : (addActivation k t).alarm.points[q].cond = t.alarm.points[q].cond := by
    rw [addActivation_alarm]
  have moved (f : PointRec → PointRec) (same : ∀ x, (f x).cond = x.cond) (t : State) :
      (t.onPoint p f).alarm.points[q].cond = t.alarm.points[q].cond := by
    by_cases e : p = q
    · subst e; simp [same]
    · simp [upd_other _ _ e]
  have activated (t : State) : (activate p t).alarm.points[q].cond = t.alarm.points[q].cond := by
    unfold activate
    dsimp only
    split
    · rw [added, moved _ (by intro x; rfl)]
    · rw [placed, added, moved _ (by intro x; rfl)]
  have changed (t : State) : (conditionChanged p present t).alarm.points[q].cond = t.alarm.points[q].cond := by
    unfold conditionChanged
    split
    · exact activated t
    · exact moved _ (by intro x; rfl) t
    · exact moved _ (by intro x; rfl) t
    · exact activated t
    all_goals rfl
  have stored : (s.onPoint p fun x => { x with cond := present }).alarm.points[q].cond
      = if q = p then present else s.alarm.points[q].cond := by
    by_cases e : q = p
    · subst e; simp
    · simp [e, upd_other _ _ (Ne.symm e)]
  unfold reportCond
  split
  next held =>
    split
    next e => rw [e, held]
    next => rfl
  next =>
    refine Eq.trans ?_ ((changed _).trans stored)
    split <;> rfl

/-! ## Every request in the image load (R163) -/

theorem exec_restart (seq : Byte) (s : State) :
    exec (.restart seq) s = .next (whenLinked (meetRequest seq 0x7F#8 restartService) s) := rfl

/-- Settles O3: the request is answered BUSY by its owner's row, RESTART by the transmitter's. -/
theorem requestsBusyDuringLoad : Obligations.RequestsBusyDuringLoad := by
  intro i f s owner load free
  by_cases restart : ∃ seq, i = .restart seq
  · obtain ⟨seq, rfl⟩ := restart
    refine ⟨_, rfl, ?_, ?_, fun other => absurd rfl (other seq)⟩
    · simp [whenLinked, load, meetRequest, free, serve, answered, plain, applyAfter, answering, compose, deliver]
    · have busy : Touches [.answer, .link] s (serve seq 0x7F#8 (fun s => (s, plain .busy)) s) :=
        ((answer_touches _ s).mono).trans (deliver_touches _ _).mono
      simpa [whenLinked, load, meetRequest, free] using busy
  · have other : ∀ seq, i ≠ .restart seq := fun seq e => restart ⟨seq, e⟩
    refine ⟨answering .busy none [] s, ?_, rfl, (answer_touches _ s).mono, fun _ => rfl⟩
    rw [exec_request s owner other, takeRequest_loading f s load, answered_eq s (plain .busy) rfl]
    rfl

/-! ## HEAT SET (R23) -/

/-- Settles O11. -/
theorem heatSetStores : Obligations.HeatSetStores := by
  refine ⟨fun k demand s run h1 h2 => exec_answers run rfl (forBurner_other k (heatSet demand) h1 h2 s),
    fun b demand s run => ?_⟩
  have service : forBurner (burnerCode b) (heatSet demand) s = heatSet demand b s := by rw [forBurner_burnerCode]
  dsimp only
  by_cases inside : demand ≤ min 250000 (s.live.burners.get b).maxHeat
  · rw [if_pos inside]
    exact exec_answers (a := done _) run rfl (service.trans (congrArg _ (if_pos inside)))
  · rw [if_neg inside]
    exact exec_answers (a := clampedWith _) run rfl (service.trans (congrArg _ (if_neg inside)))

/-! ## CHANNEL SERVICE (R45) -/

section
variable {c : Channel} {s u : State} {a : Ans}

theorem exec_serviceIn (run : s.phase = .running) (service : serviceIn c s = (u, a)) (plainly : a.after = .nothing := by rfl) :
    exec (.channelServiceIn (c.val + 1)) s = .next (answering a.status a.reason a.data u) :=
  exec_answers run rfl ((congrFun (forChannel_val c serviceIn) s).trans service) plainly

theorem exec_serviceOut (run : s.phase = .running) (service : serviceOut c s = (u, a)) (plainly : a.after = .nothing := by rfl) :
    exec (.channelServiceOut (c.val + 1)) s = .next (answering a.status a.reason a.data u) :=
  exec_answers run rfl ((congrFun (forChannel_val c serviceOut) s).trans service) plainly

theorem exec_channelReset (run : s.phase = .running) (service : resetChannel c s = (u, a))
    (plainly : a.after = .nothing := by rfl) :
    exec (.channelReset (c.val + 1)) s = .next (answering a.status a.reason a.data u) :=
  exec_answers run rfl ((congrFun (forChannel_val c resetChannel) s).trans service) plainly

end

theorem onChan_congr {c : Channel} {f g : Chan → Chan} (s : State) (h : f s.chans[c] = g s.chans[c]) :
    s.onChan c f = s.onChan c g := by simp only [State.onChan, upd_congr s.chans c h]

theorem reportCond_chans (p : Point) (present : Bool) (s : State) : (reportCond p present s).chans = s.chans :=
  reportCond_touches p present s .chans (by decide)

/-- Settles O15, by the table of each request. -/
theorem channelService : Obligations.ChannelService := by
  refine ⟨fun k s run out => ⟨exec_answers run rfl (forChannel_out out serviceIn s),
    exec_answers run rfl (forChannel_out out serviceOut s)⟩, fun c s run => ⟨?_, ?_, ?_, ?_, ?_, ?_, ?_, ?_, ?_, ?_, ?_⟩⟩
  · intro out assigned up
    refine exec_serviceIn (a := done []) run ?_
    by_cases fire : burnerFires s c
    · simp only [serviceIn, out, assigned, up, fire, ↓reduceIte]
      rfl
    · simp only [serviceIn, out, assigned, up, fire, ↓reduceIte, Bool.false_eq_true]
  · intro out unassigned
    exact exec_serviceIn (a := refusedFor .notAssigned) run (by simp only [serviceIn, out, unassigned, ↓reduceIte])
  · intro out assigned settling
    exact exec_serviceIn (a := refusedFor .unsettled) run (by simp only [serviceIn, out, assigned, settling, ↓reduceIte])
  · rintro (idle | dosing | hold)
    · exact exec_serviceIn (a := done []) run (by simp only [serviceIn, idle])
    · exact exec_serviceIn (a := done []) run (by simp only [serviceIn, dosing])
    · exact exec_serviceIn (a := done []) run (by simp only [serviceIn, hold])
  · intro fault
    exact exec_serviceIn (a := refusedFor .notOut) run (by simp only [serviceIn, fault])
  · intro calib
    exact exec_serviceIn (a := plain .busy) run (by simp only [serviceIn, calib])
  · intro idle
    exact exec_serviceOut (a := done []) run (by simp only [serviceOut, idle])
  · intro fault
    refine ⟨_, exec_serviceOut (a := done []) run (by simp only [serviceOut, fault]; rfl), ?_, ?_, rfl, ?_⟩
    · exact reportCond_chans _ _ _
    · exact (cond_of_reportCond _ _ _ _).trans (if_pos rfl)
    · exact Touches.answering (l := [.chans, .alarm, .shift, .handed])
        ((onChan_touches c _ s).mono.trans (reportCond_touches _ _ _).mono)
  · rintro (dosing | hold)
    · exact exec_serviceOut (a := refusedFor .burnerActive) run (by simp only [serviceOut, dosing])
    · exact exec_serviceOut (a := refusedFor .burnerActive) run (by simp only [serviceOut, hold])
  · intro out
    exact exec_serviceOut (a := done []) run (by simp only [serviceOut, out])
  · intro calib
    exact exec_serviceOut (a := plain .busy) run (by simp only [serviceOut, calib])

/-! ## CHANNEL RESET (R50) -/

/-- A faulted channel whose cause is removed. -/
def faultRemoved (c : Channel) (s : State) : State :=
  reportCond (faultPoint c) false (s.onChan c fun x => { x with state := .idle, u := 0, cause := none })

theorem faultRemoved_touches (c : Channel) (s : State) : Touches [.chans, .alarm, .shift, .handed] s (faultRemoved c s) :=
  (onChan_touches c _ s).mono.trans (reportCond_touches _ _ _).mono

theorem faultRemoved_burnerFires (c : Channel) (s : State) : burnerFires (faultRemoved c s) c = burnerFires s c := by
  have burns : (faultRemoved c s).burns = s.burns := faultRemoved_touches c s .burns (by decide)
  have store : (faultRemoved c s).store = s.store := faultRemoved_touches c s .store (by decide)
  simp only [burnerFires, burnerOf, fires, State.live, burns, store]

/-- Settles O16, by the state of the channel and of its load cell. -/
theorem channelReset : Obligations.ChannelReset := by
  refine ⟨fun k s run out => exec_answers run rfl (forChannel_out out resetChannel s), fun c s run => ⟨?_, ?_, ?_⟩⟩
  · intro fault usable
    have service : resetChannel c s =
        (if burnerFires s c then enterDosing c (faultRemoved c s) else faultRemoved c s, done []) := by
      simp only [resetChannel, fault, usable, Bool.false_eq_true, ↓reduceIte]
      show (if burnerFires (faultRemoved c s) c then enterDosing c (faultRemoved c s) else faultRemoved c s, done []) = _
      rw [faultRemoved_burnerFires]
    refine ⟨_, exec_channelReset (a := done []) run service, ?_, ?_, rfl, ?_⟩
    · show (if burnerFires s c then enterDosing c (faultRemoved c s) else faultRemoved c s).chans = _
      split
      · rw [enterDosing, State.onChan_chans, faultRemoved, reportCond_chans, State.onChan_chans]
        simp only [upd, Vector.set_set, Vector.getElem_set_self]
        rfl
      · rw [faultRemoved, reportCond_chans]
        simp
    · show (if burnerFires s c then enterDosing c (faultRemoved c s) else faultRemoved c s).alarm.points[faultPoint c].cond = _
      have gone : (faultRemoved c s).alarm.points[faultPoint c].cond = false :=
        (cond_of_reportCond _ _ _ _).trans (if_pos rfl)
      split <;> exact gone
    · exact Touches.answering (l := [.chans, .alarm, .shift, .handed])
        (.ite ((faultRemoved_touches c s).trans (enterDosing_touches c _).mono) (faultRemoved_touches c s))
  · intro fault bad
    exact exec_channelReset (a := refusedFor .causePresent) run (by simp only [resetChannel, fault, bad, ↓reduceIte])
  · intro sound
    refine exec_channelReset (a := done []) run ?_
    unfold resetChannel
    split
    next fault => exact absurd fault sound
    all_goals rfl

/-! ## CALIBRATE ZERO and CALIBRATE SPAN (R59, R60) -/

/-- The checks of R59 that both requests make. -/
def stageRefusal (s : State) (c : Channel) : Option Ans :=
  if s.chans[c].state = .calib then some (plain .busy)
  else if s.chans[c].state ≠ .out then some (refusedFor .notOut)
  else if s.floor.mode = .settle then some (refusedFor .unsettled)
  else if cellBad s c = true ∨ stopLoopClosed s = false then some (refusedFor .causePresent)
  else none

/-- R60: a channel at the start of a stage. -/
def stageStarted (kind : StageKind) (c : Channel) (testLoad : Option Nat) (duration : Nat) (s : State) : State :=
  s.onChan c fun x =>
    { x with
      state := .calib, u := s.live.chans[c].calDrive, result := none
      stage := some { kind := kind, testLoad := testLoad, duration := duration, timer := some (duration * 1000),
                      drive := s.live.chans[c].calDrive, sum := 0, count := 0 } }

theorem startStage_refused {kind : StageKind} {c : Channel} {testLoad : Option Nat} {duration : Nat} {s : State} {a : Ans}
    (refused : stageRefusal s c = some a) : startStage kind c testLoad duration s = (s, a) := by
  unfold stageRefusal at refused
  unfold startStage
  dsimp only
  split_ifs at refused ⊢ <;> simp_all

theorem startStage_accepted {kind : StageKind} {c : Channel} {testLoad : Option Nat} {duration : Nat} {s : State}
    (accepted : stageRefusal s c = none) : startStage kind c testLoad duration s =
      if kind = .span ∧ s.chans[c].tareConfirmed = false then (s, refusedFor .noTare)
      else (stageStarted kind c testLoad duration s, done []) := by
  unfold stageRefusal at accepted
  unfold startStage
  dsimp only
  split_ifs at accepted ⊢ <;> simp_all [stageStarted]

section
variable {k testLoad duration : Nat} {s : State}

theorem calibrateZero_out (h : k = 0 ∨ 6 < k ∨ duration < 10 ∨ 600 < duration) :
    calibrateZero k duration s = (s, plain .range) := by
  unfold calibrateZero
  split
  · exact forChannel_out (by omega) _ s
  · rfl

theorem calibrateSpan_out (h : k = 0 ∨ 6 < k ∨ duration < 10 ∨ 600 < duration ∨ testLoad = 0 ∨ 65535 < testLoad) :
    calibrateSpan k testLoad duration s = (s, plain .range) := by
  unfold calibrateSpan
  split
  · exact forChannel_out (by omega) _ s
  · rfl

theorem calibrateZero_val (c : Channel) (low : 10 ≤ duration) (high : duration ≤ 600) :
    calibrateZero (c.val + 1) duration s = startStage .zero c none duration s := by
  simp only [calibrateZero, low, high, and_self, ↓reduceIte, forChannel_val]

theorem calibrateSpan_val (c : Channel) (low : 10 ≤ duration) (high : duration ≤ 600) (light : 1 ≤ testLoad)
    (heavy : testLoad ≤ 65535) :
    calibrateSpan (c.val + 1) testLoad duration s = startStage .span c (some testLoad) duration s := by
  simp only [calibrateSpan, low, high, light, heavy, and_self, ↓reduceIte, forChannel_val]

end

/-- Settles O17: both requests make the same checks, and CALIBRATE SPAN one more. -/
theorem calibrationStarts : Obligations.CalibrationStarts := by
  refine ⟨fun k testLoad duration s run => ⟨fun out => exec_answers run rfl (calibrateZero_out out),
    fun out => exec_answers run rfl (calibrateSpan_out out)⟩, fun c testLoad duration s run low high light heavy => ?_⟩
  have zeroVal := calibrateZero_val (s := s) c low high
  have spanVal := calibrateSpan_val (s := s) c low high light heavy
  have checks : (stageRefusal s c).map (fun a => (a.status, a.reason)) =
      if s.chans[c].state = .calib then some (.busy, none)
      else if s.chans[c].state ≠ .out then some (.refused, some .notOut)
      else if s.floor.mode = .settle then some (.refused, some .unsettled)
      else if cellBad s c = true ∨ stopLoopClosed s = false then some (.refused, some .causePresent)
      else none := by unfold stageRefusal; split_ifs <;> rfl
  have bare {a : Ans} (refused : stageRefusal s c = some a) : a.after = .nothing ∧ a.data = [] := by
    unfold stageRefusal at refused
    split_ifs at refused <;> cases refused <;> exact ⟨rfl, rfl⟩
  dsimp only
  rw [← checks]
  refine ⟨fun status reason refused => ?_, fun accepted => ?_⟩
  · obtain ⟨a, found, same⟩ := Option.map_eq_some_iff.mp refused
    obtain ⟨plainly, noData⟩ := bare found
    obtain ⟨rfl, rfl⟩ := Prod.mk.inj same
    rw [← noData]
    exact ⟨exec_answers run rfl (zeroVal.trans (startStage_refused found)) plainly,
      exec_answers run rfl (spanVal.trans (startStage_refused found)) plainly⟩
  · have accepted := Option.map_eq_none_iff.mp accepted
    have zero := zeroVal.trans (startStage_accepted accepted)
    have span := spanVal.trans (startStage_accepted accepted)
    refine ⟨exec_answers (a := done []) run rfl (zero.trans (if_neg (by simp))), ?_⟩
    by_cases tare : s.chans[c].tareConfirmed = true
    · rw [if_pos tare]
      exact exec_answers (a := done []) run rfl (span.trans (if_neg fun h => Bool.false_ne_true (h.2.symm.trans tare)))
    · rw [if_neg tare]
      exact exec_answers (a := refusedFor .noTare) run rfl (span.trans (if_pos ⟨rfl, Bool.not_eq_true _ ▸ tare⟩))

end Sys2Proof.Machine
end

section
/-! PROOFS. Rules about condition reports, and the burners: lighting, trips and what an input's arrival does to one (R69 to
R81, R112). -/

namespace Sys2Proof.Machine

-- One proof at a time: proofs that wait for one another hold a thread each, and the threads' memory is bounded.
set_option Elab.async false

/-! ## What a condition report leaves alone -/

theorem onPoint_points_other {p q : Point} (f : PointRec → PointRec) (s : State) (h : q ≠ p) :
    (s.onPoint p f).alarm.points[q] = s.alarm.points[q] := by simp [upd_other _ _ h.symm]

theorem points_congr {s t : State} (h : t.alarm = s.alarm) (q : Point) : t.alarm.points[q] = s.alarm.points[q] := by rw [h]

theorem place_points_at (p q : Point) (s : State) : (place p s).alarm.points[q] = s.alarm.points[q] := by rw [place_points]

theorem activate_points_other {p q : Point} (s : State) (h : q ≠ p) :
    (activate p s).alarm.points[q] = s.alarm.points[q] := by
  unfold activate
  dsimp only
  split
  · exact (points_congr (addActivation_alarm _ _) q).trans (onPoint_points_other _ _ h)
  · exact (place_points_at p q _).trans ((points_congr (addActivation_alarm _ _) q).trans (onPoint_points_other _ _ h))

theorem conditionChanged_points_other {p q : Point} (present : Bool) (s : State) (h : q ≠ p) :
    (conditionChanged p present s).alarm.points[q] = s.alarm.points[q] := by
  unfold conditionChanged
  split
  · exact activate_points_other s h
  · exact onPoint_points_other _ s h
  · exact onPoint_points_other _ s h
  · exact activate_points_other s h
  all_goals rfl

/-- A report changes the record of its own point alone. -/
theorem reportCond_points_other {p q : Point} (present : Bool) (s : State) (h : q ≠ p) :
    (reportCond p present s).alarm.points[q] = s.alarm.points[q] := by
  have changed : (conditionChanged p present (s.onPoint p fun x => { x with cond := present })).alarm.points[q]
      = s.alarm.points[q] := (conditionChanged_points_other present _ h).trans (onPoint_points_other _ s h)
  unfold reportCond
  split
  · rfl
  · refine Eq.trans ?_ changed
    split <;> rfl

/-- The burners of a point's trip target, each with the cause that the point is (R116). -/
def tripsOf (p : Point) (s : State) : List (Burner × Cause) :=
  (bothBurners.filter (tripTarget s p).includes).map fun b => (b, .alarmPoint p)

theorem tripTarget_congr {s t : State} (h : t.store = s.store) : tripTarget t = tripTarget s := by
  funext p
  simp only [tripTarget, State.live, h]

/-- A report that makes its point present hands the trips of R116, any other hands none. -/
theorem handed_of_reportCond (p : Point) (present : Bool) (s : State) :
    (reportCond p present s).handed
      = s.handed ++ if s.alarm.points[p].cond = false ∧ present = true then tripsOf p s else [] := by
  have changed := conditionChanged_touches p present (s.onPoint p fun x => { x with cond := present })
  have handed : (conditionChanged p present (s.onPoint p fun x => { x with cond := present })).handed = s.handed :=
    changed .handed (by decide)
  have store : (conditionChanged p present (s.onPoint p fun x => { x with cond := present })).store = s.store :=
    changed .store (by decide)
  unfold reportCond
  split
  next held =>
    have same : ¬(s.alarm.points[p].cond = false ∧ present = true) := fun ⟨absent, new⟩ =>
      Bool.false_ne_true (absent.symm.trans (held.trans new))
    rw [if_neg same, List.append_nil]
  next moved =>
    cases present with
    | false => exact handed.trans (by simp)
    | true =>
      have absent : s.alarm.points[p].cond = false := (Bool.not_eq_true _).mp moved
      show (conditionChanged p true _).handed ++ tripsOf p (conditionChanged p true _) = _
      rw [handed, if_pos (⟨absent, rfl⟩ : s.alarm.points[p].cond = false ∧ true = true), tripsOf, tripTarget_congr store, tripsOf]

/-- Of the totaliser, only what it counts of the alarms has changed (R114, R138). -/
def AlarmTotals (s t : State) : Prop :=
  t.shift = { s.shift with totals := { s.shift.totals with
    prio := t.shift.totals.prio, suppressed := t.shift.totals.suppressed, maxWaiting := t.shift.totals.maxWaiting } }

theorem AlarmTotals.of_shift {s t : State} (h : t.shift = s.shift) : AlarmTotals s t := by rw [AlarmTotals, h]

theorem AlarmTotals.trans {s t u : State} (h : AlarmTotals s t) (k : AlarmTotals t u) : AlarmTotals s u := by
  rw [AlarmTotals] at *
  rw [k, h]

theorem AlarmTotals.ite {s t u : State} {c : Prop} [Decidable c] (h : AlarmTotals s t) (k : AlarmTotals s u) :
    AlarmTotals s (if c then t else u) := by split <;> assumption

theorem Touches.alarmTotals {l : List Part} {s t : State} (h : Touches l s t) (out : Part.shift ∉ l := by decide) :
    AlarmTotals s t := .of_shift (h .shift out)

theorem addActivation_alarmTotals (k : Nat) (s : State) : AlarmTotals s (addActivation k s) := by
  unfold addActivation
  split
  · exact .of_shift rfl
  · exact rfl

theorem place_alarmTotals (p : Point) (s : State) : AlarmTotals s (place p s) := by
  unfold place
  split
  · exact .of_shift rfl
  · exact rfl

theorem activate_alarmTotals (p : Point) (s : State) : AlarmTotals s (activate p s) := by
  have counted := (onPoint_touches p (fun x =>
    { x with state := .activeUnack, count := satInc top16 x.count, last := some (shiftClock s) }) s).alarmTotals.trans
      (addActivation_alarmTotals (priorityOf s p) _)
  unfold activate
  exact .ite counted (counted.trans (place_alarmTotals p _))

theorem conditionChanged_alarmTotals (p : Point) (present : Bool) (s : State) :
    AlarmTotals s (conditionChanged p present s) := by
  unfold conditionChanged
  split
  · exact activate_alarmTotals p s
  · exact .of_shift rfl
  · exact .of_shift rfl
  · exact activate_alarmTotals p s
  · exact rfl
  · exact rfl
  · exact .of_shift rfl

theorem reportCond_alarmTotals (p : Point) (present : Bool) (s : State) : AlarmTotals s (reportCond p present s) := by
  have changed : AlarmTotals s (conditionChanged p present (s.onPoint p fun x => { x with cond := present })) :=
    (onPoint_touches p _ s).alarmTotals.trans (conditionChanged_alarmTotals p present _)
  unfold reportCond
  exact .ite (.of_shift rfl) (.ite (changed.trans (handTrips_touches p _).alarmTotals) changed)

/-! ## BURNER LIGHT (R69, R70) -/

theorem exec_burnerLight {b : Burner} {s u : State} {a : Ans} (run : s.phase = .running) (service : burnerLight b s = (u, a))
    (plainly : a.after = .nothing := by rfl) :
    exec (.burnerLight (burnerCode b)) s = .next (answering a.status a.reason a.data u) :=
  exec_answers run rfl ((congrFun (forBurner_burnerCode b burnerLight) s).trans service) plainly

theorem burnerLight_refused {b : Burner} {s : State} {r : Reason} (off : (s.burns.get b).state = .off)
    (refused : lightRefusal s b = some r) : burnerLight b s = (s, refusedFor r) := by simp only [burnerLight, off, refused]

theorem burnerLight_accepted {b : Burner} {s : State} (off : (s.burns.get b).state = .off)
    (accepted : lightRefusal s b = none) : burnerLight b s = (enterPurge b s, done []) := by
  simp only [burnerLight, off, accepted]

theorem inletTooCold_iff (s : State) : inletTooCold s = true ↔
    s.scan.analog[(20 : AnalogIn)].quality = .bad ∨ s.scan.analog[(20 : AnalogIn)].quality = .unsettled
      ∨ s.scan.analog[(20 : AnalogIn)].value < (s.live.burners.calciner.permit : Int) := by
  simp only [inletTooCold, decide_eq_true_eq]
  cases s.scan.analog[(20 : AnalogIn)].quality <;> simp

/-- Settles O21: the checks are those of the owner, in its order. -/
theorem burnerLightRefusals : Obligations.BurnerLightRefusals := by
  refine ⟨fun k s run h1 h2 => exec_answers run rfl (forBurner_other k burnerLight h1 h2 s), fun b s run => ⟨?_, ?_, ?_⟩⟩
  · intro tripped
    exact exec_burnerLight (a := refusedFor .tripped) run (by simp only [burnerLight, tripped])
  · intro active
    refine exec_burnerLight (a := done []) run ?_
    unfold burnerLight
    split
    next off => rw [off] at active; cases active
    next tripped => rw [tripped] at active; cases active
    all_goals rfl
  · intro off inlet flame check r refused
    have same : lightRefusal s b = check := by
      simp only [lightRefusal, check, inletTooCold_iff, inlet, flame, Bool.not_eq_true']
    exact exec_burnerLight (a := refusedFor r) run (burnerLight_refused off (same.trans refused))

theorem lightRefusal_eq_none {s : State} {b : Burner} (awake : s.floor.mode ≠ .standby) (settled : s.floor.mode ≠ .settle)
    (closed : stopLoopClosed s = true) (free : tripPointInhibited s b = false) (absent : tripCondPresent s b = false)
    (lit : b = .calciner → s.burns.main.state = .firing ∧
      (s.scan.analog[(20 : AnalogIn)].quality = .good ∨ s.scan.analog[(20 : AnalogIn)].quality = .forced) ∧
      (s.live.burners.calciner.permit : Int) ≤ s.scan.analog[(20 : AnalogIn)].value)
    (sound : s.scan.analog[flameInput b].quality ≠ .bad)
    (dark : s.scan.analog[flameInput b].value < ((s.live.burners.get b).flameOn : Int)) : lightRefusal s b = none := by
  have main : ¬(b = .calciner ∧ s.burns.main.state ≠ .firing) := fun h => h.2 (lit h.1).1
  have warm : ¬(b = .calciner ∧ inletTooCold s = true) := fun ⟨h, cold⟩ => by
    obtain ⟨-, usable, permitted⟩ := lit h
    rw [inletTooCold_iff] at cold
    rcases cold with bad | unsettled | low
    · rcases usable with h | h <;> cases bad.symm.trans h
    · rcases usable with h | h <;> cases unsettled.symm.trans h
    · omega
  simp only [lightRefusal, awake, settled, closed, free, absent, main, warm, sound, not_le.mpr dark, Bool.not_true,
    Bool.false_eq_true, ↓reduceIte]

theorem enterPurge_touches (b : Burner) (s : State) : Touches [.burns] s (enterPurge b s) :=
  (onBurn_touches b _ s).trans (purgeJudged_touches b _)

/-- R70: the record of a burner that enters PURGE. -/
theorem enterPurge_burns (b : Burner) (s : State) : (enterPurge b s).burns = s.burns.upd b fun x =>
    { x with
      state := .purge, proof := 0, failure := 0
      purgeTimer := if draughtInWindow s b then some ((s.live.burners.get b).purgeTime * 1000) else none } := by
  have window (f : Burn → Burn) : draughtInWindow (s.onBurn b f) b = draughtInWindow s b := rfl
  unfold enterPurge purgeJudged
  rw [window]
  split <;> cases b <;> rfl

/-- Settles O20. -/
theorem burnerLightPurges : Obligations.BurnerLightPurges := by
  intro b s run off awake settled closed free absent lit sound dark
  have service := burnerLight_accepted off (lightRefusal_eq_none awake settled closed free absent lit sound dark)
  have record : ((enterPurge b s).burns.get b) = { s.burns.get b with
      state := .purge, proof := 0, failure := 0
      purgeTimer := if draughtInWindow s b then some ((s.live.burners.get b).purgeTime * 1000) else none } := by
    rw [enterPurge_burns, PerBurner.get_upd]
  refine ⟨_, exec_burnerLight run service, congrArg Burn.state record, congrArg Burn.proof record,
    congrArg Burn.failure record, ?_, ?_, congrArg Burn.purgeTimer record, fun c other => ?_, rfl,
    (enterPurge_touches b s).answering⟩
  · exact congrArg (fun x : Burn => x.state.outputs.1) record
  · exact congrArg (fun x : Burn => x.state.outputs.2) record
  · show (enterPurge b s).burns.get c = _
    rw [enterPurge_burns, PerBurner.get_upd_other _ _ other.symm]

/-! ## Trips (R76 to R80) -/

/-- R79: the first-out record of a trip from a state. -/
def firstOutOf (cause : Cause) (s : State) (from' : BurnState) : FirstOut :=
  { cause := cause, tripFrom := from', clock := if s.shift.isSet then some (shiftClock s) else none, later := 0 }

/-- R78: the record of a burner that has tripped. -/
def Burn.trippedBy (cause : Cause) (s : State) (x : Burn) : Burn :=
  { x.shut .tripped with firstOut := some (firstOutOf cause s x.state) }

theorem takeCause_of_active {b : Burner} {s : State} (cause : Cause) (active : (s.burns.get b).state.isActive = true) :
    takeCause b cause s = enterTripped b cause s := by
  unfold takeCause
  split
  next off => rw [off] at active; cases active
  next tripped => rw [tripped] at active; cases active
  all_goals rfl

/-- The entry to TRIPPED up to the handing of MAIN_LOST (R78, R80). -/
def tripEntered (b : Burner) (cause : Cause) (s : State) : State :=
  addTrip b (reportCond (tripPointOf b) true (followLeaving b (s.onBurn b (Burn.trippedBy cause s))))

theorem enterTripped_eq (b : Burner) (cause : Cause) (s : State) : enterTripped b cause s =
    if b = .main ∧ ((s.burns.get b).state = .proven ∨ (s.burns.get b).state = .firing)
    then (tripEntered b cause s).onHanded fun l => l ++ [(.calciner, .mainLost)] else tripEntered b cause s := by
  have record : (s.onBurn b fun x =>
      { x.shut .tripped with firstOut := some (firstOutOf cause s (s.burns.get b).state) }) = s.onBurn b (Burn.trippedBy cause s) := by
    cases b <;> rfl
  rw [tripEntered, ← record]
  rfl

/-- What an entry to TRIPPED does outside the handed causes is `tripEntered`. -/
theorem enterTripped_outside_handed (b : Burner) (cause : Cause) (s : State) :
    Touches [.handed] (tripEntered b cause s) (enterTripped b cause s) := by
  rw [enterTripped_eq]
  exact .ite (onHanded_touches _ _) (.refl _ _)

theorem enterTripped_burns (b : Burner) (cause : Cause) (s : State) :
    (enterTripped b cause s).burns = s.burns.upd b (Burn.trippedBy cause s) := by
  have left := followLeaving_touches b (s.onBurn b (Burn.trippedBy cause s)) .burns (by decide)
  have reported := reportCond_touches (tripPointOf b) true (followLeaving b (s.onBurn b (Burn.trippedBy cause s)))
    .burns (by decide)
  exact (enterTripped_outside_handed b cause s .burns (by decide)).trans (reported.trans left)

theorem takeCause_tripped {b : Burner} {s : State} (cause : Cause) (tripped : (s.burns.get b).state = .tripped) :
    takeCause b cause s = s.onBurn b fun x =>
      { x with firstOut := x.firstOut.map fun r => { r with later := min (r.later + 1) 255 } } := by
  simp only [takeCause, tripped]
  rfl

theorem takeCause_off {b : Burner} {s : State} (cause : Cause) (off : (s.burns.get b).state = .off) :
    takeCause b cause s = s := by simp only [takeCause, off]

/-- The command of a cause that has been handed (R83). -/
theorem exec_handedCommand {b : Burner} {cause : Cause} {i : Instr} {s : State} (run : s.phase = .running)
    (command : handedCommand (b, cause) = some i) : exec i s = .next (takeHanded b cause s) := by
  have taken (f : State → State) : whenRunning f s = f s := if_pos run
  cases cause with
  | alarmPoint p => cases b <;> cases command <;> exact congrArg Host.Outcome.next (taken _)
  | emergencyStop => cases b <;> cases command <;> exact congrArg Host.Outcome.next (taken _)
  | mainLost =>
    cases b with
    | main => cases command
    | calciner => cases command; exact congrArg Host.Outcome.next (taken _)
  | ignitionFailed => cases b <;> cases command
  | flameLost => cases b <;> cases command
  | inletCold => cases b <;> cases command

/-- Settles O24. -/
theorem causeAfterTrip : Obligations.CauseAfterTrip := by
  refine ⟨fun b cause i s run command => exec_handedCommand run command, fun b cause s =>
    ⟨takeCause_off cause, fun active => ?_, takeCause_tripped cause⟩⟩
  have record : (takeCause b cause s).burns.get b = (s.burns.get b).trippedBy cause s := by
    rw [takeCause_of_active cause active, enterTripped_burns, PerBurner.get_upd]
  rw [record]
  exact ⟨rfl, rfl, rfl⟩

/-! ### The plan of a burner that leaves FIRING -/

theorem feeds_congr {s t : State} (h : t.store = s.store) (c : Channel) (b : Burner) : feeds t c b = feeds s c b := by
  unfold feeds State.live
  rw [h]

theorem emptyPlan_entries (b : Burner) (s : State) (c : Channel) :
    (emptyPlan b s).planner.entries[c] = if feeds s c b then emptyEntry else s.planner.entries[c] := by
  have rounds (l : List Channel) (s : State) :
      (forEach l (fun c t => t.onEntry c fun _ => emptyEntry) s).planner.entries[c]
        = if c ∈ l then emptyEntry else s.planner.entries[c] := by
    induction l generalizing s with
    | nil => simp [forEach]
    | cons a l ih =>
      refine (ih _).trans ?_
      by_cases e : a = c
      · subst e; simp
      · simp [Ne.symm e, upd_other _ _ e]
  have emptied := rounds (channelsOf s b) s
  simp only [channelsOf, List.mem_filter, List.mem_finRange, true_and] at emptied
  exact emptied

theorem forEach_onEntry_planner (l : List Channel) (f : PlanEntry → PlanEntry) (s : State) :
    (forEach l (fun c t => t.onEntry c f) s).planner.hCap = s.planner.hCap
    ∧ (forEach l (fun c t => t.onEntry c f) s).planner.planTimer = s.planner.planTimer :=
  ⟨forEach_keeps (f := fun c t => t.onEntry c f) (g := fun t => t.planner.hCap) (fun _ _ => rfl) l s,
    forEach_keeps (f := fun c t => t.onEntry c f) (g := fun t => t.planner.planTimer) (fun _ _ => rfl) l s⟩

theorem followLeaving_planner (b : Burner) (s : State) :
    (followLeaving b s).planner = (plannerLeavesFiring b s).planner := channelsFollowStop_touches b _ .planner (by decide)

theorem followLeaving_entries (b : Burner) (s : State) (c : Channel) :
    (followLeaving b s).planner.entries[c] = if feeds s c b then emptyEntry else s.planner.entries[c] := by
  rw [followLeaving_planner, plannerLeavesFiring, emptyPlan_entries]
  rfl

theorem followLeaving_cap (b : Burner) (s : State) :
    (followLeaving b s).planner.hCap = s.planner.hCap ∧ (followLeaving b s).planner.planTimer = s.planner.planTimer := by
  rw [followLeaving_planner]
  exact forEach_onEntry_planner _ _ _

theorem leaveToIdle_points_other {c : Channel} {p : Point} (s : State) (hold : p ≠ holdPoint c) (deviation : p ≠ deviationPoint c) :
    (leaveToIdle c s).alarm.points[p] = s.alarm.points[p] := by
  unfold leaveToIdle
  dsimp only
  have held {f : Chan → Chan} : (if s.chans[c].state = .hold then reportCond (holdPoint c) false (s.onChan c f)
      else s.onChan c f).alarm.points[p] = s.alarm.points[p] := by
    split
    · exact reportCond_points_other _ _ hold
    · rfl
  split
  · split
    · exact (reportCond_points_other _ _ deviation).trans held
    · exact held
  · rfl

/-- A burner that leaves FIRING moves no point but its channels' hold and deviation points (R46). -/
theorem followLeaving_points_other {b : Burner} {p : Point} (s : State)
    (other : ∀ c : Channel, feeds s c b = true → p ≠ holdPoint c ∧ p ≠ deviationPoint c) :
    (followLeaving b s).alarm.points[p] = s.alarm.points[p] := by
  have planned := plannerLeavesFiring_touches b s
  have kept : (followLeaving b s).alarm.points[p] = s.alarm.points[p] ∧ (followLeaving b s).store = s.store := by
    refine forEach_preserves (P := fun t => t.alarm.points[p] = s.alarm.points[p] ∧ t.store = s.store)
      (fun c t h => ?_) _ ⟨by rw [planned .alarm (by decide)], planned .store (by decide)⟩
    obtain ⟨points, store⟩ := h
    have fed : feeds t c b = feeds s c b := feeds_congr store c b
    split
    next feed =>
      obtain ⟨hold, deviation⟩ := other c (fed ▸ feed)
      exact ⟨(leaveToIdle_points_other t hold deviation).trans points, (leaveToIdle_touches c t .store (by decide)).trans store⟩
    next => exact ⟨points, store⟩
  exact kept.1

end Sys2Proof.Machine
end

section
/-! PROOFS. The burners: a cause that trips one, and the lighting sequence with the arrivals that drive it (R68 to R81). -/

namespace Sys2Proof.Machine

-- One proof at a time: proofs that wait for one another hold a thread each, and the threads' memory is bounded.
set_option Elab.async false

/-! ## Loops -/

/-- A loop does to one index what its own round does: the other rounds leave it alone. -/
theorem forEach_at {α β : Type} {f : α → State → State} {g : State → β} {F : β → β} (P : State → Prop) {i : α} {l : List α}
    (once : l.Nodup) (mem : i ∈ l) (keeps : ∀ a t, P t → P (f a t)) (other : ∀ a t, P t → a ≠ i → g (f a t) = g t)
    (here : ∀ t, P t → g (f i t) = F (g t)) {s : State} (h : P s) : g (forEach l f s) = F (g s) := by
  have untouched (l : List α) (out : i ∉ l) (s : State) (h : P s) : g (forEach l f s) = g s := by
    induction l generalizing s with
    | nil => rfl
    | cons a l ih =>
      obtain ⟨ne, out⟩ := not_or.mp (List.mem_cons.not.mp out)
      exact (ih out _ (keeps a s h)).trans (other a s h (Ne.symm ne))
  induction l generalizing s with
  | nil => cases mem
  | cons a l ih =>
    obtain ⟨out, once⟩ := List.nodup_cons.mp once
    rcases List.mem_cons.mp mem with rfl | mem
    · exact (untouched l out _ (keeps i s h)).trans (here s h)
    · have ne : a ≠ i := fun e => out (e ▸ mem)
      exact (ih once mem (keeps a s h)).trans (congrArg F (other a s h ne))

/-! ## A handed cause (R78 to R80) -/

theorem tripEntered_shift (b : Burner) (cause : Cause) (s : State) : ∃ (prio : Vector Nat 4) (suppressed maxWaiting : Nat),
    (tripEntered b cause s).shift = { s.shift with totals := { s.shift.totals with
      prio := prio, suppressed := suppressed, maxWaiting := maxWaiting
      burns := s.shift.totals.burns.upd b fun x => { x with trips := satInc top32 x.trips } } } := by
  have left : (followLeaving b (s.onBurn b (Burn.trippedBy cause s))).shift = s.shift := (followLeaving_onlyClears b _).1
  let v := reportCond (tripPointOf b) true (followLeaving b (s.onBurn b (Burn.trippedBy cause s)))
  have reported := reportCond_alarmTotals (tripPointOf b) true (followLeaving b (s.onBurn b (Burn.trippedBy cause s)))
  rw [AlarmTotals, left] at reported
  refine ⟨v.shift.totals.prio, v.shift.totals.suppressed, v.shift.totals.maxWaiting, ?_⟩
  rw [tripEntered, addTrip, State.onTotals, State.onShift_shift, reported]

theorem enterTripped_cond (b : Burner) (cause : Cause) (s : State) :
    (enterTripped b cause s).alarm.points[tripPointOf b].cond = true := by
  rw [points_congr (enterTripped_outside_handed b cause s .alarm (by decide))]
  exact (cond_of_reportCond _ _ _ _).trans (if_pos rfl)

theorem enterTripped_points_other {b : Burner} {p : Point} (cause : Cause) (s : State) (trip : p ≠ tripPointOf b)
    (other : ∀ c : Channel, feeds s c b = true → p ≠ holdPoint c ∧ p ≠ deviationPoint c) :
    (enterTripped b cause s).alarm.points[p] = s.alarm.points[p] := by
  rw [points_congr (enterTripped_outside_handed b cause s .alarm (by decide))]
  exact (reportCond_points_other true _ trip).trans (followLeaving_points_other (s.onBurn b (Burn.trippedBy cause s)) other)

theorem enterTripped_planner (b : Burner) (cause : Cause) (s : State) : (enterTripped b cause s).planner
    = (followLeaving b (s.onBurn b (Burn.trippedBy cause s))).planner :=
  (enterTripped_outside_handed b cause s .planner (by decide)).trans (reportCond_touches _ _ _ .planner (by decide))

theorem enterTripped_chans (b : Burner) (cause : Cause) (s : State) (c : Channel) :
    (enterTripped b cause s).chans[c] = if feeds s c b then s.chans[c].toIdle else s.chans[c] := by
  have left : (enterTripped b cause s).chans = (followLeaving b (s.onBurn b (Burn.trippedBy cause s))).chans :=
    (enterTripped_outside_handed b cause s .chans (by decide)).trans (reportCond_touches _ _ _ .chans (by decide))
  rw [left, followLeaving_chans]
  rfl

theorem Burn.trippedBy_eq (cause : Cause) (s : State) (x : Burn) : x.trippedBy cause s =
    { state := .tripped, purgeTimer := none, trialTimer := none, stabTimer := none, proof := 0, failure := 0
      firstOut := some
        { cause := cause, tripFrom := x.state
          clock := if s.shift.isSet then some ⟨s.shift.seconds, s.shift.day, true⟩ else none, later := 0 } } := by
  have clock : (if s.shift.isSet then some (shiftClock s) else none)
      = if s.shift.isSet then some ⟨s.shift.seconds, s.shift.day, true⟩ else none := by
    split
    next set => rw [shiftClock, set]
    next => rfl
  rw [trippedBy, firstOutOf, clock]
  rfl

/-- Settles O23: an entry to TRIPPED, part by part. -/
theorem handedCauseTrips : Obligations.HandedCauseTrips := by
  intro b cause i s run command active
  let u : State := s.onHanded fun l => l.erase (b, cause)
  have entered : takeHanded b cause s = enterTripped b cause u := takeCause_of_active (s := u) cause active
  have burns : (enterTripped b cause u).burns = s.burns.upd b (Burn.trippedBy cause s) := enterTripped_burns b cause u
  have state : ((enterTripped b cause u).burns.get b).state = .tripped := by rw [burns, PerBurner.get_upd]; rfl
  have demand : (enterTripped b cause u).planner.demand = s.planner.demand.upd b Demand.unplanned :=
    (congrArg Planner.demand (enterTripped_planner b cause u)).trans (followLeaving_demand b _)
  have entries (c : Channel) :
      (enterTripped b cause u).planner.entries[c] = if feeds s c b then emptyEntry else s.planner.entries[c] := by
    rw [enterTripped_planner]
    exact followLeaving_entries b (u.onBurn b (Burn.trippedBy cause u)) c
  have chans (c : Channel) : (enterTripped b cause u).chans[c] = if feeds s c b then s.chans[c].toIdle else s.chans[c] :=
    enterTripped_chans b cause u c
  obtain ⟨prio, suppressed, maxWaiting, totals⟩ := tripEntered_shift b cause u
  have shift : (enterTripped b cause u).shift = { s.shift with totals := { s.shift.totals with
      prio := prio, suppressed := suppressed, maxWaiting := maxWaiting
      burns := s.shift.totals.burns.upd b fun x => { x with trips := satInc top32 x.trips } } } :=
    (enterTripped_outside_handed b cause u .shift (by decide)).trans totals
  have cap := followLeaving_cap b (u.onBurn b (Burn.trippedBy cause u))
  refine ⟨_, (exec_handedCommand run command).trans (congrArg _ entered), ?_, ?_, ?_, ?_, ?_, ?_, ?_, ?_, ?_, ?_, ?_, ?_, ?_,
    ?_, ?_, ?_, ?_, ?_, ?_⟩
  · rw [burns]
    exact congrArg (s.burns.upd b) (funext (Burn.trippedBy_eq cause s))
  · exact congrArg (fun x : BurnState => x.outputs.1) state
  · exact congrArg (fun x : BurnState => x.outputs.2) state
  · rw [demand, PerBurner.get_upd]; rfl
  · rw [demand, PerBurner.get_upd]; rfl
  · intro c fed
    rw [entries, chans, if_pos fed, if_pos fed]
    exact ⟨rfl, Chan.toIdle_of_feeding, fun d h => if_neg (not_or.mpr ⟨d, h⟩)⟩
  · intro c fed
    rw [entries, chans, if_neg (by simp [fed]), if_neg (by simp [fed])]
    exact ⟨rfl, rfl⟩
  · intro d other
    rw [demand, PerBurner.get_upd_other _ _ other.symm]
  · rw [enterTripped_planner]; exact cap.1
  · rw [enterTripped_planner]; exact cap.2
  · exact enterTripped_cond b cause u
  · intro p trip other
    exact enterTripped_points_other cause u trip other
  · rw [shift]
  · intro d other
    rw [shift]
    exact PerBurner.get_upd_other _ _ other.symm
  · rw [shift]
  · rw [shift]
  · rw [shift]
    exact congrArg BurnTotal.trips (PerBurner.get_upd _ b _)
  · rintro rfl lit
    rw [enterTripped_eq, if_pos ⟨rfl, lit⟩]
    exact List.mem_append_right _ (List.mem_singleton.mpr rfl)
  · exact ((onHanded_touches _ s).mono).trans ((enterTripped_touches b cause u).mono)

/-! ## Arrivals (R3, R7) -/

/-- The state in which an arrival is handed over: the record taken, and its limits judged (R3). -/
def arrivalTaken (i : AnalogIn) (sample : Nat) (s : State) : State :=
  let t := s.onAnalog i fun x => x.arrived s.live.inputs[i] sample (decide (s.floor.mode = .settle))
  if (s.scan.analog[i].force).isSome || sampleInRange sample then evaluate i t else t

theorem takeSample_eq (i : AnalogIn) (sample : Nat) (s : State) :
    takeSample i sample s = handOver i true (arrivalTaken i sample s) := rfl

theorem arrivalTaken_touches (i : AnalogIn) (sample : Nat) (s : State) :
    Touches [.scan, .alarm, .shift, .handed] s (arrivalTaken i sample s) := by
  have stored := (onAnalog_touches i (fun x => x.arrived s.live.inputs[i] sample (decide (s.floor.mode = .settle))) s).mono
    (m := [.scan, .alarm, .shift, .handed])
  exact .ite (stored.trans (evaluate_touches i _).mono) stored

theorem arrivalTaken_burns (i : AnalogIn) (sample : Nat) (s : State) : (arrivalTaken i sample s).burns = s.burns :=
  arrivalTaken_touches i sample s .burns (by decide)

theorem arrivalTaken_live (i : AnalogIn) (sample : Nat) (s : State) : (arrivalTaken i sample s).live = s.live :=
  congrArg Store.live (arrivalTaken_touches i sample s .store (by decide))

theorem handOver_scan (i : AnalogIn) (arrival : Bool) (s : State) : (handOver i arrival s).scan = s.scan :=
  handOver_touches i arrival s .scan (by decide)

theorem exec_arrival {i : AnalogIn} {sample : Nat} {s : State} (run : s.phase = .running) :
    exec (.analogSampleArrival i sample) s = .next (handOver i true (arrivalTaken i sample s)) :=
  congrArg Host.Outcome.next (if_pos run)

/-! ## The lighting sequence (R70 to R73, R81) -/

theorem PerBurner.upd_congr {α : Type} (v : PerBurner α) (b : Burner) {f g : α → α} (h : f (v.get b) = g (v.get b)) :
    v.upd b f = v.upd b g := by cases b <;> simp_all [PerBurner.upd, PerBurner.get]

theorem PerBurner.upd_eq_self {α : Type} (v : PerBurner α) (b : Burner) {f : α → α} (h : f (v.get b) = v.get b) :
    v.upd b f = v := by cases b <;> simp_all [PerBurner.upd, PerBurner.get]

/-- R70: what the draught does to a burner. -/
def Burn.draughtTaken (purgeTime : Nat) (inWindow : Bool) (x : Burn) : Burn :=
  if x.state = .purge then { x with purgeTimer := if inWindow then some (x.purgeTimer.getD (purgeTime * 1000)) else none } else x

theorem handDraught_burns (b : Burner) (s : State) : (handDraught b s).burns
    = s.burns.upd b (Burn.draughtTaken (s.live.burners.get b).purgeTime (draughtInWindow s b)) := by
  unfold handDraught purgeJudged
  split
  next purging =>
    split
    next inside =>
      refine (State.onBurn_burns b _ s).trans (PerBurner.upd_congr _ b ?_)
      rw [Burn.draughtTaken, if_pos purging, inside]
      cases (s.burns.get b).purgeTimer <;> rfl
    next outside =>
      refine (State.onBurn_burns b _ s).trans (PerBurner.upd_congr _ b ?_)
      rw [Burn.draughtTaken, if_pos purging, (Bool.not_eq_true _).mp outside]
      rfl
  next idle => exact (PerBurner.upd_eq_self s.burns b (f := Burn.draughtTaken _ _) (if_neg idle)).symm

/-- R71: what a flame sample does to a burner in IGNITION. -/
theorem handFlame_ignition {b : Burner} {s : State} (h : (s.burns.get b).state = .ignition) :
    handFlame b s = provingSample b s := by simp only [handFlame, h]

theorem handFlame_burning {b : Burner} {s : State} (h : (s.burns.get b).state = .proven ∨ (s.burns.get b).state = .firing) :
    handFlame b s = flameSample b s := by
  rcases h with h | h <;> simp only [handFlame, h]

theorem handFlame_other {b : Burner} {s : State} (ignition : (s.burns.get b).state ≠ .ignition)
    (proven : (s.burns.get b).state ≠ .proven) (firing : (s.burns.get b).state ≠ .firing) : handFlame b s = s := by
  unfold handFlame
  split <;> first | rfl | contradiction

theorem handOver_flame (b : Burner) (s : State) : handOver (flameInput b) true s = handFlame b s := by cases b <;> rfl

theorem handOver_draught (arrival : Bool) (s : State) :
    handOver 21 arrival s = handDraught .calciner (handDraught .main s) := rfl

theorem handOver_inlet (s : State) : handOver 20 true s = handInlet s := rfl

theorem takeCause_burns_other (b d : Burner) (cause : Cause) (s : State) (h : d ≠ b) :
    (takeCause b cause s).burns.get d = s.burns.get d := by
  have tripped : (enterTripped b cause s).burns.get d = s.burns.get d := by
    rw [enterTripped_burns, PerBurner.get_upd_other _ _ h.symm]
  unfold takeCause
  split
  · rfl
  · exact PerBurner.get_upd_other _ _ h.symm
  all_goals exact tripped


theorem onBurn_burns_other {b d : Burner} (f : Burn → Burn) (s : State) (h : d ≠ b) :
    (s.onBurn b f).burns.get d = s.burns.get d := PerBurner.get_upd_other _ _ h.symm

theorem onBurn_burns_same (b : Burner) (f : Burn → Burn) (s : State) : (s.onBurn b f).burns.get b = f (s.burns.get b) :=
  PerBurner.get_upd _ b f

/-- R71: the proof count after a flame sample. -/
def proofAfter (s : State) (b : Burner) : Nat :=
  let a := s.scan.analog[flameInput b]
  if a.quality ≠ .bad ∧ ((s.live.burners.get b).flameOn : Int) ≤ a.value then (s.burns.get b).proof + 1 else 0

theorem provingSample_eq (b : Burner) (s : State) : provingSample b s =
    if 3 ≤ proofAfter s b then provenFlame b s else s.onBurn b fun x => { x with proof := proofAfter s b } := rfl

/-- R73: the failure count after a flame sample. -/
def failureAfter (s : State) (b : Burner) : Nat :=
  let a := s.scan.analog[flameInput b]
  if a.quality = .bad ∨ a.value < ((s.live.burners.get b).flameOff : Int) then (s.burns.get b).failure + 1 else 0

theorem flameSample_trips {b : Burner} {s : State} (lost : 0 < failureAfter s b)
    (limit : (s.live.burners.get b).failSamples ≤ failureAfter s b) :
    flameSample b s = takeCause b .flameLost (s.onBurn b fun x => { x with failure := failureAfter s b }) := by
  have cause : s.scan.analog[flameInput b].quality = .bad
      ∨ s.scan.analog[flameInput b].value < ((s.live.burners.get b).flameOff : Int) := by
    by_contra h
    rw [failureAfter, if_neg h] at lost
    exact lost.false
  exact if_pos ⟨cause, limit⟩

theorem flameSample_counts {b : Burner} {s : State}
    (within : failureAfter s b = 0 ∨ failureAfter s b < (s.live.burners.get b).failSamples) :
    flameSample b s = s.onBurn b fun x => { x with failure := failureAfter s b } := by
  refine if_neg fun ⟨lost, limit⟩ => ?_
  have count : failureAfter s b = (s.burns.get b).failure + 1 := if_pos lost
  have limit : (s.live.burners.get b).failSamples ≤ failureAfter s b := limit
  omega

/-- A flame sample moves its own burner alone. -/
theorem handFlame_burns_other {b d : Burner} (s : State) (h : d ≠ b) : (handFlame b s).burns.get d = s.burns.get d := by
  have proving : (provingSample b s).burns.get d = s.burns.get d := by
    rw [provingSample_eq]
    split <;> exact onBurn_burns_other _ s h
  have sampled : (flameSample b s).burns.get d = s.burns.get d := by
    by_cases within : failureAfter s b = 0 ∨ failureAfter s b < (s.live.burners.get b).failSamples
    · rw [flameSample_counts within]
      exact onBurn_burns_other _ s h
    · rw [flameSample_trips (by omega) (by omega), takeCause_burns_other b d _ _ h]
      exact onBurn_burns_other _ s h
  unfold handFlame
  split
  · exact proving
  · exact sampled
  · exact sampled
  all_goals rfl

/-- R70, R71: the draught, handed to both burners. -/
theorem draughtArrival_burns (b : Burner) (s : State) : (handOver 21 true s).burns.get b
    = (s.burns.get b).draughtTaken (s.live.burners.get b).purgeTime (draughtInWindow s b) := by
  have window : draughtInWindow (handDraught .main s) .calciner = draughtInWindow s .calciner := by
    have scan : (handDraught .main s).scan = s.scan := handDraught_touches .main s .scan (by decide)
    have store : (handDraught .main s).store = s.store := handDraught_touches .main s .store (by decide)
    unfold draughtInWindow State.live
    rw [scan, store]
  have live : (handDraught .main s).live = s.live := congrArg Store.live (handDraught_touches .main s .store (by decide))
  rw [handOver_draught, handDraught_burns, handDraught_burns, window, live]
  cases b <;> rfl

/-- R72, R46: the channels of a burner that enters FIRING. -/
theorem channelsFollowFiring_chans (b : Burner) (s : State) (c : Channel) : (channelsFollowFiring b s).chans[c]
    = if feeds s c b = true ∧ s.chans[c].state = .idle then
        { s.chans[c].countsCleared with state := .dosing, awaitsPlan := true, r := 0, trim := 0, u := 0 } else s.chans[c] := by
  refine forEach_at (g := fun t => t.chans[c])
    (F := fun x => if feeds s c b = true ∧ x.state = .idle then
      { x.countsCleared with state := .dosing, awaitsPlan := true, r := 0, trim := 0, u := 0 } else x)
    (fun t => t.store = s.store) (List.nodup_finRange 6) (List.mem_finRange c) (fun d t h => ?_) (fun d t h ne => ?_)
    (fun t h => ?_) rfl
  · split
    · exact h
    · exact h
  · split
    · exact upd_other _ _ ne
    · rfl
  · rw [feeds_congr h]
    by_cases follows : feeds s c b = true ∧ t.chans[c].state = .idle
    · rw [if_pos follows, if_pos (by simpa using follows)]
      exact upd_same _ _ _
    · rw [if_neg follows, if_neg (by simpa using follows)]

theorem shut_outputs {t : State} {b : Burner} (h : (t.burns.get b).state = .tripped) :
    shutoffOpen t b = false ∧ igniterOn t b = false :=
  ⟨congrArg (fun x : BurnState => x.outputs.1) h, congrArg (fun x : BurnState => x.outputs.2) h⟩

theorem takeCause_tripsActive {b : Burner} {s : State} (cause : Cause) (active : (s.burns.get b).state.isActive = true) :
    (takeCause b cause s).burns.get b = (s.burns.get b).trippedBy cause s
    ∧ (takeCause b cause s).alarm.points[tripPointOf b].cond = true := by
  rw [takeCause_of_active cause active, enterTripped_burns, PerBurner.get_upd]
  exact ⟨rfl, enterTripped_cond b cause s⟩

/-- R71, R73: an arrival at a burner's flame input, by the state of the burner. -/
theorem handFlame_burn (b : Burner) (s : State) {proof failure : Nat} (proven : proofAfter s b = proof)
    (failed : failureAfter s b = failure) :
    let x := s.burns.get b
    let t := handFlame b s
    (x.state = .ignition → t.burns.get b = if 3 ≤ proof then
      { x with state := .proven, trialTimer := none, stabTimer := some 5000, proof := 0, failure := 0 }
      else { x with proof := proof })
    ∧ (x.state = .proven ∨ x.state = .firing →
      (0 < failure → (s.live.burners.get b).failSamples ≤ failure →
        (t.burns.get b).state = .tripped
        ∧ (t.burns.get b).firstOut.map (fun r => (r.cause, r.tripFrom)) = some (.flameLost, x.state)
        ∧ shutoffOpen t b = false ∧ igniterOn t b = false ∧ t.alarm.points[tripPointOf b].cond = true)
      ∧ (failure = 0 ∨ failure < (s.live.burners.get b).failSamples →
        t.burns.get b = { x with failure := failure }))
    ∧ (x.state ≠ .ignition → x.state ≠ .proven → x.state ≠ .firing → t.burns.get b = x) := by
  subst proven failed
  refine ⟨fun lighting => ?_, fun burning => ⟨fun lost limit => ?_, fun within => ?_⟩, fun ignition proven firing => ?_⟩
  · rw [handFlame_ignition lighting, provingSample_eq]
    split <;> exact onBurn_burns_same b _ s
  · let u : State := s.onBurn b fun x => { x with failure := failureAfter s b }
    have record : u.burns.get b = { s.burns.get b with failure := failureAfter s b } := onBurn_burns_same b _ s
    have active : (u.burns.get b).state.isActive = true := by
      rw [record]
      rcases burning with h | h <;> exact congrArg BurnState.isActive h
    obtain ⟨trip, raised⟩ := takeCause_tripsActive .flameLost active
    rw [handFlame_burning burning, flameSample_trips lost limit]
    have state : ((takeCause b .flameLost u).burns.get b).state = .tripped := congrArg Burn.state trip
    refine ⟨state, ?_, (shut_outputs state).1, (shut_outputs state).2, raised⟩
    exact (congrArg (fun y : Burn => y.firstOut.map fun r => (r.cause, r.tripFrom)) trip).trans (by rw [record])
  · rw [handFlame_burning burning, flameSample_counts within]
    exact onBurn_burns_same b _ s
  · rw [handFlame_other ignition proven firing]

/-- R81: an arrival of the inlet temperature. -/
theorem handInlet_burns (s : State) :
    let a := s.scan.analog[(20 : AnalogIn)]
    let cold := s.burns.calciner.state = .firing ∧ a.quality ≠ .bad ∧ a.value < (s.live.burners.calciner.permit : Int) - 50
    let t := handInlet s
    t.burns.main = s.burns.main
    ∧ (cold → t.burns.calciner.state = .tripped
      ∧ t.burns.calciner.firstOut.map (fun r => (r.cause, r.tripFrom)) = some (.inletCold, .firing))
    ∧ (¬cold → t.burns.calciner = s.burns.calciner) := by
  refine ⟨?_, fun cold => ?_, fun warm => ?_⟩
  · unfold handInlet
    dsimp only
    split
    · exact takeCause_burns_other .calciner .main .inletCold s nofun
    · rfl
  · obtain ⟨trip, -⟩ := takeCause_tripsActive (b := .calciner) .inletCold (congrArg BurnState.isActive cold.1)
    have trip : (handInlet s).burns.calciner = s.burns.calciner.trippedBy .inletCold s :=
      (congrArg (fun t : State => t.burns.calciner) (if_pos cold)).trans trip
    rw [trip, ← cold.1]
    exact ⟨rfl, rfl⟩
  · exact congrArg (fun t : State => t.burns.calciner) (if_neg warm)

/-- Settles O22: the arrivals that a burner is handed, and its timers' expiries. -/
theorem lightingSequence : Obligations.LightingSequence := by
  refine ⟨fun sample s run => ⟨⟨_, exec_arrival run, fun b => ?_⟩, ⟨_, exec_arrival run, ?_⟩⟩, fun b sample s run =>
    ⟨_, exec_arrival run, ?_⟩, fun b s run => ⟨fun purging timed => ?_, fun proven timed => ?_⟩, fun b s run lighting timed => ?_⟩
  · dsimp only
    rw [draughtArrival_burns, handOver_scan, arrivalTaken_burns, arrivalTaken_live, Burn.draughtTaken]
    simp only [draughtInWindow, arrivalTaken_live, decide_eq_true_eq]
  · have inlet := handInlet_burns (arrivalTaken 20 sample s)
    rw [arrivalTaken_burns, arrivalTaken_live] at inlet
    dsimp only
    rw [handOver_scan, handOver_inlet]
    exact inlet
  · dsimp only
    rw [handOver_scan, handOver_flame]
    have flame := handFlame_burn b (arrivalTaken (flameInput b) sample s)
      (by rw [proofAfter, arrivalTaken_burns, arrivalTaken_live]) (by rw [failureAfter, arrivalTaken_burns, arrivalTaken_live])
    rw [arrivalTaken_burns, arrivalTaken_live] at flame
    obtain ⟨ignition, burning, other⟩ := flame
    refine ⟨ignition, burning, other, fun d ne => ?_⟩
    rw [handFlame_burns_other _ ne, arrivalTaken_burns]
  · have record := onBurn_burns_same b (fun x => { x with
      state := .ignition, purgeTimer := none, proof := 0
      trialTimer := some ((s.live.burners.get b).trialTime * 1000) }) s
    refine ⟨_, congrArg Host.Outcome.next ((if_pos run).trans (if_pos ⟨purging, timed⟩)), congrArg Burn.state record,
      congrArg Burn.trialTimer record, congrArg Burn.proof record, congrArg (fun x : Burn => x.state.outputs.2) record,
      congrArg (fun x : Burn => x.state.outputs.1) record, onBurn_touches b _ s⟩
  · let u : State := (s.onBurn b fun x => { x with state := .firing, stabTimer := none }).onDemand b fun d => { d with hApp := 0 }
    have record : u.burns.get b = { s.burns.get b with state := .firing, stabTimer := none } := onBurn_burns_same b _ s
    have burns : (channelsFollowFiring b u).burns = u.burns := channelsFollowFiring_touches b u .burns (by decide)
    have planner : (channelsFollowFiring b u).planner = u.planner := channelsFollowFiring_touches b u .planner (by decide)
    have state : ((channelsFollowFiring b u).burns.get b).state = .firing := by rw [burns, record]
    refine ⟨channelsFollowFiring b u, congrArg Host.Outcome.next ((if_pos run).trans (if_pos ⟨proven, timed⟩)), state,
      congrArg (fun x : BurnState => x.outputs.1) state, congrArg (fun x : BurnState => x.outputs.2) state, ?_,
      channelsFollowFiring_chans b u, ?_⟩
    · rw [planner]
      exact congrArg Demand.hApp (PerBurner.get_upd s.planner.demand b _)
    · exact ((onBurn_touches b _ s).mono).trans (((onDemand_touches b _ _).mono).trans
        ((channelsFollowFiring_touches b u).mono))
  · obtain ⟨trip, raised⟩ := takeCause_tripsActive .ignitionFailed (congrArg BurnState.isActive lighting)
    have state : ((takeCause b .ignitionFailed s).burns.get b).state = .tripped := congrArg Burn.state trip
    refine ⟨_, congrArg Host.Outcome.next ((if_pos run).trans (if_pos ⟨lighting, timed⟩)), state,
      congrArg Burn.trialTimer trip, ?_, (shut_outputs state).1, (shut_outputs state).2, raised⟩
    rw [trip, Burn.trippedBy_eq, lighting]

end Sys2Proof.Machine
end

section
/-! PROOFS. How a calibration stage ends: by CALIBRATE ABORT and by its timer (R61 to R63). -/

namespace Sys2Proof.Machine

-- One proof at a time: proofs that wait for one another hold a thread each, and the threads' memory is bounded.
set_option Elab.async false

theorem upd_upd {α : Type} {n : Nat} (v : Vector α n) (i : Fin n) (f g : α → α) : upd (upd v i f) i g = upd v i (g ∘ f) := by
  simp [upd]

theorem exec_calibrateAbort {c : Channel} {s u : State} {a : Ans} (run : s.phase = .running)
    (service : calibrateAbort c s = (u, a)) (plainly : a.after = .nothing := by rfl) :
    exec (.calibrateAbort (c.val + 1)) s = .next (answering a.status a.reason a.data u) :=
  exec_answers run rfl ((congrFun (forChannel_val c calibrateAbort) s).trans service) plainly

/-- The end of a stage that took samples: the channel OUT with its result, and the setting that a success stores (R61). -/
def stageEnded (c : Channel) (r : CalResult) (s : State) : State :=
  s.onChan c fun x => { x with state := .out, u := 0, stage := none, result := some r }

theorem stageMean_of_samples {g : Stage} (s : State) (h : 0 < g.count) : stageMean s g = g.sum / g.count := if_neg h.ne'

theorem exec_stageTimer {c : Channel} {g : Stage} {s : State} (run : s.phase = .running) (calib : s.chans[c].state = .calib)
    (stage : s.chans[c].stage = some g) : exec (.stageTimerExpiry c) s = .next (completeStage c g s) := by
  refine congrArg Host.Outcome.next ((if_pos run).trans ?_)
  simp only [stageExpires, stage, calib, ↓reduceIte]

theorem completeStage_failed {c : Channel} {g : Stage} {s : State} {outcome : CalOutcome} {reason : Option CalReason}
    (judged : judgeStage g s.live.chans[c].tare (stageMean s g) = (outcome, reason, none)) :
    completeStage c g s = stageEnded c
      { kind := g.kind, outcome := outcome, reason := reason, count := some g.count, mean := some (stageMean s g)
        newValue := none } (if g.count = 0 then s.drawn else s) := by
  simp only [completeStage, judged]
  rfl

theorem completeStage_zeroed {c : Channel} {g : Stage} {s : State} {v : Nat} (kind : g.kind = .zero) (samples : 0 < g.count)
    (judged : judgeStage g s.live.chans[c].tare (stageMean s g) = (.ok, none, some v)) :
    completeStage c g s = ((stageEnded c
      { kind := .zero, outcome := .ok, reason := none, count := some g.count, mean := some (stageMean s g)
        newValue := some v } s).onLive fun l => l.put (.chan c .tare) v).onChan c fun x => { x with tareConfirmed := true } := by
  simp only [completeStage, judged, kind, samples.ne', ↓reduceIte]
  rfl

theorem completeStage_spanned {c : Channel} {g : Stage} {s : State} {v : Nat} (kind : g.kind = .span) (samples : 0 < g.count)
    (judged : judgeStage g s.live.chans[c].tare (stageMean s g) = (.ok, none, some v)) :
    completeStage c g s = (stageEnded c
      { kind := .span, outcome := .ok, reason := none, count := some g.count, mean := some (stageMean s g)
        newValue := some v } s).onLive fun l => l.put (.chan c .span) v := by
  simp only [completeStage, judged, kind, samples.ne', ↓reduceIte]
  rfl

theorem live_chans_kept (c : Channel) (s : State) : s.store = { s.store with live := { s.live with
    chans := upd s.live.chans c fun x => x } } := by rw [upd_eq_self _ _ _ rfl]; rfl

/-- R61: the judgement of a zero stage that took samples. -/
theorem judgeStage_zero {g : Stage} (tare mean : Nat) (kind : g.kind = .zero) (samples : 0 < g.count) : judgeStage g tare mean
    = if 2048 < mean then (.failed, some .zeroHigh, none) else (.ok, none, some mean) := by
  simp only [judgeStage, samples.ne', kind, ↓reduceIte]

/-- R61: the judgement of a span stage that took samples. -/
theorem judgeStage_span {g : Stage} {load : Nat} (tare mean : Nat) (kind : g.kind = .span) (samples : 0 < g.count)
    (loaded : g.testLoad = some load) : judgeStage g tare mean = if mean ≤ tare then (.failed, some .spanLow, none)
      else if 65535 < load * 4096 / (mean - tare) then (.failed, some .spanRange, none)
      else (.ok, none, some (load * 4096 / (mean - tare))) := by
  simp only [judgeStage, samples.ne', kind, loaded, Option.getD_some, ↓reduceIte]

/-- The end of a zero stage. -/
theorem completeStage_zero {c : Channel} {g : Stage} {s : State} (kind : g.kind = .zero) (samples : 0 < g.count) :
    let mean := g.sum / g.count
    let t := completeStage c g s
    t.chans = upd s.chans c (fun x => { x with
        state := .out, u := 0, stage := none
        tareConfirmed := x.tareConfirmed || decide (mean ≤ 2048)
        result := some
          { kind := .zero, outcome := if mean ≤ 2048 then .ok else .failed
            reason := if mean ≤ 2048 then none else some .zeroHigh, count := some g.count, mean := some mean
            newValue := if mean ≤ 2048 then some mean else none } })
    ∧ t.store = { s.store with live := { s.live with
        chans := upd s.live.chans c fun x => if mean ≤ 2048 then { x with tare := mean } else x } }
    ∧ Touches [.chans, .store] s t := by
  have mean := stageMean_of_samples s samples
  have judged := judgeStage_zero s.live.chans[c].tare (stageMean s g) kind samples
  dsimp only
  by_cases low : g.sum / g.count ≤ 2048
  · rw [if_neg (by omega)] at judged
    simp only [completeStage_zeroed kind samples judged, mean, low, ↓reduceIte, decide_true, Bool.or_true]
    refine ⟨?_, rfl, ?_⟩
    · simp only [stageEnded, State.onChan_chans, State.onLive_chans, upd_upd]
      rfl
    · exact ((onChan_touches c _ s).mono).trans (((onLive_touches _ _).mono).trans ((onChan_touches c _ _).mono))
  · rw [if_pos (by omega)] at judged
    simp only [completeStage_failed judged, mean, low, ↓reduceIte, decide_false, Bool.or_false, kind, samples.ne']
    exact ⟨rfl, live_chans_kept c s, (onChan_touches c _ s).mono⟩

/-- The end of a span stage. -/
theorem completeStage_span {c : Channel} {g : Stage} {load : Nat} {s : State} (kind : g.kind = .span) (samples : 0 < g.count)
    (loaded : g.testLoad = some load) :
    let mean := g.sum / g.count
    let span := load * 4096 / (mean - s.live.chans[c].tare)
    let failure : Option CalReason :=
      if mean ≤ s.live.chans[c].tare then some .spanLow else if 65535 < span then some .spanRange else none
    let t := completeStage c g s
    t.chans = upd s.chans c (fun x => { x with
        state := .out, u := 0, stage := none
        result := some
          { kind := .span, outcome := if failure.isSome then .failed else .ok, reason := failure
            count := some g.count, mean := some mean, newValue := if failure.isSome then none else some span } })
    ∧ t.store = { s.store with live := { s.live with
        chans := upd s.live.chans c fun x => if failure.isSome then x else { x with span := span } } }
    ∧ Touches [.chans, .store] s t := by
  have mean := stageMean_of_samples s samples
  have judged := judgeStage_span s.live.chans[c].tare (stageMean s g) kind samples loaded
  have failed {reason : CalReason} (why : judgeStage g s.live.chans[c].tare (stageMean s g) = (.failed, some reason, none)) :=
    (completeStage_failed why).trans (congrArg _ (if_neg samples.ne'))
  rw [kind] at failed
  dsimp only
  rw [mean] at judged failed
  by_cases low : g.sum / g.count ≤ s.live.chans[c].tare
  · rw [if_pos low] at judged
    rw [if_pos low, failed judged]
    exact ⟨rfl, live_chans_kept c s, (onChan_touches c _ s).mono⟩
  rw [if_neg low] at judged ⊢
  by_cases high : 65535 < load * 4096 / (g.sum / g.count - s.live.chans[c].tare)
  · rw [if_pos high] at judged
    rw [if_pos high, failed judged]
    exact ⟨rfl, live_chans_kept c s, (onChan_touches c _ s).mono⟩
  · rw [if_neg high] at judged
    rw [if_neg high, completeStage_spanned kind samples (by rw [mean, judged]), mean]
    exact ⟨rfl, rfl, ((onChan_touches c _ s).mono).trans ((onLive_touches _ _).mono)⟩

/-- Settles O18: the abort, and the end of a stage by its kind and its samples. -/
theorem calibrationEnds : Obligations.CalibrationEnds := by
  refine ⟨fun c g s run => ⟨fun calib stage => ?_, fun other => ?_⟩, fun c g s run calib stage kind samples =>
    ⟨_, exec_stageTimer run calib stage, completeStage_zero kind samples⟩, fun c g load s run calib stage kind loaded samples =>
    ⟨_, exec_stageTimer run calib stage, completeStage_span kind samples loaded⟩, fun c g s run calib stage none => ?_⟩
  · refine exec_calibrateAbort (a := done []) run ?_
    rw [calibrateAbort, abortStage, if_pos calib]
    exact congrArg (fun t : State => (t, done [])) (onChan_congr s (by rw [stage]; rfl))
  · exact exec_calibrateAbort (a := done []) run (by rw [calibrateAbort, abortStage, if_neg other])
  · have judged : judgeStage g s.live.chans[c].tare (stageMean s g) = (.failed, some .noSamples, Option.none) := if_pos none
    have ended := completeStage_failed judged
    rw [if_pos none] at ended
    have record : (completeStage c g s).chans[c] = { s.chans[c] with
        state := .out, u := 0, stage := Option.none
        result := some { kind := g.kind, outcome := .failed, reason := some .noSamples, count := some g.count
                         mean := some (stageMean s g), newValue := Option.none } } := by
      rw [ended]
      exact upd_same _ _ _
    refine ⟨_, exec_stageTimer run calib stage, ?_, ?_, fun d ne => ?_, ?_⟩
    · rw [record]
    · rw [record, none]; rfl
    · rw [ended]; exact upd_other _ _ ne.symm
    · rw [ended]; exact ((drawn_touches s).mono).trans ((onChan_touches c _ _).mono)

end Sys2Proof.Machine
end

section
/-! PROOFS. The cooler: strokes, the requests that start, stop and set a section, and the fans (R86 to R102). -/

namespace Sys2Proof.Machine

-- One proof at a time: proofs that wait for one another hold a thread each, and the threads' memory is bounded.
set_option Elab.async false

/-! ## The records of the cooler -/

theorem onGrate_congr {g : Grate} {f h : GrateRec → GrateRec} (s : State)
    (same : f s.cooler.grates[g] = h s.cooler.grates[g]) : s.onGrate g f = s.onGrate g h := by
  simp only [State.onGrate, State.onCooler, upd_congr s.cooler.grates g same]

theorem onGrate_eq_self {g : Grate} {f : GrateRec → GrateRec} (s : State) (same : f s.cooler.grates[g] = s.cooler.grates[g]) :
    s.onGrate g f = s := by simp only [State.onGrate, State.onCooler, upd_eq_self s.cooler.grates g f same]

theorem onGrate_same (g : Grate) (f : GrateRec → GrateRec) (s : State) :
    (s.onGrate g f).cooler.grates[g] = f s.cooler.grates[g] := upd_same _ _ _

theorem onGrate_other {g h : Grate} (f : GrateRec → GrateRec) (s : State) (ne : h ≠ g) :
    (s.onGrate g f).cooler.grates[h] = s.cooler.grates[h] := upd_other _ _ ne.symm

theorem onFan_onFan (n : Fan) (f h : FanRec → FanRec) (s : State) : (s.onFan n f).onFan n h = s.onFan n (h ∘ f) := by
  simp only [State.onFan, State.onCooler, upd_upd]

theorem onFan_congr {n : Fan} {f h : FanRec → FanRec} (s : State) (same : f s.cooler.fans[n] = h s.cooler.fans[n]) :
    s.onFan n f = s.onFan n h := by simp only [State.onFan, State.onCooler, upd_congr s.cooler.fans n same]

section
variable {g : Grate} {s u : State} {a : Ans}

theorem exec_grateRun (run : s.phase = .running) (service : grateRun g s = (u, a)) (plainly : a.after = .nothing := by rfl) :
    exec (.grateRun (g.val + 1)) s = .next (answering a.status a.reason a.data u) :=
  exec_answers run rfl ((congrFun (forGrate_val g grateRun) s).trans service) plainly

theorem exec_grateSingle (run : s.phase = .running) (service : grateSingle g s = (u, a))
    (plainly : a.after = .nothing := by rfl) :
    exec (.grateSingle (g.val + 1)) s = .next (answering a.status a.reason a.data u) :=
  exec_answers run rfl ((congrFun (forGrate_val g grateSingle) s).trans service) plainly

theorem exec_grateStop (run : s.phase = .running) (service : grateStop g s = (u, a)) (plainly : a.after = .nothing := by rfl) :
    exec (.grateStop (g.val + 1)) s = .next (answering a.status a.reason a.data u) :=
  exec_answers run rfl ((congrFun (forGrate_val g grateStop) s).trans service) plainly

theorem exec_grateReset (run : s.phase = .running) (service : grateReset g s = (u, a))
    (plainly : a.after = .nothing := by rfl) :
    exec (.grateReset (g.val + 1)) s = .next (answering a.status a.reason a.data u) :=
  exec_answers run rfl ((congrFun (forGrate_val g grateReset) s).trans service) plainly

theorem exec_coolerSet {mode rate forward ret dead : Nat} (run : s.phase = .running)
    (service : coolerSet mode rate forward ret dead g s = (u, a)) (plainly : a.after = .nothing := by rfl) :
    exec (.coolerSet (g.val + 1) mode rate forward ret dead) s = .next (answering a.status a.reason a.data u) :=
  exec_answers run rfl ((congrFun (forGrate_val g (coolerSet mode rate forward ret dead)) s).trans service) plainly

end

/-! ## GRATE STOP and GRATE RESET (R95, R96) -/

theorem GrateRec.stopped_midStroke {x : GrateRec} (runs : x.state = .running ∨ x.state = .single)
    (phase : x.phase = some .forward ∨ x.phase = some .deadA ∨ x.phase = some .ret) :
    x.stopped = { x with state := .stopped, runOut := true } := by
  have stroke : ¬(x.phase = some .rest ∨ x.phase = none) := by rcases phase with h | h | h <;> simp [h]
  rcases runs with h | h <;> simp only [GrateRec.stopped, h, stroke, ↓reduceIte]

theorem GrateRec.stopped_resting {x : GrateRec} (runs : x.state = .running ∨ x.state = .single) (rest : x.phase = some .rest) :
    x.stopped = { x with state := .stopped, phase := none, phaseTimer := none } := by
  rcases runs with h | h <;> simp only [GrateRec.stopped, h, rest, true_or, ↓reduceIte]

theorem GrateRec.stopped_idle {x : GrateRec} (idle : x.state = .stopped ∨ x.state = .stalled) : x.stopped = x := by
  rcases idle with h | h <;> simp only [GrateRec.stopped, h]

/-- Settles O29: a stop through the end of the stroke, and the reset of a stalled section. -/
theorem grateStopsAndResets : Obligations.GrateStopsAndResets := by
  refine ⟨fun k s run out => ⟨exec_answers run rfl (forGrate_out out grateStop s),
    exec_answers run rfl (forGrate_out out grateReset s)⟩, fun g s run =>
    ⟨fun runs => ⟨fun phase => ?_, fun rest => ?_⟩, fun idle => ?_, fun stalled => ?_, fun other => ?_⟩⟩
  · exact exec_grateStop (a := done []) run
      (congrArg (·, done []) ((stopGrate_eq g s).trans (onGrate_congr s (GrateRec.stopped_midStroke runs phase))))
  · exact exec_grateStop (a := done []) run
      (congrArg (·, done []) ((stopGrate_eq g s).trans (onGrate_congr s (GrateRec.stopped_resting runs rest))))
  · exact exec_grateStop (a := done []) run
      (congrArg (·, done []) ((stopGrate_eq g s).trans (onGrate_eq_self s (GrateRec.stopped_idle idle))))
  · let u : State := s.onGrate g fun x =>
      { x with state := .stopped, phase := none, phaseTimer := none, runOut := false, miss := 0 }
    have cooler : (reportCond (stallPoint g) false u).cooler = u.cooler := reportCond_touches _ _ _ .cooler (by decide)
    refine ⟨_, exec_grateReset (u := reportCond (stallPoint g) false u) (a := done []) run (by simp only [grateReset, stalled]; rfl),
      ?_, fun h ne => ?_, (cond_of_reportCond _ _ _ _).trans (if_pos rfl), rfl, ?_⟩
    · show (reportCond (stallPoint g) false u).cooler.grates[g] = _
      rw [cooler]
      exact onGrate_same g _ s
    · show (reportCond (stallPoint g) false u).cooler.grates[h] = _
      rw [cooler]
      exact onGrate_other _ s ne
    · exact Touches.answering (l := [.cooler, .alarm, .shift, .handed])
        ((onGrate_touches g _ s).mono.trans (reportCond_touches _ _ _).mono)
  · refine exec_grateReset (a := done []) run ?_
    unfold grateReset
    split
    next stalled => exact absurd stalled other
    all_goals rfl

/-! ## A FORWARD start (R89, R91, R97, R98) -/

theorem windowAverage_eq (s : State) : windowAverage s
    = if s.cooler.window = [] then none else some (s.cooler.window.sum / s.cooler.window.length) := by
  simp only [windowAverage, List.isEmpty_iff]

/-- R97, R98: the record of R89, R91, R97 and R98, by the rate that the model computes. -/
theorem strokeBegun_eq (s : State) (g : Grate) : strokeBegun s g = { s.cooler.grates[g] with
    phase := some .forward
    phaseTimer := some (s.cooler.grates[g].staged.getD s.cooler.grates[g].active).forward
    active := s.cooler.grates[g].staged.getD s.cooler.grates[g].active
    confirmed := false, guard := none
    strokePressure := if g = 0 then windowAverage s else s.cooler.grates[g].strokePressure
    rate := (newRate s g).getD s.cooler.grates[g].rate
    staged := (newRate s g).map fun r => timingFor r s.live.grates[g] } := by
  rw [windowAverage_eq]
  unfold strokeBegun newRate
  rw [windowAverage_eq]
  rfl

/-- What the rate of a FORWARD start depends on. -/
theorem newRate_congr {s t : State} {g : Grate} (live : t.live = s.live) (window : t.cooler.window = s.cooler.window)
    (rate : t.cooler.grates[g].rate = s.cooler.grates[g].rate)
    (first : g ≠ 0 → t.cooler.grates[(0 : Grate)] = s.cooler.grates[(0 : Grate)]) : newRate t g = newRate s g := by
  have average : windowAverage t = windowAverage s := by rw [windowAverage, windowAverage, window]
  unfold newRate
  by_cases h : g = 0
  · subst h
    simp only [live, average, rate, ↓reduceIte]
  · simp only [live, h, first h, ↓reduceIte]

/-- A section whose FORWARD has begun, its new rate apart. -/
def GrateRec.taken (x : GrateRec) : GrateRec :=
  { x with
    active := x.staged.getD x.active, staged := none, confirmed := false, phase := some .forward
    phaseTimer := some (x.staged.getD x.active).forward, guard := none }

/-- G1 takes its stroke pressure (R97). -/
def GrateRec.pressed (g : Grate) (average : Option Int) (x : GrateRec) : GrateRec :=
  { x with strokePressure := if g = 0 then average else x.strokePressure }

/-- A section in AUTO takes its new rate and stages its timing (R97, R98). -/
def rateTaken (g : Grate) (s : State) : State :=
  match newRate s g with
  | none => s
  | some r => s.onGrate g fun x => { x with rate := r, staged := some (timingFor r s.live.grates[g]) }

/-- The section after a FORWARD start is the record that R89, R91, R97 and R98 describe, and nothing else changes. -/
theorem forwardStart_eq (g : Grate) (s : State) : forwardStart g s = s.onGrate g fun _ => strokeBegun s g := by
  have started : (if g = 0 then (s.onGrate g GrateRec.taken).onGrate g fun x =>
        { x with strokePressure := windowAverage (s.onGrate g GrateRec.taken) }
      else s.onGrate g GrateRec.taken) = s.onGrate g (GrateRec.pressed g (windowAverage s) ∘ GrateRec.taken) := by
    by_cases h : g = 0
    · rw [if_pos h, onGrate_onGrate]
      refine onGrate_congr s ?_
      simp only [GrateRec.pressed, h, Function.comp_apply, ↓reduceIte]
      rfl
    · rw [if_neg h]
      exact onGrate_congr s (by simp only [GrateRec.pressed, h, Function.comp_apply, ↓reduceIte])
  have rate : newRate (s.onGrate g (GrateRec.pressed g (windowAverage s) ∘ GrateRec.taken)) g = newRate s g :=
    newRate_congr rfl rfl (by rw [onGrate_same]; rfl) fun h => onGrate_other _ s (Ne.symm h)
  have unfolded : forwardStart g s = rateTaken g (if g = 0 then (s.onGrate g GrateRec.taken).onGrate g fun x =>
        { x with strokePressure := windowAverage (s.onGrate g GrateRec.taken) }
      else s.onGrate g GrateRec.taken) := rfl
  rw [unfolded, started, rateTaken, rate, strokeBegun_eq]
  cases newRate s g with
  | none => exact onGrate_congr s rfl
  | some r =>
    dsimp only
    rw [onGrate_onGrate]
    exact onGrate_congr s rfl

theorem forwardStart_at (g : Grate) (s : State) : (forwardStart g s).cooler.grates[g] = strokeBegun s g := by
  rw [forwardStart_eq]
  exact onGrate_same g _ s

theorem forwardStart_other {g h : Grate} (s : State) (ne : h ≠ g) :
    (forwardStart g s).cooler.grates[h] = s.cooler.grates[h] := by
  rw [forwardStart_eq]
  exact onGrate_other _ s ne

theorem forwardOpen_of_begun {s t : State} {g : Grate} {x : GrateState} (h : t.cooler.grates[g] = { strokeBegun s g with state := x })
    : forwardOpen t g = true ∧ returnOpen t g = false := by
  have phase : t.cooler.grates[g].phase = some .forward := by rw [h]; rfl
  simp only [forwardOpen, returnOpen, phase]
  decide

/-- What a FORWARD start of a section makes of it does not depend on the section's state, run-out, phase, phase timer and
guard, which it sets or keeps. -/
theorem strokeBegun_onGrate {g : Grate} {f : GrateRec → GrateRec} (s : State)
    (staged : (f s.cooler.grates[g]).staged = s.cooler.grates[g].staged)
    (active : (f s.cooler.grates[g]).active = s.cooler.grates[g].active)
    (rate : (f s.cooler.grates[g]).rate = s.cooler.grates[g].rate) :
    strokeBegun (s.onGrate g f) g = { f s.cooler.grates[g] with
      phase := (strokeBegun s g).phase, phaseTimer := (strokeBegun s g).phaseTimer, active := (strokeBegun s g).active
      confirmed := false, guard := none
      strokePressure := if g = 0 then windowAverage s else (f s.cooler.grates[g]).strokePressure
      rate := (strokeBegun s g).rate, staged := (strokeBegun s g).staged } := by
  have same : newRate (s.onGrate g f) g = newRate s g :=
    newRate_congr rfl rfl (by rw [onGrate_same, rate]) fun h => onGrate_other _ s (Ne.symm h)
  rw [strokeBegun_eq, strokeBegun_eq, same, onGrate_same, staged, active, rate]
  rfl

end Sys2Proof.Machine
end

section
/-! PROOFS. The cooler's requests, and the ends of the phases of a stroke (R86 to R102). -/

namespace Sys2Proof.Machine

-- One proof at a time: proofs that wait for one another hold a thread each, and the threads' memory is bounded.
set_option Elab.async false

/-! ## GRATE RUN and GRATE SINGLE (R93, R94) -/

theorem startRefusal_eq (s : State) (g : Grate) : startRefusal s g =
    if s.floor.mode = .standby then some .standby
    else if s.floor.mode = .settle then some .unsettled
    else if stopLoopClosed s = false then some .emergencyStop
    else if g = 2 ∧ crusherRuns s = false then some .crusherStopped
    else none := by
  unfold startRefusal
  simp only [Bool.not_eq_true']

section
variable {g : Grate} {s : State} {state : GrateState}

theorem startGrateStroke_runOut (out : s.cooler.grates[g].runOut = true) :
    startGrateStroke g state s = s.onGrate g fun x => { x with state := state, runOut := false } := by
  simp only [startGrateStroke, out, ↓reduceIte]

theorem startGrateStroke_guarded (out : s.cooler.grates[g].runOut = false) (guard : s.cooler.grates[g].guard.isSome = true) :
    startGrateStroke g state s = s.onGrate g fun x => { x with state := state, phase := some .rest, phaseTimer := none } := by
  simp only [startGrateStroke, out, guard, Bool.false_eq_true, ↓reduceIte]
  rw [onGrate_onGrate]
  exact onGrate_congr s (by rw [Function.comp_apply, ← out])

theorem startGrateStroke_free (out : s.cooler.grates[g].runOut = false) (guard : s.cooler.grates[g].guard = none) :
    startGrateStroke g state s = forwardStart g (s.onGrate g fun x => { x with state := state, runOut := false }) := by
  simp only [startGrateStroke, out, guard, Option.isSome_none, Bool.false_eq_true, ↓reduceIte]

/-- The stroke that a start begins at once is the one that a FORWARD start begins. -/
theorem startGrateStroke_begun (out : s.cooler.grates[g].runOut = false) (guard : s.cooler.grates[g].guard = none) :
    (startGrateStroke g state s).cooler.grates[g] = { strokeBegun s g with state := state } := by
  rw [startGrateStroke_free out guard, forwardStart_at, strokeBegun_onGrate s rfl rfl rfl, strokeBegun_eq, ← out]

end

/-- Settles O28: both requests make the same start, and differ in a section that is not STOPPED. -/
theorem grateStarts : Obligations.GrateStarts := by
  refine ⟨fun k s run out => ⟨exec_answers run rfl (forGrate_out out grateRun s),
    exec_answers run rfl (forGrate_out out grateSingle s)⟩, fun g s run => ?_⟩
  dsimp only
  rw [← startRefusal_eq]
  refine ⟨fun stalled => ⟨?_, ?_⟩, fun running => ⟨?_, ?_⟩, fun single => ⟨?_, ?_⟩, fun stopped => ⟨fun r refused => ⟨?_, ?_⟩,
    fun free single => ?_⟩⟩
  · exact exec_grateRun (a := refusedFor .stalled) run (by simp only [grateRun, stalled])
  · exact exec_grateSingle (a := refusedFor .stalled) run (by simp only [grateSingle, stalled])
  · exact exec_grateRun (a := done []) run (by simp only [grateRun, running])
  · exact exec_grateSingle (a := done []) run (by simp only [grateSingle, running])
  · exact exec_grateSingle (a := done []) run (by simp only [grateSingle, single])
  · exact exec_grateRun (a := done []) run (by simp only [grateRun, single])
  · exact exec_grateRun (a := refusedFor r) run (by simp only [grateRun, stopped, refused])
  · exact exec_grateSingle (a := refusedFor r) run (by simp only [grateSingle, stopped, refused])
  · have request : exec (if single then .grateSingle (g.val + 1) else .grateRun (g.val + 1)) s
        = .next (answering .done none [] (startGrateStroke g (if single then .single else .running) s)) := by
      cases single with
      | true => exact exec_grateSingle (a := done []) run (by simp only [grateSingle, stopped, free]; rfl)
      | false => exact exec_grateRun (a := done []) run (by simp only [grateRun, stopped, free]; rfl)
    rw [request]
    refine ⟨fun out => ?_, fun out guard => ?_, fun out guard => ?_⟩
    · rw [startGrateStroke_runOut out]
    · rw [startGrateStroke_guarded out guard]
    · have begun := startGrateStroke_begun (state := if single then .single else .running) out guard
      have open' := forwardOpen_of_begun begun
      refine ⟨_, rfl, congrArg GrateRec.state begun, begun, open'.1, open'.2, congrArg GrateRec.confirmed begun,
        congrArg GrateRec.active begun, fun h ne => ?_, rfl, ?_⟩
      · show (startGrateStroke g _ s).cooler.grates[h] = _
        rw [startGrateStroke_free out guard, forwardStart_other _ ne, onGrate_other _ s ne]
      · exact Touches.answering (l := [.cooler]) (startGrateStroke_touches g _ s)

/-! ## COOLER SET (R88 to R90) -/

theorem guardEnds_waiting {g : Grate} {s : State} (rest : s.cooler.grates[g].phase = some .rest)
    (waits : s.cooler.grates[g].phaseTimer = none) :
    guardEnds g s = forwardStart g (s.onGrate g fun x => { x with guard := none }) := by
  refine if_pos ⟨?_, ?_⟩
  · rw [onGrate_same]; exact rest
  · rw [onGrate_same]; exact waits

theorem guardEnds_other {g : Grate} {s : State} (h : ¬(s.cooler.grates[g].phase = some .rest
    ∧ s.cooler.grates[g].phaseTimer = none)) : guardEnds g s = s.onGrate g fun x => { x with guard := none } := by
  refine if_neg ?_
  rw [onGrate_same]
  exact h

/-- A FORWARD that waited for the guard starts with its end. -/
theorem guardEnds_begun {g : Grate} {s : State} (rest : s.cooler.grates[g].phase = some .rest)
    (waits : s.cooler.grates[g].phaseTimer = none) : (guardEnds g s).cooler.grates[g] = strokeBegun s g := by
  rw [guardEnds_waiting rest waits, forwardStart_at, strokeBegun_onGrate s rfl rfl rfl, strokeBegun_eq]

theorem coolerSet_out {k mode rate forward ret dead : Nat} {s : State} (h : k = 0 ∨ 3 < k ∨ 1 < mode ∨ rate < 20 ∨ 300 < rate
    ∨ forward < 200 ∨ 20000 < forward ∨ ret < 200 ∨ 20000 < ret ∨ dead < 50 ∨ 2000 < dead) :
    forGrate k (coolerSet mode rate forward ret dead) s = (s, plain .range) := by
  unfold forGrate
  split
  · rfl
  next g inside =>
    have number : k ≠ 0 ∧ k ≤ 3 := by
      by_contra out
      rw [instNo_out (by omega)] at inside
      cases inside
    refine if_neg fun ok => ?_
    simp only [inRange, within, Bool.and_eq_true, decide_eq_true_eq] at ok
    omega

/-- The section and its settings as an accepted COOLER SET leaves them, before a guard that has run out ends. -/
def coolerStaged (g : Grate) (mode rate forward ret dead : Nat) (s : State) : State :=
  let r := if mode = 1 then rate else s.cooler.grates[g].rate
  (s.onLive fun l => { l with grates := upd l.grates g fun y =>
    { y with mode := if mode = 1 then .manual else .auto, manualRate := rate, forward := forward, ret := ret
             dead := dead } }).onGrate g fun y =>
    { y with rate := r, staged := some ⟨forward, ret, dead, max (600000 / r) (forward + ret + 2 * dead)⟩ }

theorem restage_stored {g : Grate} {mode rate forward ret dead : Nat} (s : State) (auto : mode ≤ 1) :
    restage g (s.onLive fun l => { l with grates := upd l.grates g fun x =>
      { x with mode := modeOf mode, manualRate := rate, forward := forward, ret := ret, dead := dead } })
    = match s.cooler.grates[g].guard with
      | none => coolerStaged g mode rate forward ret dead s
      | some since => if dead ≤ since then guardEnds g (coolerStaged g mode rate forward ret dead s)
        else coolerStaged g mode rate forward ret dead s := by
  let stored : State := s.onLive fun l => { l with grates := upd l.grates g fun x =>
      { x with mode := modeOf mode, manualRate := rate, forward := forward, ret := ret, dead := dead } }
  have set : stored.live.grates[g] = { s.live.grates[g] with
      mode := modeOf mode, manualRate := rate, forward := forward, ret := ret, dead := dead } := upd_same _ _ _
  have mode' : modeOf mode = if mode = 1 then .manual else .auto := by
    rcases Nat.le_one_iff_eq_zero_or_eq_one.mp auto with rfl | rfl <;> rfl
  have rated : (if stored.live.grates[g].mode = .manual then stored.onGrate g fun x =>
        { x with rate := stored.live.grates[g].manualRate } else stored)
      = stored.onGrate g fun x => { x with rate := if mode = 1 then rate else x.rate } := by
    rw [set, mode']
    by_cases manual : mode = 1
    · simp only [manual, ↓reduceIte]
    · simp only [manual, ↓reduceIte, reduceCtorEq]
      exact (onGrate_eq_self stored rfl).symm
  have staged : (stored.onGrate g fun x => { x with rate := if mode = 1 then rate else x.rate }).onGrate g (fun x =>
      { x with staged := some (timingFor (stored.onGrate g fun x => { x with rate := if mode = 1 then rate else x.rate
          }).cooler.grates[g].rate stored.live.grates[g]) }) = coolerStaged g mode rate forward ret dead s := by
    rw [onGrate_same, set, onGrate_onGrate, coolerStaged, ← mode']
    exact onGrate_congr stored rfl
  unfold restage stageTiming
  dsimp only
  rw [rated, staged]
  have guard : (coolerStaged g mode rate forward ret dead s).cooler.grates[g].guard = s.cooler.grates[g].guard := by
    rw [coolerStaged, onGrate_same]; rfl
  rw [guard, set]
  cases s.cooler.grates[g].guard <;> rfl

theorem coolerSet_val {g : Grate} {mode rate forward ret dead : Nat} {s : State} (auto : mode ≤ 1) (slow : 20 ≤ rate)
    (fast : rate ≤ 300) (forwardLow : 200 ≤ forward) (forwardHigh : forward ≤ 20000) (retLow : 200 ≤ ret) (retHigh : ret ≤ 20000)
    (deadLow : 50 ≤ dead) (deadHigh : dead ≤ 2000) :
    coolerSet mode rate forward ret dead g s = (match s.cooler.grates[g].guard with
      | none => coolerStaged g mode rate forward ret dead s
      | some since => if dead ≤ since then guardEnds g (coolerStaged g mode rate forward ret dead s)
        else coolerStaged g mode rate forward ret dead s, done []) := by
  have fields : (inRange (.grate g .mode) mode && inRange (.grate g .manualRate) rate && inRange (.grate g .forward) forward
     && inRange (.grate g .ret) ret && inRange (.grate g .dead) dead) = true := by
    simp only [inRange, within, Bool.and_eq_true, decide_eq_true_eq]
    omega
  rw [coolerSet, if_pos fields, restage_stored s auto]

/-- Settles O30: the fields stored and the timing staged, by the guard of the section. -/
theorem coolerSetStages : Obligations.CoolerSetStages := by
  refine ⟨fun k mode rate forward ret dead s run out => exec_answers run rfl (coolerSet_out out),
    fun g mode rate forward ret dead s run auto slow fast forwardLow forwardHigh retLow retHigh deadLow deadHigh => ?_⟩
  have service := coolerSet_val (g := g) (s := s) auto slow fast forwardLow forwardHigh retLow retHigh deadLow deadHigh
  have kept : (coolerStaged g mode rate forward ret dead s).cooler.grates[g].phase = s.cooler.grates[g].phase
      ∧ (coolerStaged g mode rate forward ret dead s).cooler.grates[g].phaseTimer = s.cooler.grates[g].phaseTimer := by
    rw [coolerStaged, onGrate_same]
    exact ⟨rfl, rfl⟩
  refine ⟨by omega, fun young => ?_, fun since guard outrun => ⟨fun other => ?_, fun rest waits => ?_⟩⟩
  · refine exec_coolerSet (a := done []) run (service.trans (congrArg (·, done []) ?_))
    cases guard : s.cooler.grates[g].guard with
    | none => rfl
    | some since => exact if_neg (not_le.mpr (young since guard))
  · refine exec_coolerSet (a := done []) run (service.trans (congrArg (·, done []) ?_))
    rw [guard]
    refine (if_pos outrun).trans (guardEnds_other ?_)
    rw [kept.1, kept.2]
    exact other
  · rw [guard] at service
    have service := service.trans (congrArg (·, done []) (if_pos outrun))
    have begun : (guardEnds g (coolerStaged g mode rate forward ret dead s)).cooler.grates[g]
        = strokeBegun (coolerStaged g mode rate forward ret dead s) g :=
      guardEnds_begun (kept.1.trans rest) (kept.2.trans waits)
    have store : (guardEnds g (coolerStaged g mode rate forward ret dead s)).store
        = (coolerStaged g mode rate forward ret dead s).store := guardEnds_touches g _ .store (by decide)
    refine ⟨_, exec_coolerSet (a := done []) run service, (forwardOpen_of_begun (x := _) begun).1, ?_, begun, ?_,
      congrArg Store.live store, rfl, ?_⟩
    · exact (congrArg GrateRec.guard begun).trans rfl
    · refine (congrArg GrateRec.active begun).trans ?_
      rw [strokeBegun_eq, coolerStaged, onGrate_same]
      rfl
    · exact Touches.answering (l := [.cooler, .store]) (((onLive_touches _ s).mono).trans
        (((onGrate_touches g _ _).mono).trans ((guardEnds_touches g _).mono)))

end Sys2Proof.Machine
end

section
/-! PROOFS. The fans and their dampers, OVERLOAD, and the ends of the phases of a stroke (R90 to R105). -/

namespace Sys2Proof.Machine

-- One proof at a time: proofs that wait for one another hold a thread each, and the threads' memory is bounded.
set_option Elab.async false

/-! ## A damper that is computed again (R99, R100) -/

/-- R99, R100: the record of a fan whose effective target and damper are computed again in or out of OVERLOAD. -/
def FanRec.dampered (overload : Bool) (s : State) (f : Fan) (x : FanRec) : FanRec :=
  let eff := if overload && isHot f then min 1200 (x.target + s.live.cooler.boost) else x.target
  { x with
    effTarget := eff
    damper := if x.on then
        if s.floor.mode = .standby ∨ s.floor.mode = .settle then s.live.fans[f].standby
        else (clampInt 0 1000 (tablePosition x.table eff + x.trim)).toNat
      else 0 }

theorem onFan_same (f : Fan) (h : FanRec → FanRec) (s : State) : (s.onFan f h).cooler.fans[f] = h s.cooler.fans[f] :=
  upd_same _ _ _

theorem onFan_other {f n : Fan} (h : FanRec → FanRec) (s : State) (ne : n ≠ f) :
    (s.onFan f h).cooler.fans[n] = s.cooler.fans[n] := upd_other _ _ ne.symm

theorem computeDamper_eq (f : Fan) (s : State) : computeDamper f s = s.onFan f (FanRec.dampered s.cooler.overload s f) := by
  unfold computeDamper damperOf
  dsimp only
  rw [onFan_onFan, onFan_same]
  exact onFan_congr s rfl

theorem computeDamper_same (f : Fan) (s : State) :
    (computeDamper f s).cooler.fans[f] = s.cooler.fans[f].dampered s.cooler.overload s f := by
  rw [computeDamper_eq]
  exact upd_same _ _ _

theorem computeDamper_other {f n : Fan} (s : State) (h : n ≠ f) : (computeDamper f s).cooler.fans[n] = s.cooler.fans[n] := by
  rw [computeDamper_eq]
  exact upd_other _ _ h.symm

/-! ## FAN SET (R102) -/

theorem exec_fanSet {f : Fan} {option target : Nat} {s u : State} {a : Ans} (run : s.phase = .running)
    (service : fanSet (f.val + 1) option target s = (u, a)) (plainly : a.after = .nothing := by rfl) :
    exec (.fanSet (f.val + 1) option target) s = .next (answering a.status a.reason a.data u) :=
  exec_answers run rfl service plainly

theorem firstOf_out {k : Nat} (h : 1 < k) : firstOf k = none := by
  rw [firstOf, if_neg (by omega), if_neg (by omega)]

theorem fanSet_out {k option target : Nat} {s : State} (h : k = 0 ∨ 8 < k ∨ 1 < option ∨ 1200 < target) :
    fanSet k option target s = (s, plain .range) := by
  unfold fanSet
  split
  next f on fan chosen =>
    refine if_neg fun low => ?_
    have number : ¬(k = 0 ∨ 8 < k) := fun out => by rw [instNo_out out] at fan; cases fan
    have first : ¬1 < option := fun high => by rw [firstOf_out high] at chosen; cases chosen
    omega
  next => rfl

theorem fanSet_on {f : Fan} {target : Nat} (s : State) (low : target ≤ 1200) : fanSet (f.val + 1) 0 target s =
    (computeDamper f ((if s.cooler.fans[f].on then s
      else s.onFan f fun x => { x with on := true, trim := 0, failCount := 0 }).onFan f fun x => { x with target := target }),
     done []) := by
  simp only [fanSet, instNo_val, firstOf, low, ↓reduceIte]

/-- A fan that is switched off, and its failure condition removed (R102). -/
def fanOff (f : Fan) (s : State) : State :=
  let t := s.onFan f fun x => { x with on := false, trim := 0, failCount := 0, failCond := false }
  if s.cooler.fans[f].failCond then reportCond (fanPoint f) false t else t

theorem fanSet_off {f : Fan} {target : Nat} (s : State) (low : target ≤ 1200) : fanSet (f.val + 1) 1 target s =
    (computeDamper f ((fanOff f s).onFan f fun x => { x with target := target }), done []) := by
  simp only [fanSet, instNo_val, firstOf, low, ↓reduceIte, one_ne_zero, Bool.false_eq_true]
  rfl

theorem isHot_iff (f : Fan) : isHot f = true ↔ f.val < 3 := decide_eq_true_iff

theorem fanOff_cooler (f : Fan) (s : State) : (fanOff f s).cooler
    = (s.onFan f fun x => { x with on := false, trim := 0, failCount := 0, failCond := false }).cooler := by
  unfold fanOff
  dsimp only
  split
  · exact reportCond_touches _ _ _ .cooler (by decide)
  · rfl

theorem fanOff_touches (f : Fan) (s : State) : Touches [.cooler, .alarm, .shift, .handed] s (fanOff f s) :=
  have switched := (onFan_touches f (fun x => { x with on := false, trim := 0, failCount := 0, failCond := false }) s).mono
    (m := [.cooler, .alarm, .shift, .handed])
  .ite (switched.trans (reportCond_touches _ _ _).mono) switched

theorem fanOff_cond (f : Fan) (s : State) : (fanOff f s).alarm.points[fanPoint f].cond
    = if s.cooler.fans[f].failCond then false else s.alarm.points[fanPoint f].cond := by
  unfold fanOff
  dsimp only
  split
  · exact (cond_of_reportCond _ _ _ _).trans (if_pos rfl)
  · rfl

/-- Settles O31: the records of the fan as FAN SET on and FAN SET off leave them. -/
theorem fanSetMovesDamper : Obligations.FanSetMovesDamper := by
  refine ⟨fun k option target s run out => exec_answers run rfl (fanSet_out out), fun f target s run low => ?_⟩
  dsimp only
  have boosted : (if (s.cooler.overload && isHot f) = true then min 1200 (target + s.live.cooler.boost) else target)
      = if s.cooler.overload = true ∧ f.val < 3 then min 1200 (target + s.live.cooler.boost) else target := by
    simp only [Bool.and_eq_true, isHot_iff]
  rw [← boosted]
  refine ⟨?_, ?_⟩
  · refine exec_fanSet (a := done []) run ((fanSet_on s low).trans (congrArg (·, done []) ?_))
    by_cases on : s.cooler.fans[f].on = true
    · rw [if_pos on, computeDamper_eq, onFan_onFan]
      refine onFan_congr s ?_
      simp only [on, ↓reduceIte, Function.comp_apply, FanRec.dampered]
      rfl
    · rw [if_neg on, computeDamper_eq, onFan_onFan, onFan_onFan]
      refine onFan_congr s ?_
      simp only [on, ↓reduceIte, Function.comp_apply, FanRec.dampered]
      rfl
  · have live : (fanOff f s).live = s.live := congrArg Store.live (fanOff_touches f s .store (by decide))
    refine ⟨_, exec_fanSet (a := done []) run (fanSet_off s low), ?_, ?_, rfl, ?_⟩
    · refine Eq.trans (b := (computeDamper f ((fanOff f s).onFan f fun x => { x with target := target })).cooler) rfl ?_
      rw [computeDamper_eq, onFan_onFan, State.onFan_cooler, State.onFan_cooler, fanOff_cooler, State.onFan_cooler, upd_upd]
      refine congrArg (fun x => { s.cooler with fans := x }) (upd_congr _ _ ?_)
      simp only [Function.comp_apply, FanRec.dampered, State.onFan_live, live, Bool.false_eq_true, ↓reduceIte]
    · exact fanOff_cond f s
    · exact Touches.answering (l := [.cooler, .alarm, .shift, .handed]) ((fanOff_touches f s).trans
        (((onFan_touches f _ _).mono).trans ((computeDamper_touches f _).mono)))

/-! ## OVERLOAD (R103 to R105) -/

/-- The cooler after the dampers of F1 to F3 are computed again. -/
def Cooler.hotDampered (s : State) (x : Cooler) : Cooler :=
  { x with fans := Vector.ofFn fun f : Fan => if isHot f then x.fans[f].dampered x.overload s f else x.fans[f] }

theorem FanRec.dampered_congr {overload : Bool} {s t : State} {f : Fan} (x : FanRec) (store : t.store = s.store)
    (floor : t.floor = s.floor) : x.dampered overload t f = x.dampered overload s f := by
  have live : t.live = s.live := congrArg Store.live store
  rw [dampered, dampered, live, floor]

theorem hotDampers_fan (s : State) (f : Fan) : (forEach hotFans computeDamper s).cooler.fans[f]
    = if isHot f then s.cooler.fans[f].dampered s.cooler.overload s f else s.cooler.fans[f] := by
  by_cases hot : isHot f = true
  · rw [if_pos hot]
    have mem : f ∈ hotFans := by
      have low := (isHot_iff f).mp hot
      simp only [hotFans, List.mem_cons, List.not_mem_nil, or_false, Fin.ext_iff]
      show f.val = 0 ∨ f.val = 1 ∨ f.val = 2
      omega
    refine forEach_at (g := fun t => t.cooler.fans[f]) (F := FanRec.dampered s.cooler.overload s f)
      (fun t => t.store = s.store ∧ t.floor = s.floor ∧ t.cooler.overload = s.cooler.overload)
      (by decide) mem (fun n t h => ?_) (fun n t _ ne => computeDamper_other t (Ne.symm ne)) (fun t h => ?_) ⟨rfl, rfl, rfl⟩
    · rw [computeDamper_eq]
      exact h
    · obtain ⟨store, floor, overload⟩ := h
      exact (computeDamper_same f t).trans (by rw [overload, FanRec.dampered_congr _ store floor])
  · rw [if_neg hot]
    have all : ∀ n ∈ hotFans, isHot n = true := by decide
    have cold (n : Fan) (mem : n ∈ hotFans) : f ≠ n := fun e => hot (e ▸ all n mem)
    have kept (l : List Fan) (out : ∀ n ∈ l, f ≠ n) (t : State) :
        (forEach l computeDamper t).cooler.fans[f] = t.cooler.fans[f] := by
      induction l generalizing t with
      | nil => rfl
      | cons n l ih =>
        exact (ih (fun m hm => out m (List.mem_cons_of_mem _ hm)) _).trans (computeDamper_other t (out n List.mem_cons_self))
    exact kept hotFans cold s

theorem hotDampers_cooler (s : State) : (forEach hotFans computeDamper s).cooler = s.cooler.hotDampered s := by
  have rest : ({ (forEach hotFans computeDamper s).cooler with fans := s.cooler.fans } : Cooler) = s.cooler :=
    forEach_keeps (f := computeDamper) (g := fun t => ({ t.cooler with fans := s.cooler.fans } : Cooler))
      (fun f t => by rw [computeDamper_eq]; rfl) hotFans s
  have fans : (forEach hotFans computeDamper s).cooler.fans = (s.cooler.hotDampered s).fans := by
    ext f hf
    have at' := hotDampers_fan s ⟨f, hf⟩
    simpa [Cooler.hotDampered] using at'
  calc (forEach hotFans computeDamper s).cooler
      = { ({ (forEach hotFans computeDamper s).cooler with fans := s.cooler.fans } : Cooler) with
          fans := (forEach hotFans computeDamper s).cooler.fans } := rfl
    _ = s.cooler.hotDampered s := by rw [rest, fans]; rfl

/-- R105: the cooler after an entry to OVERLOAD. -/
theorem enterOverload_cooler (s : State) : (enterOverload s).cooler
    = { ({ s.cooler with overload := true, cap := overloadCap s } : Cooler).hotDampered s with clearCount := some 0 } := by
  let u : State := s.onCooler fun x => { x with overload := true, cap := overloadCap s }
  have capped := capEvent_touches (overloadCap s) u
  have cooler : (capEvent (overloadCap s) u).cooler = u.cooler := capped .cooler (by decide)
  have dampered : (forEach hotFans computeDamper (capEvent (overloadCap s) u)).cooler = u.cooler.hotDampered s := by
    rw [hotDampers_cooler, cooler]
    unfold Cooler.hotDampered
    simp only [FanRec.dampered_congr _ (capped .store (by decide)) (capped .floor (by decide))]
    rfl
  have reported : (reportCond (pt 70) true (forEach hotFans computeDamper (capEvent (overloadCap s) u))).cooler
      = u.cooler.hotDampered s := (reportCond_touches _ _ _ .cooler (by decide)).trans dampered
  unfold enterOverload
  dsimp only
  rw [State.onCooler_cooler, reported]
  rfl

/-- R104: an entering condition that becomes present enters OVERLOAD, or starts the clear count of one in force anew. -/
theorem enteringEvent_cooler (s : State) : (enteringEvent s).cooler
    = if s.cooler.overload then { s.cooler with clearCount := some 0 } else (enterOverload s).cooler := by
  unfold enteringEvent
  split <;> rfl

theorem enteringEvent_grates (s : State) : (enteringEvent s).cooler.grates = s.cooler.grates := by
  rw [enteringEvent_cooler]
  split
  · rfl
  · rw [enterOverload_cooler]; rfl

theorem enteringEvent_overload (s : State) : (enteringEvent s).cooler.overload = true := by
  rw [enteringEvent_cooler]
  split
  next inForce => exact inForce
  next => rw [enterOverload_cooler]; rfl

/-! ## The ends of the phases of a stroke (R90 to R92) -/

section
variable {g : Grate} {s : State}

theorem exec_phaseExpiry {i : Instr} {f : State → State} {u : State} (run : s.phase = .running)
    (event : exec i s = .next (whenRunning f s)) (moved : f s = u) : exec i s = .next u :=
  event.trans (congrArg Host.Outcome.next ((if_pos run).trans moved))

theorem phaseRuns_of {p : Phase} (phase : s.cooler.grates[g].phase = some p)
    (timed : s.cooler.grates[g].phaseTimer.isSome = true) : phaseRuns s g p = true := by
  simp only [phaseRuns, phase, timed, decide_true, Bool.and_self]

theorem forwardExpires_on (runs : phaseRuns s g .forward = true)
    (judged : s.cooler.grates[g].confirmed = true ∨ s.cooler.grates[g].miss = 0) : forwardExpires g s =
    s.onGrate g fun x => { x with miss := if x.confirmed then 0 else 1, phase := some .deadA, phaseTimer := some x.active.dead } := by
  unfold forwardExpires
  rw [if_pos runs]
  dsimp only
  by_cases confirmed : s.cooler.grates[g].confirmed = true
  · rw [if_pos confirmed]
    exact onGrate_congr s (by rw [if_pos confirmed])
  · rw [if_neg confirmed, if_pos (judged.resolve_left confirmed)]
    exact onGrate_congr s (by rw [if_neg confirmed])

theorem forwardExpires_stalls (runs : phaseRuns s g .forward = true) (unconfirmed : s.cooler.grates[g].confirmed = false)
    (second : s.cooler.grates[g].miss ≠ 0) : forwardExpires g s = stallGrate g s := by
  unfold forwardExpires
  rw [if_pos runs]
  dsimp only
  rw [if_neg (by rw [unconfirmed]; exact Bool.false_ne_true), if_neg second]

theorem stallGrate_grates (g : Grate) (s : State) : (stallGrate g s).cooler.grates = (s.onGrate g fun x =>
    { x with state := .stalled, phase := none, phaseTimer := none, runOut := false, miss := 2 }).cooler.grates := by
  have reported (u : State) : (reportCond (stallPoint g) true u).cooler = u.cooler :=
    reportCond_touches _ _ _ .cooler (by decide)
  unfold stallGrate
  dsimp only
  split
  · rw [enteringEvent_grates, reported]
  · rw [reported]

/-- An entering condition reports no point but that of OVERLOAD. -/
theorem enteringEvent_points_other {p : Point} (s : State) (h : p ≠ pt 70) :
    (enteringEvent s).alarm.points[p] = s.alarm.points[p] := by
  have dampers (t : State) : (forEach hotFans computeDamper t).alarm = t.alarm :=
    forEach_keeps (f := computeDamper) (g := State.alarm) (fun _ _ => rfl) hotFans t
  unfold enteringEvent
  split
  · rfl
  · refine (reportCond_points_other true _ h).trans (points_congr ?_ p)
    exact (dampers _).trans (capEvent_touches _ _ .alarm (by decide))

theorem stallGrate_cond (g : Grate) (s : State) : (stallGrate g s).alarm.points[stallPoint g].cond = true := by
  have other : stallPoint g ≠ pt 70 := fun e => by
    have value := congrArg Fin.val e
    simp only [stallPoint, pt] at value
    omega
  have reported (u : State) : (reportCond (stallPoint g) true u).alarm.points[stallPoint g].cond = true :=
    (cond_of_reportCond _ _ _ _).trans (if_pos rfl)
  unfold stallGrate
  dsimp only
  split
  · rw [enteringEvent_points_other _ other]
    exact reported _
  · exact reported _

theorem stallGrate_overload (s : State) : (stallGrate 0 s).cooler.overload = true := enteringEvent_overload _

/-- R86, R92: a confirmed stroke, counted by the section and by the totaliser. -/
theorem countStroke_eq (g : Grate) (s : State) : countStroke g s = (s.onGrate g GrateRec.strokeCounted).onTotals fun x =>
    { x with
      strokes := upd x.strokes g nextStrokes
      clinker := if g = 0 then satAdd top64 x.clinker (strokeClinker s) else x.clinker } := by
  have pressure (h : g = 0) : strokeClinker (addStroke g (s.onGrate g GrateRec.strokeCounted)) = strokeClinker s := by
    subst h
    unfold strokeClinker
    have kept : (addStroke 0 (s.onGrate 0 GrateRec.strokeCounted)).cooler.grates[(0 : Grate)].strokePressure
        = s.cooler.grates[(0 : Grate)].strokePressure := by
      refine (congrArg GrateRec.strokePressure (onGrate_same 0 GrateRec.strokeCounted s)).trans ?_
      unfold GrateRec.strokeCounted
      split <;> rfl
    rw [kept]
    rfl
  unfold countStroke
  dsimp only
  split
  next h =>
    rw [pressure h]
    rfl
  next h => rfl

theorem strokeClinker_eq (s : State) : strokeClinker s = ((s.cooler.grates[(0 : Grate)].strokePressure.getD 0)
    * s.live.grates[(0 : Grate)].clinkerFactor / 1000).toNat := by
  unfold strokeClinker
  split
  next absent => rw [absent]; simp
  next p present => rw [present]; rfl

theorem deadAExpires_eq (runs : phaseRuns s g .deadA = true) :
    let u := s.onGrate g fun x => { x with phase := some .ret, phaseTimer := some x.active.ret }
    deadAExpires g s = if s.cooler.grates[g].confirmed then countStroke g u else u := by
  unfold deadAExpires
  rw [if_pos runs]
  dsimp only
  rw [onGrate_same]

theorem returnExpires_eq (runs : phaseRuns s g .ret = true) : returnExpires g s = s.onGrate g fun x =>
    match x.state with
    | .running => { x with guard := some 0, phase := some .rest, phaseTimer := some x.active.rest }
    | .single => { x with guard := some 0, state := .stopped, phase := none, phaseTimer := none }
    | .stopped => { x with guard := some 0, runOut := false, phase := none, phaseTimer := none }
    | .stalled => { x with guard := some 0, runOut := false, phase := none, phaseTimer := none } := by
  unfold returnExpires
  exact if_pos runs

theorem restExpires_guarded (runs : phaseRuns s g .rest = true) (guard : s.cooler.grates[g].guard.isSome = true) :
    restExpires g s = s.onGrate g fun x => { x with phaseTimer := none } := by
  unfold restExpires
  rw [if_pos runs]
  dsimp only
  rw [onGrate_same]
  exact if_pos guard

theorem restExpires_free (runs : phaseRuns s g .rest = true) (guard : s.cooler.grates[g].guard = none) :
    restExpires g s = s.onGrate g fun _ => strokeBegun s g := by
  have begun : strokeBegun (s.onGrate g fun x => { x with phaseTimer := none }) g = strokeBegun s g := by
    rw [strokeBegun_onGrate s rfl rfl rfl, strokeBegun_eq]
  unfold restExpires
  rw [if_pos runs]
  dsimp only
  rw [onGrate_same]
  refine (if_neg (by rw [guard]; exact Bool.false_ne_true)).trans ?_
  rw [forwardStart_eq, begun, onGrate_onGrate]
  rfl

theorem guardExpires_waiting (guard : s.cooler.grates[g].guard.isSome = true) (rest : s.cooler.grates[g].phase = some .rest)
    (waits : s.cooler.grates[g].phaseTimer = none) : guardExpires g s = s.onGrate g fun _ => strokeBegun s g := by
  have begun : strokeBegun (s.onGrate g fun x => { x with guard := none }) g = strokeBegun s g := by
    rw [strokeBegun_onGrate s rfl rfl rfl, strokeBegun_eq]
  unfold guardExpires
  rw [if_pos guard, guardEnds_waiting rest waits, forwardStart_eq, begun, onGrate_onGrate]
  rfl

/-- What the start of a stroke by a timer leaves: the section's record begun, and nothing else changed. -/
theorem begun_frame (g : Grate) (s : State) : let t := s.onGrate g fun _ => strokeBegun s g
    forwardOpen t g = true ∧ returnOpen t g = false ∧ t.cooler.grates[g].guard = none
    ∧ t.cooler.grates[g] = strokeBegun s g ∧ (∀ h : Grate, h ≠ g → t.cooler.grates[h] = s.cooler.grates[h])
    ∧ t.cooler.window = s.cooler.window ∧ t.cooler.grates[g].confirmed = false
    ∧ t.cooler.grates[g].active = s.cooler.grates[g].staged.getD s.cooler.grates[g].active
    ∧ t.cooler.grates[g].phaseTimer = some t.cooler.grates[g].active.forward ∧ Touches [.cooler] s t := by
  intro t
  have begun : t.cooler.grates[g] = strokeBegun s g := onGrate_same g _ s
  have opened := forwardOpen_of_begun (x := _) begun
  rw [begun]
  exact ⟨opened.1, opened.2, rfl, rfl, fun h ne => onGrate_other _ s ne, rfl, rfl, rfl, rfl, onGrate_touches g _ s⟩

theorem strokeCounted_counts (x : GrateRec) :
    (x.strokesLow < 65535 → x.strokeCounted = { x with strokesLow := x.strokesLow + 1 })
    ∧ (65535 ≤ x.strokesLow → x.strokeCounted.strokesLow = 0
      ∧ (x.strokesHigh < 4294967295 → x.strokeCounted.strokesHigh = x.strokesHigh + 1))
    ∧ x.strokeCounted = { x with strokesLow := x.strokeCounted.strokesLow, strokesHigh := x.strokeCounted.strokesHigh } := by
  unfold GrateRec.strokeCounted
  refine ⟨fun low => if_pos low, fun high => ?_, ?_⟩
  · have top : ¬x.strokesLow < top16 := not_lt.mpr high
    rw [if_neg top]
    exact ⟨rfl, fun low => if_pos low⟩
  · split <;> rfl

end

/-- Settles O27: the expiry of each phase, and of the return guard. -/
theorem strokePhasesEnd : Obligations.StrokePhasesEnd := by
  refine ⟨fun g s run phase timed => ⟨fun judged => ?_, fun unconfirmed second => ?_⟩, fun g s run =>
    ⟨fun timed => ⟨fun deadA => ?_, fun ret running => ?_, fun ret single => ?_, fun ret stopped => ?_, fun rest guard => ?_,
      fun rest guard => ?_⟩, fun guard rest waits => ?_, fun guard other => ?_⟩⟩
  · exact exec_phaseExpiry run rfl (forwardExpires_on (phaseRuns_of phase timed) judged)
  · have stalled : (stallGrate g s).cooler.grates[g] = { s.cooler.grates[g] with
        state := .stalled, phase := none, phaseTimer := none, runOut := false, miss := 2 } :=
      (congrArg (fun v : Vector GrateRec 3 => v[g]) (stallGrate_grates g s)).trans (onGrate_same g _ s)
    have closed : (stallGrate g s).cooler.grates[g].phase = none := congrArg GrateRec.phase stalled
    refine ⟨_, exec_phaseExpiry run rfl (forwardExpires_stalls (phaseRuns_of phase timed) unconfirmed second), stalled, ?_, ?_,
      stallGrate_cond g s, ?_⟩
    · simp only [forwardOpen, closed, reduceCtorEq, decide_false]
    · simp only [returnOpen, closed, reduceCtorEq, decide_false]
    · rintro rfl
      exact stallGrate_overload s
  · let u : State := s.onGrate g fun x => { x with phase := some .ret, phaseTimer := some x.active.ret }
    have ended := exec_phaseExpiry (i := .deadAExpiry g) run rfl (deadAExpires_eq (phaseRuns_of deadA timed))
    have moved : u.cooler.grates[g] = { s.cooler.grates[g] with
        phase := some .ret, phaseTimer := some s.cooler.grates[g].active.ret } := onGrate_same g _ s
    by_cases confirmed : s.cooler.grates[g].confirmed = true
    · rw [if_pos confirmed, countStroke_eq] at ended
      have record : ((u.onGrate g GrateRec.strokeCounted).cooler.grates[g]) = GrateRec.strokeCounted { s.cooler.grates[g] with
          phase := some .ret, phaseTimer := some s.cooler.grates[g].active.ret } := by rw [onGrate_same, moved]
      obtain ⟨counts, carries, rest⟩ := strokeCounted_counts { s.cooler.grates[g] with
          phase := some .ret, phaseTimer := some s.cooler.grates[g].active.ret }
      rw [← record] at counts carries rest
      have clinker : strokeClinker u = strokeClinker s := by
        have pressure : u.cooler.grates[(0 : Grate)].strokePressure = s.cooler.grates[(0 : Grate)].strokePressure := by
          by_cases h : g = 0
          · subst h; rw [moved]
          · rw [show u.cooler.grates[(0 : Grate)] = s.cooler.grates[(0 : Grate)] from onGrate_other _ s (Ne.symm h)]
        rw [strokeClinker_eq, strokeClinker_eq, pressure]
        rfl
      refine ⟨_, ended, congrArg GrateRec.phase rest, congrArg GrateRec.phaseTimer rest,
        fun h => absurd (h.symm.trans confirmed) Bool.false_ne_true, fun _ => ⟨fun low => ?_, carries, ?_, rfl⟩, rest,
        fun h ne => ?_, ?_⟩
      · have counted := counts low
        exact ⟨congrArg GrateRec.strokesLow counted, (congrArg GrateRec.strokesHigh counted).trans rfl⟩
      · rw [clinker, strokeClinker_eq]
        rfl
      · exact (onGrate_other _ u ne).trans (onGrate_other _ s ne)
      · exact ((onGrate_touches g _ s).mono).trans (((onGrate_touches g _ u).mono).trans ((onTotals_touches _ _).mono))
    · rw [if_neg confirmed] at ended
      refine ⟨_, ended, congrArg GrateRec.phase moved, congrArg GrateRec.phaseTimer moved,
        fun _ => ⟨rfl, (congrArg GrateRec.strokesLow moved).trans rfl⟩, fun h => absurd h confirmed, ?_, fun h ne => onGrate_other _ s ne,
        (onGrate_touches g _ s).mono⟩
      refine moved.trans ?_
      rw [moved]
  · exact exec_phaseExpiry run rfl ((returnExpires_eq (phaseRuns_of ret timed)).trans (onGrate_congr s (by rw [running]; rfl)))
  · exact exec_phaseExpiry run rfl ((returnExpires_eq (phaseRuns_of ret timed)).trans (onGrate_congr s (by rw [single])))
  · exact exec_phaseExpiry run rfl ((returnExpires_eq (phaseRuns_of ret timed)).trans (onGrate_congr s (by rw [stopped])))
  · exact exec_phaseExpiry run rfl (restExpires_guarded (phaseRuns_of rest timed) guard)
  · obtain ⟨opened, -, -, begun, others, window, -, active, timer, frame⟩ := begun_frame g s
    exact ⟨_, exec_phaseExpiry run rfl (restExpires_free (phaseRuns_of rest timed) guard), opened, begun, others, window, active,
      timer, frame⟩
  · exact ⟨_, exec_phaseExpiry run rfl (guardExpires_waiting guard rest waits), begun_frame g s⟩
  · exact exec_phaseExpiry run rfl ((if_pos guard).trans (guardEnds_other other))

end Sys2Proof.Machine
end

section
/-! PROOFS. The requests of the Alarm Table (R112 to R129). -/

namespace Sys2Proof.Machine

-- One proof at a time: proofs that wait for one another hold a thread each, and the threads' memory is bounded.
set_option Elab.async false

/-! ## Acknowledgement (R113, R124 to R128) -/

theorem exec_ackTop {s u : State} {a : Ans} (run : s.phase = .running) (service : ackTop s = (u, a))
    (plainly : a.after = .nothing := by rfl) : exec .alarmAckTop s = .next (answering a.status a.reason a.data u) :=
  exec_answers run rfl service plainly

theorem exec_ackPoint {p : Point} {s u : State} {a : Ans} (run : s.phase = .running) (service : ackOne p s = (u, a))
    (plainly : a.after = .nothing := by rfl) :
    exec (.alarmAckPoint (p.val + 1)) s = .next (answering a.status a.reason a.data u) :=
  exec_answers run rfl ((congrFun (forPoint_val p ackOne) s).trans service) plainly

/-- R113: an acknowledgement of an unacknowledged point. -/
theorem ackPoint_unacked {p : Point} {s : State} (unacked : isUnacked s p = true) : ackPoint p s
    = leavePlacement p (s.onPoint p fun x => { x with state := if x.state = .activeUnack then .activeAck else .normal }) := by
  simp only [isUnacked, decide_eq_true_eq] at unacked
  unfold ackPoint
  rcases unacked with active | cleared
  · rw [active]
    exact congrArg (leavePlacement p) (s.onPoint_congr p (by simp only [← Fin.getElem_fin, active, ↓reduceIte]))
  · rw [cleared]
    exact congrArg (leavePlacement p)
      (s.onPoint_congr p (by simp only [← Fin.getElem_fin, cleared, reduceCtorEq, ↓reduceIte]))

/-- R124, R125: a listed point leaves its place, and the head of the waiting queue goes on top. -/
theorem leavePlacement_listed {p : Point} {s : State} (listed : p ∈ s.alarm.list) : (leavePlacement p s).alarm
    = { s.alarm with
        list := s.alarm.queue.head?.toList ++ s.alarm.list.erase p, queue := s.alarm.queue.drop 1
        silenced := s.alarm.silenced && !s.alarm.queue.head?.any fun q => decide (s.live.points[q].priority ≤ 2) } := by
  unfold leavePlacement
  rw [if_pos (List.contains_iff_mem.mpr listed)]
  dsimp only
  cases queue : s.alarm.queue with
  | nil => simp [queue]
  | cons q rest =>
    simp only [State.onAlarm_alarm, queue, placeOnList, isUrgent, priorityOf, List.head?_cons, Option.toList_some,
      List.singleton_append, List.drop_one, List.tail_cons, Option.any_some, State.onAlarm_live]
    rfl

theorem leavePlacement_unlisted {p : Point} {s : State} (unlisted : p ∉ s.alarm.list) :
    leavePlacement p s = s.onAlarm fun t => { t with queue := t.queue.erase p } :=
  if_neg fun listed => unlisted (List.contains_iff_mem.mp listed)

theorem be_one (n : Nat) : be 1 n = [BitVec.ofNat 8 n] := by simp [be]

/-- Settles O33: both requests acknowledge the point on top of the list alike. -/
theorem acknowledgeTop : Obligations.AcknowledgeTop := by
  refine ⟨fun s run empty => exec_ackTop (a := done (be 1 0)) run (by simp only [ackTop, topPoint, empty, List.head?_nil]),
    fun p rest s run list unacked top => ?_⟩
  have listed : p ∈ (s.onPoint p fun x => { x with state := if x.state = .activeUnack then .activeAck else .normal }).alarm.list := by
    rw [State.onPoint_alarm, list]
    exact List.mem_cons_self
  have table := (congrArg State.alarm (ackPoint_unacked unacked)).trans (leavePlacement_listed listed)
  have asked : ∃ a : Ans, a.status = .done ∧ a.data = (if top then [BitVec.ofNat 8 (p.val + 1)] else [])
      ∧ exec (if top then .alarmAckTop else .alarmAckPoint (p.val + 1)) s = .next (answering a.status a.reason a.data (ackPoint p s)) := by
    cases top with
    | true => exact ⟨done (be 1 (pointNo p)), rfl, be_one _, exec_ackTop run (by simp only [ackTop, topPoint, list, List.head?_cons])⟩
    | false => exact ⟨done [], rfl, rfl, exec_ackPoint run rfl⟩
  obtain ⟨a, status, data, ran⟩ := asked
  refine ⟨_, ran, congrArg AlarmTable.points table, ?_, congrArg AlarmTable.queue table, ?_, ?_, ?_⟩
  · refine (congrArg AlarmTable.list table).trans ?_
    simp only [State.onPoint_alarm, list, List.erase_cons_head]
    cases s.alarm.queue <;> rfl
  · refine (congrArg AlarmTable.silenced table).trans ?_
    simp only [State.onPoint_alarm]
    cases s.alarm.queue with
    | nil => simp
    | cons q rest => rfl
  · show some (a.status, a.data) = _
    rw [status, data]
  · exact Touches.answering (l := [.alarm]) (ackPoint_touches p s)

theorem acked_silent (s : State) : hornSounds (ackAll s) = false := rfl

/-- Settles O34. -/
theorem acknowledgeAllAndSilence : Obligations.AcknowledgeAllAndSilence := by
  refine ⟨fun s run => ⟨_, exec_answers (a := done (be 1 (unackedCount s))) run rfl rfl, rfl, rfl, rfl, fun p => ?_, rfl,
      congrArg (fun l => some (Status.done, l)) (be_one (unackedCount s)), Touches.answering (l := [.alarm]) (onAlarm_touches _ s)⟩,
    fun s run => ?_⟩
  · refine (Vector.getElem_map _ _).trans ?_
    rw [Fin.getElem_fin]
    cases s.alarm.points[p.val].state <;> rfl
  · have ran : exec .hornSilence s = .next (answering .done none [] (s.onAlarm fun x => { x with silenced := true })) :=
      exec_answers (a := done []) run rfl rfl
    refine ⟨ran, fun t other => ?_⟩
    cases ran.symm.trans other
    exact Bool.and_false _

/-! ## Activation (R114, R123, R125) -/

theorem addActivation_shift (k : Nat) (s : State) : (addActivation k s).shift = { s.shift with totals := { s.shift.totals with
    prio := Vector.ofFn fun j : Fin 4 =>
      if k = j.val + 1 then min (s.shift.totals.prio[j] + 1) 4294967295 else s.shift.totals.prio[j] } } := by
  unfold addActivation
  split
  next outside =>
    have none : (Vector.ofFn fun j : Fin 4 =>
        if k = j.val + 1 then min (s.shift.totals.prio[j] + 1) 4294967295 else s.shift.totals.prio[j]) = s.shift.totals.prio := by
      ext j hj
      have other : k ≠ j + 1 := fun e => by
        rw [e] at outside
        cases (instNo_val (⟨j, hj⟩ : Fin 4)).symm.trans outside
      simp [other]
    rw [none]
  next i inside =>
    have k_eq : k = i.val + 1 := by
      unfold instNo at inside
      split at inside
      next bounds => cases inside; simp only; omega
      next => cases inside
    have one : upd s.shift.totals.prio i (satInc top32) = Vector.ofFn fun j : Fin 4 =>
        if k = j.val + 1 then min (s.shift.totals.prio[j] + 1) 4294967295 else s.shift.totals.prio[j] := by
      ext j hj
      refine (upd_at _ i ⟨j, hj⟩ _).trans ?_
      rw [Vector.getElem_ofFn, k_eq]
      by_cases e : i = ⟨j, hj⟩
      · subst e; rw [if_pos rfl, if_pos rfl]; rfl
      · rw [if_neg e, if_neg fun h => e (Fin.ext (Nat.succ.inj h))]; rfl
    exact congrArg (fun v => { s.shift with totals := { s.shift.totals with prio := v } }) one

theorem place_shift (p : Point) (s : State) : (place p s).shift = { s.shift with totals := { s.shift.totals with
    maxWaiting := max s.shift.totals.maxWaiting (if 8 ≤ s.alarm.list.length then s.alarm.queue.length + 1 else 0) } } := by
  unfold place
  split
  next room =>
    rw [if_neg (not_le.mpr room), Nat.max_eq_left (Nat.zero_le _)]
    rfl
  next full =>
    rw [if_pos (not_lt.mp full)]
    simp only [reportWaiting, State.onTotals_shift, State.onAlarm_shift, State.onAlarm_alarm, List.length_append,
      List.length_singleton]

/-- The activation of a point meets what R114, R123 and R125 say of it. -/
theorem activate_activated (p : Point) (s : State) : Activated p s (activate p s) := by
  let stamped : State := s.onPoint p fun x =>
    { x with state := .activeUnack, count := satInc top16 x.count, last := some (shiftClock s) }
  let counted : State := addActivation (priorityOf s p) stamped
  have alarm : counted.alarm = { s.alarm with points := upd s.alarm.points p fun x =>
      { x with state := .activeUnack, count := satInc top16 x.count, last := some (shiftClock s) } } :=
    addActivation_alarm _ stamped
  have shift : counted.shift = { s.shift with totals := { s.shift.totals with
      prio := Vector.ofFn fun k : Fin 4 =>
        if s.live.points[p].priority = k.val + 1 then min (s.shift.totals.prio[k] + 1) 4294967295
        else s.shift.totals.prio[k] } } := addActivation_shift _ stamped
  have store : counted.store = s.store := addActivation_touches _ stamped .store (by decide)
  by_cases placed : isPlaced s p = true
  · have stays : activate p s = counted := if_pos placed
    rw [stays]
    refine ⟨congrArg AlarmTable.points alarm, fun _ => by rw [alarm], fun h => absurd (placed.symm.trans h) (by simp),
      fun h => absurd (placed.symm.trans h) (by simp), ?_⟩
    rw [shift]
    simp [placed]
  · have goes : activate p s = place p counted := if_neg placed
    have list : counted.alarm.list = s.alarm.list := by rw [alarm]
    have queue : counted.alarm.queue = s.alarm.queue := by rw [alarm]
    rw [goes]
    refine ⟨(place_points p counted).trans (congrArg AlarmTable.points alarm), fun h => absurd h placed, fun _ room => ?_,
      fun _ full => ?_, ?_⟩
    · have onTop : place p counted = placeOnList p counted := if_pos (by rw [list]; exact room)
      have silenced : counted.alarm.silenced = s.alarm.silenced := by rw [alarm]
      rw [onTop]
      refine ⟨congrArg (p :: ·) list, queue, ?_⟩
      show (counted.alarm.silenced && !isUrgent counted p) = _
      rw [silenced, isUrgent, priorityOf, State.live, store]
      rfl
    · have atTail : (place p counted).alarm = { counted.alarm with queue := counted.alarm.queue ++ [p] } :=
        congrArg State.alarm (if_neg (by rw [list]; omega))
      rw [atTail, alarm]
      exact ⟨rfl, rfl, rfl⟩
    · rw [place_shift, shift, list, queue]
      simp only [Bool.not_eq_true _ ▸ placed, true_and]

/-! ## SHELVE, DISABLE and their ends (R118 to R121, R124) -/

section
variable {p : Point} {n : Nat} {s u : State} {a : Ans}

theorem exec_shelve (run : s.phase = .running) (service : shelve n p s = (u, a)) (plainly : a.after = .nothing := by rfl) :
    exec (.alarmShelve (p.val + 1) n) s = .next (answering a.status a.reason a.data u) :=
  exec_answers run rfl ((congrFun (forPoint_val p (shelve n)) s).trans service) plainly

theorem exec_unshelve (run : s.phase = .running) (service : unshelve p s = (u, a)) (plainly : a.after = .nothing := by rfl) :
    exec (.alarmUnshelve (p.val + 1)) s = .next (answering a.status a.reason a.data u) :=
  exec_answers run rfl ((congrFun (forPoint_val p unshelve) s).trans service) plainly

theorem exec_disable (run : s.phase = .running) (service : disable p s = (u, a)) (plainly : a.after = .nothing := by rfl) :
    exec (.alarmDisable (p.val + 1)) s = .next (answering a.status a.reason a.data u) :=
  exec_answers run rfl ((congrFun (forPoint_val p disable) s).trans service) plainly

theorem exec_enable (run : s.phase = .running) (service : enable p s = (u, a)) (plainly : a.after = .nothing := by rfl) :
    exec (.alarmEnable (p.val + 1)) s = .next (answering a.status a.reason a.data u) :=
  exec_answers run rfl ((congrFun (forPoint_val p enable) s).trans service) plainly

theorem exec_external {present : Bool} (run : s.phase = .running) (service : external present p s = (u, a))
    (plainly : a.after = .nothing := by rfl) : exec (if present then .alarmRaise (p.val + 1) else .alarmClear (p.val + 1)) s
      = .next (answering a.status a.reason a.data u) := by
  cases present with
  | true => exact exec_answers run rfl ((congrFun (forPoint_val p (external true)) s).trans service) plainly
  | false => exact exec_answers run rfl ((congrFun (forPoint_val p (external false)) s).trans service) plainly

end

/-- R124: a point that has a place leaves it, and one that has none changes nothing. -/
theorem unplaced_of_leaving {p : Point} {s t : State} (placement : isPlaced t p = isPlaced s p) :
    Unplaced p t (if isPlaced s p then leavePlacement p t else t) := by
  rw [← placement]
  by_cases listed : p ∈ t.alarm.list
  · have placed : isPlaced t p = true := by simp [isPlaced, listed]
    rw [if_pos placed]
    have left := leavePlacement_listed listed
    exact ⟨leavePlacement_points p t, fun _ => by rw [left]; exact ⟨rfl, rfl, rfl⟩, fun h => absurd listed h⟩
  · refine ⟨?_, fun h => absurd h listed, fun _ => ?_⟩
    · split
      · exact leavePlacement_points p t
      · rfl
    · split
      next placed => rw [leavePlacement_unlisted listed]; rfl
      next none =>
        have absent : p ∉ t.alarm.queue := fun h => none (by simp [isPlaced, h])
        rw [List.erase_of_not_mem absent]

theorem isPlaced_onPoint (p : Point) (f : PointRec → PointRec) (s : State) : isPlaced (s.onPoint p f) p = isPlaced s p := rfl

theorem shelve_accepted {p : Point} {n : Nat} {s : State} (free : tripTarget s p = .noTrip)
    (enabled : s.alarm.points[p].state ≠ .disabled) : shelve n p s =
      (shelvePoint p (shelveMinutes s n) s, if n ≤ 480 then done [] else clampedWith []) := by
  simp only [shelve, free, enabled, ne_eq, not_true_eq_false, ↓reduceIte]

theorem targetBurnerActive_iff (s : State) (x : TripTarget) :
    targetBurnerActive s x = true ↔ ∃ b : Burner, x.includes b = true ∧ (s.burns.get b).state ≠ .off := by
  have both (b : Burner) : b ∈ bothBurners := by cases b <;> decide
  simp [targetBurnerActive, both]

theorem onPoint_points_same (p : Point) (f : PointRec → PointRec) (s : State) :
    (s.onPoint p f).alarm.points[p] = f s.alarm.points[p] := upd_same _ _ _

/-- R119, R121: a point that leaves SHELVED or DISABLED is activated when its condition is present, else NORMAL. -/
theorem resumePoint_eq (p : Point) (s : State) : let freed := s.onPoint p fun x => { x with state := .normal, shelve := none }
    resumePoint p s = if s.alarm.points[p].cond then activate p freed else freed := by
  intro freed
  have cond : freed.alarm.points[p].cond = s.alarm.points[p].cond := by
    rw [onPoint_points_same]
  unfold resumePoint
  dsimp only
  rw [cond]

/-- Settles O35. -/
theorem shelveAndDisable : Obligations.ShelveAndDisable := by
  refine ⟨fun k n s run out => ⟨exec_answers run rfl (forPoint_out out (shelve n) s),
    exec_answers run rfl (forPoint_out out unshelve s), exec_answers run rfl (forPoint_out out disable s),
    exec_answers run rfl (forPoint_out out enable s)⟩, fun p n s run => ⟨fun trips => ?_, fun free disabled => ?_,
    fun free enabled => ?_, fun active => ?_, fun idle => ?_, fun other => ⟨?_, ?_⟩, fun other => ?_, fun request held => ?_⟩⟩
  · exact exec_shelve (a := refusedFor .tripPoint) run (if_pos trips)
  · exact exec_shelve (a := refusedFor .disabled) run
      (by simp only [shelve, free, disabled, ne_eq, not_true_eq_false, ↓reduceIte])
  · have service := shelve_accepted (n := n) free enabled
    have minutes : shelveMinutes s n = if n = 0 then s.live.shelveDefault else if n ≤ 480 then n else 480 := by
      unfold shelveMinutes
      split_ifs with zero low
      · rfl
      · exact Nat.min_eq_left low
      · exact Nat.min_eq_right (by omega)
    refine ⟨_, exec_shelve run service (by split <;> rfl), ?_, ?_, Touches.answering (l := [.alarm]) (shelvePoint_touches p _ s)⟩
    · rw [← minutes]
      exact unplaced_of_leaving (isPlaced_onPoint p _ s)
    · show some ((if n ≤ 480 then done [] else clampedWith []).status, (if n ≤ 480 then done [] else clampedWith []).reason) = _
      split <;> rfl
  · exact exec_disable (a := refusedFor .burnerActive) run (if_pos ((targetBurnerActive_iff s _).mpr active))
  · have service : disable p s = (disablePoint p s, done []) := if_neg ((targetBurnerActive_iff s _).not.mpr idle)
    refine ⟨_, exec_disable (a := done []) run service, ?_, rfl, Touches.answering (l := [.alarm]) (disablePoint_touches p s)⟩
    exact unplaced_of_leaving (isPlaced_onPoint p _ s)
  · exact exec_unshelve (a := done []) run (congrArg (·, done []) (if_neg other))
  · exact congrArg Host.Outcome.next ((if_pos run).trans (if_neg other))
  · exact exec_enable (a := done []) run (congrArg (·, done []) (if_neg other))
  · let freed := s.onPoint p fun x => { x with state := .normal, shelve := none }
    have resumed : (s.alarm.points[p].cond = true → Activated p freed (resumePoint p s))
        ∧ (s.alarm.points[p].cond = false → (resumePoint p s).alarm = freed.alarm ∧ (resumePoint p s).shift = s.shift) := by
      rw [resumePoint_eq]
      refine ⟨fun present => ?_, fun absent => ?_⟩
      · rw [if_pos present]; exact activate_activated p freed
      · rw [absent]; exact ⟨rfl, rfl⟩
    have frame := resumePoint_touches p s
    rcases held with ⟨shelved, rfl | rfl⟩ | ⟨disabled, rfl⟩
    · exact ⟨_, exec_unshelve (a := done []) run (congrArg (·, done []) (if_pos shelved)), resumed.1, resumed.2, nofun,
        fun _ => rfl, Touches.answering (l := [.alarm, .shift]) frame⟩
    · exact ⟨_, congrArg Host.Outcome.next ((if_pos run).trans (if_pos shelved)), resumed.1, resumed.2,
        fun _ => frame .answer (by decide), fun h => absurd rfl h, frame.mono⟩
    · exact ⟨_, exec_enable (a := done []) run (congrArg (·, done []) (if_pos disabled)), resumed.1, resumed.2, nofun,
        fun _ => rfl, Touches.answering (l := [.alarm, .shift]) frame⟩

/-! ## External points (R129) -/

/-- A report that an absent point is present, up to the trips that it hands (R112 to R114, R129). -/
theorem reportCond_present {p : Point} {s : State} (absent : s.alarm.points[p].cond = false) : reportCond p true s
    = handTrips p (conditionChanged p true (s.onPoint p fun x => { x with cond := true })) :=
  if_neg (by rw [absent]; exact Bool.false_ne_true)

theorem conditionChanged_present (p : Point) (s : State) :
    (s.alarm.points[p].state = .normal ∨ s.alarm.points[p].state = .clearedUnack → conditionChanged p true s = activate p s)
    ∧ (s.alarm.points[p].state = .activeUnack ∨ s.alarm.points[p].state = .activeAck → conditionChanged p true s = s)
    ∧ (s.alarm.points[p].state = .shelved ∨ s.alarm.points[p].state = .disabled →
      conditionChanged p true s = addSuppressed s) := by
  refine ⟨?_, ?_, ?_⟩ <;> rintro (h | h) <;> simp only [conditionChanged, h]

/-- The trips of an external point are those of its target (R116). -/
theorem tripsOf_external {p : Point} (s : State) (outside : 83 ≤ p.val) : tripsOf p s = match s.live.points[p].target with
    | .noTrip => []
    | .main => [(.main, .alarmPoint p)]
    | .calciner => [(.calciner, .alarmPoint p)]
    | .both => [(.main, .alarmPoint p), (.calciner, .alarmPoint p)] := by
  have target : tripTarget s p = s.live.points[p].target := if_pos (by simp only [targetIsSetting, decide_eq_true_eq]; omega)
  rw [tripsOf, target]
  cases s.live.points[p].target <;> rfl

/-- Settles O32. -/
theorem externalPoints : Obligations.ExternalPoints := by
  refine ⟨fun k s run out => ⟨exec_answers run rfl (forPoint_out out (external true) s),
    exec_answers run rfl (forPoint_out out (external false) s)⟩, fun p s run =>
    ⟨fun owned => ⟨?_, ?_⟩, fun outside present => ⟨?_, ?_⟩, fun outside absent => ⟨?_, ?_⟩⟩⟩
  · exact exec_external (present := true) (a := refusedFor .notExternal) run (if_pos (by omega))
  · exact exec_external (present := false) (a := refusedFor .notExternal) run (if_pos (by omega))
  · exact exec_external (present := true) (a := done []) run
      ((if_neg (by omega)).trans (congrArg (·, done []) (if_pos present)))
  · refine exec_external (present := false) (a := done []) run ((if_neg (by omega)).trans (congrArg (·, done []) ?_))
    rw [reportCond_absent]
    refine s.onPoint_congr p ?_
    rw [← Fin.getElem_fin, PointRec.absent, if_pos present]
    cases s.alarm.points[p].state <;> rfl
  · exact exec_external (present := false) (a := done []) run
      ((if_neg (by omega)).trans (congrArg (·, done []) (if_pos absent)))
  · let stored := s.onPoint p fun x => { x with cond := true }
    have state : stored.alarm.points[p].state = s.alarm.points[p].state := by rw [onPoint_points_same]
    obtain ⟨activates, stays, suppressed⟩ := conditionChanged_present p stored
    rw [state] at activates stays suppressed
    refine ⟨_, exec_external (present := true) (a := done []) run (if_neg (by omega)), fun h => ?_, fun h => ?_, fun h => ?_, ?_,
      rfl, Touches.answering (l := [.alarm, .shift, .handed]) (reportCond_touches p true s)⟩
    · rw [reportCond_present absent, activates h]
      exact activate_activated p stored
    · rw [reportCond_present absent, stays h]
      exact ⟨rfl, rfl⟩
    · rw [reportCond_present absent, suppressed h]
      exact ⟨rfl, rfl⟩
    · refine (handed_of_reportCond p true s).trans (congrArg (s.handed ++ ·) ((if_pos ⟨absent, rfl⟩).trans ?_))
      exact (tripsOf_external s outside).trans (by cases s.live.points[p].target <;> rfl)

end Sys2Proof.Machine
end

section
/-! PROOFS. The shift: its clock, its close, and the shelves that its minutes end (R119, R133 to R141). -/

namespace Sys2Proof.Machine

-- One proof at a time: proofs that wait for one another hold a thread each, and the threads' memory is bounded.
set_option Elab.async false

/-! ## A shift close (R131, R139, R141) -/

theorem closeShift_shift (reason : CloseReason) (s : State) : (closeShift reason s).shift = { s.shift with
    ring := ringAdd s.shift.ring (runningReport reason s), nextSeq := sequenceAfter s.shift.nextSeq
    totals := { ({} : Totals) with maxWaiting := s.alarm.queue.length }, shiftSeconds := 0, startClock := shiftClock s
    unopened := true } :=
  congrArg (fun n => { s.shift with
    ring := ringAdd s.shift.ring (runningReport reason s), nextSeq := sequenceAfter s.shift.nextSeq
    totals := { ({} : Totals) with maxWaiting := n }, shiftSeconds := 0, startClock := shiftClock s
    unopened := true }) (Nat.zero_max _)

theorem closeShift_alarm (reason : CloseReason) (s : State) : (closeShift reason s).alarm
    = { s.alarm with points := s.alarm.points.map fun x => { x with count := 0 } } := rfl

theorem ringAdd_of_short {ring : List Report} (r : Report) (short : ring.length ≤ 4) :
    ringAdd ring r = ring.drop (ring.length - 3) ++ [r] := by
  unfold ringAdd
  split
  next full => rw [show ring.length - 3 = 1 by omega]
  next room => rw [show ring.length - 3 = 0 by omega, List.drop_zero]

theorem ringAdd_last (ring : List Report) (r : Report) : (ringAdd ring r).getLast? = some r := by
  unfold ringAdd
  exact List.getLast?_concat

theorem sequenceAfter_below {n : Nat} (below : n < 4294967295) : sequenceAfter n = n + 1 := if_pos below

/-- Settles O37. -/
theorem shiftCloseRestarts : Obligations.ShiftCloseRestarts := by
  intro s run below short
  have closed := closeShift_shift .command s
  refine ⟨_, exec_answers (a := done (be 4 s.shift.nextSeq)) run rfl rfl, ?_, ?_, ?_, ?_, ?_, ?_, ?_, ?_, ?_, ?_, ?_, fun p => ?_,
    rfl, rfl, rfl, Touches.answering (l := [.shift, .alarm]) (closeShift_touches .command s)⟩
  · exact (congrArg Shift.ring closed).trans (ringAdd_of_short _ short)
  · exact congrArg Shift.totals closed
  · exact (congrArg Shift.nextSeq closed).trans (sequenceAfter_below below)
  · exact congrArg Shift.shiftSeconds closed
  · exact congrArg Shift.unopened closed
  · exact congrArg Shift.startClock closed
  · rfl
  · rfl
  · rfl
  · rfl
  · rfl
  · exact Vector.getElem_map _ _

/-! ## The minute of the shelves (R119) -/

theorem resumePoint_alarmTotals (p : Point) (s : State) : AlarmTotals s (resumePoint p s) := by
  rw [resumePoint_eq]
  exact .ite ((onPoint_touches p _ s).alarmTotals.trans (activate_alarmTotals p _)) (onPoint_touches p _ s).alarmTotals

theorem minuteAt_alarmTotals (p : Point) (s : State) : AlarmTotals s (minuteAt p s) := by
  unfold minuteAt expireShelve
  exact .ite (.ite (.ite (resumePoint_alarmTotals p s) (.of_shift rfl)) (onPoint_touches p _ s).alarmTotals) (.of_shift rfl)

theorem minuteEvent_alarmTotals (s : State) : AlarmTotals s (minuteEvent s) :=
  forEach_preserves (P := AlarmTotals s) (fun p t h => h.trans (minuteAt_alarmTotals p t)) _ (.of_shift rfl)

theorem resumePoint_points_other {p q : Point} (s : State) (h : q ≠ p) :
    (resumePoint p s).alarm.points[q] = s.alarm.points[q] := by
  rw [resumePoint_eq]
  split
  · exact (activate_points_other _ h).trans (onPoint_points_other _ s h)
  · exact onPoint_points_other _ s h

theorem minuteAt_points_other {p q : Point} (s : State) (h : q ≠ p) : (minuteAt p s).alarm.points[q] = s.alarm.points[q] := by
  unfold minuteAt expireShelve
  dsimp only
  split
  · split
    · exact resumePoint_points_other s h
    · exact onPoint_points_other _ s h
  · rfl

/-- R119: what a minute makes of a point: its state, the minutes of its shelve, and its condition. -/
def minuteTaken (x : PointState × Option Nat × Bool) : PointState × Option Nat × Bool :=
  if x.1 = .shelved then
    if x.2.1.getD 0 - 1 = 0 then (if x.2.2 then .activeUnack else .normal, none, x.2.2)
    else (.shelved, some (x.2.1.getD 0 - 1), x.2.2)
  else x

/-- What `minuteTaken` is of. -/
def shelfOf (p : Point) (s : State) : PointState × Option Nat × Bool :=
  (s.alarm.points[p].state, s.alarm.points[p].shelve, s.alarm.points[p].cond)

theorem resumePoint_shelf (p : Point) (s : State) : shelfOf p (resumePoint p s)
    = (if s.alarm.points[p].cond then .activeUnack else .normal, none, s.alarm.points[p].cond) := by
  let freed := s.onPoint p fun x => { x with state := .normal, shelve := none }
  have record : freed.alarm.points[p] = { s.alarm.points[p] with state := .normal, shelve := none } := onPoint_points_same p _ s
  rw [resumePoint_eq]
  split
  · have active : (activate p freed).alarm.points[p] = { freed.alarm.points[p] with
        state := .activeUnack, count := min (freed.alarm.points[p].count + 1) 65535
        last := some ⟨freed.shift.seconds, freed.shift.day, freed.shift.isSet⟩ } :=
      (congrArg (fun v : Vector PointRec 96 => v[p]) (activate_activated p freed).1).trans (upd_same _ _ _)
    rw [shelfOf, active, record]
  · rw [shelfOf, record]

theorem minuteAt_shelf (p : Point) (s : State) : shelfOf p (minuteAt p s) = minuteTaken (shelfOf p s) := by
  unfold minuteAt minuteTaken
  dsimp only
  by_cases shelved : s.alarm.points[p].state = .shelved
  · rw [if_pos shelved, if_pos (show (shelfOf p s).1 = .shelved from shelved)]
    by_cases last : s.alarm.points[p].shelve.getD 0 - 1 = 0
    · rw [if_pos last, if_pos (show (shelfOf p s).2.1.getD 0 - 1 = 0 from last), expireShelve, if_pos shelved, resumePoint_shelf]
      rfl
    · rw [if_neg last, if_neg (show ¬(shelfOf p s).2.1.getD 0 - 1 = 0 from last), shelfOf, onPoint_points_same, shelved]
      rfl
  · rw [if_neg shelved, if_neg (show ¬(shelfOf p s).1 = .shelved from shelved)]

theorem minuteEvent_shelf (p : Point) (s : State) : shelfOf p (minuteEvent s) = minuteTaken (shelfOf p s) := by
  refine forEach_at (g := shelfOf p) (fun _ => True) (List.nodup_finRange 96) (List.mem_finRange p) (fun _ _ _ => trivial)
    (fun q t _ ne => ?_) (fun t _ => minuteAt_shelf p t) trivial
  unfold shelfOf
  rw [minuteAt_points_other t (Ne.symm ne)]

/-! ## The clock (R133 to R135) -/

/-- R135: the boundaries of the day, counted from the start of the first shift. -/
theorem isBoundaryMinute_iff {start length minute : Nat} (minutes : minute < 1440)
    (legal : length ∈ [240, 360, 480, 720]) :
    isBoundaryMinute start length minute = true ↔ ∃ k : Fin 6, (start + k.val * length) % 1440 = minute := by
  simp only [List.mem_cons, List.not_mem_nil, or_false] at legal
  simp only [isBoundaryMinute, decide_eq_true_eq, Fin.exists_iff]
  refine ⟨fun h => ?_, fun ⟨k, six, h⟩ => ?_⟩
  · refine ⟨(minute + 1440 - start % 1440) % 1440 / length, ?_, ?_⟩
    · rcases legal with rfl | rfl | rfl | rfl <;> omega
    · rcases legal with rfl | rfl | rfl | rfl <;> omega
  · rcases legal with rfl | rfl | rfl | rfl <;> omega

/-- The state of a second's expiry before its minute is counted. -/
def secondCounted (s : State) : State :=
  let t := s.onShift Shift.ticked
  if boundaryTest t then closeShift .boundary t else t

theorem secondExpires_eq {s : State} (timed : s.shift.secondTimer.isSome = true) : secondExpires s =
    if (secondCounted s).shift.seconds % 60 = 0 then minuteEvent (secondCounted s) else secondCounted s := if_pos timed

theorem boundaryTest_iff {s : State} (inDay : s.shift.seconds ≤ 86399)
    (legal : s.live.shiftLength ∈ [240, 360, 480, 720]) : boundaryTest s = true ↔ s.shift.isSet = true
      ∧ ∃ k : Fin 6, 60 * ((s.live.shiftStart + k.val * s.live.shiftLength) % 1440) = s.shift.seconds := by
  have minute : s.shift.seconds / 60 < 1440 := by omega
  simp only [boundaryTest, Bool.and_eq_true, decide_eq_true_eq, isBoundaryMinute_iff minute legal]
  refine ⟨fun ⟨⟨isSet, whole⟩, k, h⟩ => ⟨isSet, k, by omega⟩, fun ⟨isSet, k, h⟩ => ⟨⟨isSet, by omega⟩, k, by omega⟩⟩

theorem secondCounted_clock (s : State) : (secondCounted s).shift.seconds = (s.onShift Shift.ticked).shift.seconds
    ∧ (secondCounted s).shift.day = (s.onShift Shift.ticked).shift.day
    ∧ (secondCounted s).shift.isSet = s.shift.isSet ∧ (secondCounted s).shift.secondTimer = some 1000
    ∧ (secondCounted s).shift.transfer = s.shift.transfer := by
  unfold secondCounted
  dsimp only
  split
  · rw [closeShift_shift]
    exact ⟨rfl, rfl, rfl, rfl, rfl⟩
  · exact ⟨rfl, rfl, rfl, rfl, rfl⟩

theorem secondCounted_shelf (p : Point) (s : State) : shelfOf p (secondCounted s) = shelfOf p s := by
  unfold secondCounted
  dsimp only
  split
  · have record : (closeShift .boundary (s.onShift Shift.ticked)).alarm.points[p] = { s.alarm.points[p] with count := 0 } :=
      Vector.getElem_map _ _
    rw [shelfOf, record]
    rfl
  · rfl

theorem secondCounted_touches (s : State) : Touches [.shift, .alarm] s (secondCounted s) :=
  have ticked := (onShift_touches Shift.ticked s).mono (m := [.shift, .alarm])
  .ite (ticked.trans (closeShift_touches _ _)) ticked

theorem secondExpires_alarmTotals {s : State} (timed : s.shift.secondTimer.isSome = true) :
    AlarmTotals (secondCounted s) (secondExpires s) := by
  rw [secondExpires_eq timed]
  exact .ite (minuteEvent_alarmTotals _) (.of_shift rfl)

/-- Settles O36: the second, the boundary that it may reach, and the minute that it may complete. -/
theorem shiftClockObligation : Obligations.ShiftClock := by
  refine ⟨fun s run timed low within => ?_, fun s run timed _ legal => ?_, fun seconds day s run => ⟨fun low lowDay => ?_,
    fun out => exec_answers (a := plain .range) run rfl (if_neg (by omega))⟩⟩
  · have next : (s.onShift Shift.ticked).shift.seconds = s.shift.seconds + 1 := if_neg (by omega)
    have noBoundary : boundaryTest (s.onShift Shift.ticked) = false := by
      simp only [boundaryTest, next, within, decide_false, Bool.and_false, Bool.false_and]
    have counted : secondCounted s = s.onShift Shift.ticked := if_neg (by rw [noBoundary]; exact Bool.false_ne_true)
    refine congrArg Host.Outcome.next ((if_pos run).trans ((secondExpires_eq timed).trans ?_))
    rw [counted, if_neg (by rw [next]; exact within)]
    simp only [State.onShift, Shift.ticked, if_neg (show ¬86399 ≤ s.shift.seconds by omega)]
    rfl
  · have same := secondExpires_alarmTotals timed
    have moment : (s.onShift Shift.ticked).shift.seconds = if 86399 ≤ s.shift.seconds then 0 else s.shift.seconds + 1 := rfl
    have inDay : (s.onShift Shift.ticked).shift.seconds ≤ 86399 := by rw [moment]; split <;> omega
    have reached := boundaryTest_iff (s := s.onShift Shift.ticked) inDay legal
    obtain ⟨seconds, day, isSet, timer, transfer⟩ := secondCounted_clock s
    have frame : Touches [.shift, .alarm] s (secondExpires s) := by
      rw [secondExpires_eq timed]
      exact .ite ((secondCounted_touches s).trans (minuteEvent_touches _).mono) (secondCounted_touches s)
    refine ⟨_, congrArg Host.Outcome.next (if_pos run), ?_, ?_, ?_, ?_, fun boundary => ?_, fun noBoundary => ?_,
      fun whole p n shelved shelve => ?_, ?_, frame⟩
    · rw [same]; exact seconds
    · rw [same]; exact timer
    · rw [same]; exact isSet
    · rw [same]; exact day
    · have closed : secondCounted s = closeShift .boundary (s.onShift Shift.ticked) := if_pos (reached.mpr boundary)
      have shift := closeShift_shift .boundary (s.onShift Shift.ticked)
      rw [← closed] at shift
      have clock : shiftClock (s.onShift Shift.ticked)
          = ⟨(s.onShift Shift.ticked).shift.seconds, (secondCounted s).shift.day, true⟩ := by
        rw [day, ← show (s.onShift Shift.ticked).shift.isSet = true from boundary.1]
        rfl
      rw [same]
      refine ⟨congrArg Shift.shiftSeconds shift, congrArg Shift.unopened shift, (congrArg Shift.startClock shift).trans clock, ?_⟩
      refine (congrArg (fun x : Shift => x.ring.getLast?.map fun r => (r.seq, r.reason, r.duration)) shift).trans ?_
      dsimp only
      rw [ringAdd_last]
      rfl
    · have counted : secondCounted s = s.onShift Shift.ticked := if_neg (reached.not.mpr noBoundary)
      rw [same, counted]
      exact ⟨rfl, rfl, rfl, rfl, rfl⟩
    · have event : secondExpires s = minuteEvent (secondCounted s) :=
        (secondExpires_eq timed).trans (if_pos (by rw [seconds]; exact whole))
      have taken : shelfOf p (secondExpires s) = minuteTaken (.shelved, some n, s.alarm.points[p].cond) := by
        rw [event, minuteEvent_shelf, secondCounted_shelf, shelfOf, shelved, shelve]
      refine ⟨fun more => ?_, fun last => ?_⟩
      · have left : shelfOf p (secondExpires s) = (.shelved, some (n - 1), s.alarm.points[p].cond) :=
          taken.trans ((if_pos rfl).trans (if_neg (by simp only [Option.getD_some]; omega)))
        exact ⟨congrArg Prod.fst left, congrArg (fun x => x.2.1) left⟩
      · have left : shelfOf p (secondExpires s)
            = (if s.alarm.points[p].cond then .activeUnack else .normal, none, s.alarm.points[p].cond) :=
          taken.trans ((if_pos rfl).trans (if_pos (by simp only [Option.getD_some]; omega)))
        exact ⟨congrArg (fun x => x.2.1) left, congrArg Prod.fst left⟩
    · rw [same]; exact transfer
  · exact exec_answers (a := done (clockBytes ⟨seconds, day, true⟩)) run rfl (if_pos ⟨low, lowDay⟩)

end Sys2Proof.Machine
end

section
/-! PROOFS. Report records and transfers (R142 to R147, R177). -/

namespace Sys2Proof.Machine

-- One proof at a time: proofs that wait for one another hold a thread each, and the threads' memory is bounded.
set_option Elab.async false

/-! ## Records (R142, R143, R145, R177) -/

theorem vector_toList {α : Type} {n : Nat} (v : Vector α n) : v.toList = (List.finRange n).map fun i => v[i] := by
  refine List.ext_getElem (by simp) fun i _ _ => by simp

theorem presentBits_eq (t : Totals) : presenceMask t = presentBits t := by
  rw [presenceMask, presentBits, vector_toList, List.map_map]
  have bit (c : Channel) : (if t.chans[c].mark then 2 ^ c.val else 0) = 2 ^ c.val * markCode t.chans[c].mark := by
    unfold markCode
    split <;> simp
  simp only [bit]
  have six : List.finRange 6 = [0, 1, 2, 3, 4, 5] := rfl
  rw [six]
  simp only [List.map_cons, List.map_nil, Function.comp_apply, bits, List.foldr_cons, List.foldr_nil, List.sum_cons, List.sum_nil]
  show markCode t.chans[(0 : Channel)].mark + 2 * _ = 2 ^ 0 * markCode t.chans[(0 : Channel)].mark
    + (2 ^ 1 * markCode t.chans[(1 : Channel)].mark + (2 ^ 2 * markCode t.chans[(2 : Channel)].mark
    + (2 ^ 3 * markCode t.chans[(3 : Channel)].mark + (2 ^ 4 * markCode t.chans[(4 : Channel)].mark
    + (2 ^ 5 * markCode t.chans[(5 : Channel)].mark + 0)))))
  omega

theorem reportHeat_eq (t : Totals) : specificHeat t = reportHeat t := by
  unfold specificHeat reportHeat
  by_cases none : t.clinker = 0
  · rw [if_neg (by omega), if_pos none]
  · rw [if_pos (by omega), if_neg none]
    rfl

theorem header_eq (r : Report) (form : Form) (fallback heat : Bool) (older : Option Nat) :
    header r form fallback heat older = recordHead r form fallback heat older := by
  have flags : bits [fallback, heat] = (if fallback then 1 else 0) + if heat then 2 else 0 := by
    cases fallback <;> cases heat <;> rfl
  have clocks : ([r.startClock, r.endClock].flatMap fun x => be 4 x.seconds ++ be 2 x.day ++ be 1 (if x.isSet then 1 else 0))
      = clockBytes r.startClock ++ clockBytes r.endClock := by
    simp only [List.flatMap_cons, List.flatMap_nil, List.append_nil]
    rfl
  unfold header recordHead
  rw [flags, clocks, presentBits_eq]
  cases older <;> simp only [beOr1, ones, List.append_assoc]

theorem groupFields_eq (t : Totals) : groupFields t = fieldsOfReport [] t := by
  have three : t.strokes.toList = [t.strokes[0], t.strokes[1], t.strokes[2]] := vector_toList t.strokes
  have four : t.prio.toList = [t.prio[0], t.prio[1], t.prio[2], t.prio[3]] := vector_toList t.prio
  rw [groupFields, three, four]
  rfl

theorem fieldsOfReport_append (covered : List Channel) (t : Totals) : fieldsOfReport covered t
    = (covered.flatMap fun c => fieldsOfChannel (if t.chans[c].mark then t.chans[c] else {})) ++ fieldsOfReport [] t := rfl

theorem recordFields_eq (covered : List Channel) (t : Totals) : recordFields covered t = fieldsOfReport covered t := by
  rw [recordFields, groupFields_eq, fieldsOfReport_append]
  rfl

theorem recordHead_length (r : Report) (form : Form) (fallback heat : Bool) (older : Option Nat) :
    (recordHead r form fallback heat older).length = 30 := by
  cases older <;> simp [recordHead, be_length]

theorem fullRecord_eq (r : Report) (fallback : Bool) : fullRecord r fallback =
    recordHead r .full fallback (reportHeat r.totals).isSome none
    ++ (((List.finRange 6).filter fun c => r.totals.chans[c].mark).flatMap fun c => be 1 (c.val + 1)
        ++ (fieldsOfChannel r.totals.chans[c]).flatMap fun x => be x.1 x.2)
    ++ ((fieldsOfReport [] r.totals).flatMap fun x => be x.1 x.2)
    ++ (match reportHeat r.totals with | none => [] | some h => be 4 h) := by
  rw [fullRecord, header_eq, reportHeat_eq, groupFields_eq]
  rfl

theorem fullRecord_length (r : Report) (fallback : Bool) : (fullRecord r fallback).length
    = 149 + 25 * ((List.finRange 6).filter fun c => r.totals.chans[c].mark).length + (if 0 < r.totals.clinker then 4 else 0) := by
  have channels (l : List Channel) : (l.flatMap fun c => be 1 (c.val + 1)
        ++ (fieldsOfChannel r.totals.chans[c]).flatMap fun x => be x.1 x.2).length = 25 * l.length := by
    induction l with
    | nil => rfl
    | cons c l ih =>
      rw [List.flatMap_cons, List.length_append, ih]
      simp only [fieldsOfChannel, List.flatMap_cons, List.flatMap_nil, List.length_append, be_length, List.length_nil,
        List.length_cons]
      omega
  have groups : ((fieldsOfReport [] r.totals).flatMap fun x => be x.1 x.2).length = 119 := by
    simp [fieldsOfReport, be_length]
  have heat : (match reportHeat r.totals with | none => [] | some h => be 4 h).length = if 0 < r.totals.clinker then 4 else 0 := by
    unfold reportHeat
    by_cases none : r.totals.clinker = 0
    · simp [none]
    · rw [if_neg none, if_pos (by omega)]
      exact be_length _ _
  rw [fullRecord_eq]
  simp only [List.length_append, recordHead_length, channels, groups, heat]
  omega

/-- R177: the bit of a mark, in a byte of eight. -/
theorem packed_bit (f : Nat → Bool) (i : Nat) (h : i < 8) :
    (BitVec.ofNat 8 (((List.range 8).map fun j => if f j then 2 ^ (7 - j) else 0).sum)).getLsbD (7 - i) = f i := by
  have all : ∀ a0 a1 a2 a3 a4 a5 a6 a7 : Bool, ∀ i : Fin 8,
      (BitVec.ofNat 8 ((((List.range 8).map fun j => if [a0, a1, a2, a3, a4, a5, a6, a7].getD j false then 2 ^ (7 - j) else 0)).sum)).getLsbD
        (7 - i.val) = [a0, a1, a2, a3, a4, a5, a6, a7].getD i.val false := by decide +kernel
  have this := all (f 0) (f 1) (f 2) (f 3) (f 4) (f 5) (f 6) (f 7) ⟨i, h⟩
  have value : [f 0, f 1, f 2, f 3, f 4, f 5, f 6, f 7].getD i false = f i := by
    rcases i with _ | _ | _ | _ | _ | _ | _ | _ | i <;> first | rfl | omega
  exact this.trans value

theorem packMarks_length (l : List Bool) : (packMarks l).length = (l.length + 7) / 8 := by simp [packMarks]

theorem packMarks_bit {l : List Bool} {k : Nat} (h : k < 8 * ((l.length + 7) / 8)) :
    ((packMarks l).getD (k / 8) 0#8).getLsbD (7 - k % 8) = l.getD k false := by
  have inside : k / 8 < (packMarks l).length := by rw [packMarks_length]; omega
  have byte : (packMarks l).getD (k / 8) 0#8 = BitVec.ofNat 8
      (((List.range 8).map fun j => if (l[8 * (k / 8) + j]?).getD false then 2 ^ (7 - j) else 0).sum) := by
    rw [List.getD_eq_getElem _ _ inside]
    simp [packMarks]
  rw [byte, packed_bit (fun j => (l[8 * (k / 8) + j]?).getD false) (k % 8) (by omega), Nat.div_add_mod]
  rfl

theorem heatMark_bytes (a b : Option Nat) : (if heatDiffers a b then be 4 (a.getD 0) else [])
    = if a = b then [] else match a with | none => [] | some h => be 4 h := by
  unfold heatDiffers
  by_cases same : a = b
  · simp [same]
  · cases a <;> simp [same]

/-- The bytes of a DELTA record before its marks. -/
def deltaHead (r o : Report) : List Byte :=
  recordHead r .delta false (reportHeat r.totals).isSome (some o.seq) ++ be 1 (presentBits o.totals)

/-- The pairs of fields that DELTA and COMPARE set side by side. -/
def comparedFields (r o : Report) : List ((Nat × Nat) × (Nat × Nat)) :=
  (fieldsOfReport ((List.finRange 6).filter fun c => r.totals.chans[c].mark || o.totals.chans[c].mark) r.totals).zip
    (fieldsOfReport ((List.finRange 6).filter fun c => r.totals.chans[c].mark || o.totals.chans[c].mark) o.totals)

/-- The marks of a DELTA record. -/
def deltaMarks (r o : Report) : List Bool :=
  ((comparedFields r o).map fun x => decide (x.1.2 ≠ x.2.2))
  ++ [(reportHeat r.totals).isSome && decide (reportHeat r.totals ≠ reportHeat o.totals)]

theorem deltaRecord_eq (r o : Report) : deltaRecord r o = deltaHead r o ++ packMarks (deltaMarks r o)
    ++ (((comparedFields r o).filter fun x => decide (x.1.2 ≠ x.2.2)).flatMap fun x => be x.1.1 x.1.2)
    ++ (if reportHeat r.totals = reportHeat o.totals then [] else
        match reportHeat r.totals with | none => [] | some h => be 4 h) := by
  have fields (l : List (RecField × RecField)) : fieldBytes (l.map Prod.fst) = l.flatMap fun x => be x.1.1 x.1.2 := by
    rw [fieldBytes, List.flatMap_map]
  unfold deltaRecord
  dsimp only
  rw [header_eq, presentBits_eq, fields, heatMark_bytes, recordFields_eq, recordFields_eq, reportHeat_eq, reportHeat_eq]
  rfl

theorem deltaHead_length (r o : Report) : (deltaHead r o).length = 31 := by
  rw [deltaHead, List.length_append, recordHead_length, be_length]

theorem comparedFields_length (r o : Report) : (comparedFields r o).length ≤ 48 := by
  have channels (t : Totals) (l : List Channel) :
      (l.flatMap fun c => fieldsOfChannel (if t.chans[c].mark then t.chans[c] else {})).length = 4 * l.length := by
    induction l with
    | nil => rfl
    | cons c l ih =>
      rw [List.flatMap_cons, List.length_append, ih]
      simp only [fieldsOfChannel, List.length_cons, List.length_nil]
      omega
  have covered (p : Channel → Bool) : ((List.finRange 6).filter p).length ≤ 6 := (List.length_filter_le _ _).trans (by simp)
  have groups : (fieldsOfReport [] r.totals).length = 24 := rfl
  refine (List.length_zip ▸ Nat.min_le_left _ _ : (comparedFields r o).length ≤ _).trans ?_
  rw [fieldsOfReport_append, List.length_append, channels, groups]
  exact Nat.add_le_add_right (Nat.mul_le_mul_left 4 (covered _)) 24

theorem clampInt_eq (lo hi v : Int) (h : lo ≤ hi) : clampInt lo hi v = max lo (min hi v) := by
  unfold clampInt
  split_ifs <;> omega

theorem compareRecord_eq (r o : Report) : compareRecord r o =
    recordHead r .compare false ((reportHeat r.totals).isSome && (reportHeat o.totals).isSome) (some o.seq)
    ++ be 1 (presentBits o.totals)
    ++ ((comparedFields r o).flatMap fun x =>
        beS 8 (max (-9223372036854775808) (min 9223372036854775807 ((x.1.2 : Int) - x.2.2))))
    ++ (match reportHeat r.totals, reportHeat o.totals with
        | some a, some b => beS 8 (max (-9223372036854775808) (min 9223372036854775807 ((a : Int) - b)))
        | _, _ => []) := by
  have signed (a b : Nat) : difference a b
      = beS 8 (max (-9223372036854775808) (min 9223372036854775807 ((a : Int) - b))) := by
    rw [difference, clampInt_eq _ _ _ (by decide)]
  unfold compareRecord
  dsimp only
  rw [header_eq, presentBits_eq, recordFields_eq, recordFields_eq, reportHeat_eq, reportHeat_eq]
  simp only [signed]
  cases reportHeat r.totals <;> cases reportHeat o.totals <;> simp only [heatDifference, signed] <;> rfl

/-- R145: the mask of a DELTA record is its marks, packed. -/
theorem deltaRecord_mask (r o : Report) :
    ((deltaRecord r o).drop 31).take (((deltaMarks r o).length + 7) / 8) = packMarks (deltaMarks r o) := by
  rw [deltaRecord_eq, List.append_assoc, List.append_assoc, List.drop_left' (deltaHead_length r o),
    List.take_left' (packMarks_length _)]

/-! ## Transfers (R144, R146) -/

/-- The transfer that REPORT OPEN sets up from a report, the one before it and the form asked. -/
def transferOf (closed : Bool) (r : Report) (older : Option Report) (form : Nat) : Transfer :=
  { closed := closed, seq := r.seq
    form := if older = none then .full else if form = 0 then .full else if form = 1 then .delta else .compare
    fallback := decide (older = none ∧ form ≠ 0)
    older := if form = 0 then none else older.map Report.seq
    record := match older with
      | none => fullRecord r (decide (form ≠ 0))
      | some o => if form = 0 then fullRecord r false else if form = 1 then deltaRecord r o else compareRecord r o }

theorem formOf_some {form : Nat} (h : form ≤ 2) : ∃ f, formOf form = some f ∧
    ∀ closed r older, composeTransfer closed r older f = transferOf closed r older form := by
  have three : form = 0 ∨ form = 1 ∨ form = 2 := by omega
  rcases three with rfl | rfl | rfl
  · exact ⟨_, rfl, fun _ _ older => by cases older <;> rfl⟩
  · exact ⟨_, rfl, fun _ _ older => by cases older <;> rfl⟩
  · exact ⟨_, rfl, fun _ _ older => by cases older <;> rfl⟩

theorem formOf_none {form : Nat} (h : 2 < form) : formOf form = none := by
  rw [formOf, if_neg (by omega), if_neg (by omega), if_neg (by omega)]

theorem openReply_eq (x : Transfer) : openReply x =
    be 4 x.seq ++ be 1 x.form.code ++ be 1 (if x.fallback then 0 else 1)
    ++ (match x.older with | none => List.replicate 4 255#8 | some n => be 4 n)
    ++ be 2 x.record.length ++ be 1 ((x.record.length + 99) / 100) := by
  cases h : x.older <;> simp only [openReply, h, beOr1, ones] <;> rfl

theorem reportOpen_running {form : Nat} (s : State) (known : form ≤ 2) : reportOpen 16 form s =
    (openTransfer (transferOf (decide (16 ≠ 16)) (runningReport .running s) s.shift.ring.reverse[0]? form) (decide (16 = 0)) s,
      done (openReply (transferOf (decide (16 ≠ 16)) (runningReport .running s) s.shift.ring.reverse[0]? form))) := by
  obtain ⟨f, found, composed⟩ := formOf_some known
  simp only [reportOpen, found, if_true, composed, ringAt]
  rfl

theorem reportOpen_closed {source form : Nat} {r : Report} (s : State) (known : form ≤ 2) (place : source ≤ 3)
    (held : s.shift.ring.reverse[source]? = some r) : reportOpen source form s =
    (openTransfer (transferOf (decide (source ≠ 16)) r s.shift.ring.reverse[source + 1]? form) (decide (source = 0)) s,
      done (openReply (transferOf (decide (source ≠ 16)) r s.shift.ring.reverse[source + 1]? form))) := by
  obtain ⟨f, found, composed⟩ := formOf_some known
  have closed : decide (source ≠ 16) = true := decide_eq_true (by omega)
  simp only [reportOpen, found, if_neg (by omega : ¬source = 16), if_pos place, ringAt, held, composed, closed]

theorem reportOpen_range {source form : Nat} (s : State)
    (h : 2 < form ∨ (3 < source ∧ source ≠ 16) ∨ (source ≤ 3 ∧ s.shift.ring.length ≤ source)) :
    reportOpen source form s = (s, plain .range) := by
  by_cases known : form ≤ 2
  · obtain ⟨f, found, -⟩ := formOf_some known
    rcases h with unknown | ⟨beyond, other⟩ | ⟨place, outside⟩
    · omega
    · simp only [reportOpen, found, if_neg other, if_neg (by omega : ¬source ≤ 3)]
    · have none : s.shift.ring.reverse[source]? = none := List.getElem?_eq_none (by rw [List.length_reverse]; exact outside)
      simp only [reportOpen, found, if_neg (by omega : ¬source = 16), if_pos place, ringAt, none]
  · simp only [reportOpen, formOf_none (by omega : 2 < form)]

/-- A transfer's source can still be read: RUNNING, or a closed report that is in the ring. -/
theorem transfer_gone_iff (x : Transfer) (s : State) :
    (x.closed && !s.shift.ring.any fun r => decide (r.seq = x.seq)) = true
      ↔ ¬(x.closed = false ∨ ∃ r ∈ s.shift.ring, r.seq = x.seq) := by
  simp [not_or]

/-- REPORT OPEN of a source that is held opens the transfer of its record and answers it. -/
theorem opened_of_service {source form : Nat} {x : Transfer} {s : State} (run : s.phase = .running)
    (service : reportOpen source form s = (openTransfer x (decide (source = 0)) s, done (openReply x))) :
    ∃ t, exec (.reportOpen source form) s = .next t
      ∧ t.shift = { s.shift with unopened := s.shift.unopened && decide (source ≠ 0), transfer := some x }
      ∧ t.answer.map (fun a => (a.status, a.reason, a.data)) = some (.done, none,
          be 4 x.seq ++ be 1 x.form.code ++ be 1 (if x.fallback then 0 else 1)
          ++ (match x.older with | none => List.replicate 4 255#8 | some n => be 4 n)
          ++ be 2 x.record.length ++ be 1 ((x.record.length + 99) / 100))
      ∧ Touches [.shift, .answer] s t := by
  refine ⟨_, exec_answers run rfl service, ?_, ?_, Touches.answering (l := [.shift]) (onShift_touches _ s)⟩
  · rw [decide_not]
    rfl
  · exact congrArg (fun d => some (Status.done, (none : Option Reason), d)) (openReply_eq x)

/-- Settles O38: the records' bytes as the layouts spell them, and REPORT OPEN and REPORT PART by the source they name. -/
theorem reportTransfer : Obligations.ReportTransfer := by
  refine ⟨fun r fallback => ⟨fullRecord_eq r fallback, fullRecord_length r fallback⟩, fun r o => ?_,
    fun source form s run known => ⟨?_, fun r held place => ?_⟩, fun source form s run h => ?_, fun k s run => ⟨fun none => ?_, fun x opened => ?_⟩⟩
  · have mask := deltaRecord_mask r o
    refine ⟨?_, ?_, fun k inside => ?_, compareRecord_eq r o⟩
    · refine (deltaRecord_eq r o).trans ?_
      rw [← mask]
      rfl
    · exact (congrArg List.length mask).trans (packMarks_length _)
    · exact (congrArg (fun l => (l.getD (k.val / 8) 0#8).getLsbD (7 - k.val % 8)) mask).trans (packMarks_bit inside)
  · rintro rfl
    exact opened_of_service run (reportOpen_running s known)
  · exact opened_of_service run (reportOpen_closed s known place held)
  · exact exec_answers run rfl (reportOpen_range s h)
  · exact exec_answers run rfl (a := plain .noTransfer) (by simp only [reportPart, none])
  · refine ⟨fun gone => ?_, fun held outside => ?_, fun held first last => ?_⟩
    · refine exec_answers run rfl (a := plain .gone) ?_
      simp only [reportPart, opened]
      exact if_pos ((transfer_gone_iff x s).2 gone)
    · refine exec_answers run rfl (a := plain .range) ?_
      simp only [reportPart, opened]
      exact (if_neg (mt (transfer_gone_iff x s).1 (not_not_intro held))).trans (if_pos outside)
    · refine exec_answers (a := done (be 1 k ++ be 1 (partCount x.record) ++ (x.record.drop (100 * (k - 1))).take 100)) run rfl ?_
      simp only [reportPart, opened]
      refine (if_neg (mt (transfer_gone_iff x s).1 (not_not_intro held))).trans (if_neg ?_)
      unfold partCount
      omega

end Sys2Proof.Machine
end

section
/-! PROOFS. Supervision, FALLBACK and STANDBY (R151, R152, R154, R155). -/

namespace Sys2Proof.Machine

-- One proof at a time: proofs that wait for one another hold a thread each, and the threads' memory is bounded.
set_option Elab.async false

/-- A part that has stayed as it was need not be named. -/
theorem Touches.without {l m : List Part} {p : Part} {s t : State} (h : Touches l s t) (same : SameAt s t p)
    (named : ∀ q ∈ l, q = p ∨ q ∈ m := by decide) : Touches m s t := fun q out => by
  by_cases here : q = p
  · exact here ▸ same
  · exact h q fun inside => (named q inside).elim here out

/-- A report at a point without a trip target hands nothing. -/
theorem reportCond_touches_untripped (p : Point) (present : Bool) (s : State) (untripped : tripsOf p s = []) :
    Touches [.alarm, .shift] s (reportCond p present s) := by
  refine (reportCond_touches p present s).without (p := .handed) ?_
  refine (handed_of_reportCond p present s).trans ?_
  rw [untripped, ite_self, List.append_nil]

/-! ## The loops over channels, burners and sections -/

section
variable (s : State)

theorem onChan_chans_same (c : Channel) (f : Chan → Chan) : (s.onChan c f).chans[c] = f s.chans[c]  := upd_same s.chans c f

theorem onChan_chans_other {c d : Channel} (f : Chan → Chan) (ne : d ≠ c) : (s.onChan c f).chans[d] = s.chans[d] :=
  upd_other s.chans f (Ne.symm ne)

theorem abortStage_same (c : Channel) (reason : CalReason) : (abortStage c reason s).chans[c]
    = if s.chans[c].state = .calib then stageAborted reason s.chans[c] else s.chans[c] := by
  unfold abortStage
  split
  · exact onChan_chans_same s c _
  · rfl

theorem abortStage_other {c d : Channel} (reason : CalReason) (ne : d ≠ c) : (abortStage c reason s).chans[d] = s.chans[d] := by
  unfold abortStage
  split
  · exact onChan_chans_other s _ ne
  · rfl

theorem abortStages_chans (reason : CalReason) (c : Channel) : (abortStages reason s).chans[c]
    = if s.chans[c].state = .calib then stageAborted reason s.chans[c] else s.chans[c] :=
  forEach_at (g := fun t : State => t.chans[c]) (F := fun x => if x.state = .calib then stageAborted reason x else x)
    (fun _ => True) (List.nodup_finRange 6) (List.mem_finRange c) (fun _ _ _ => trivial)
    (fun _ t _ ne => abortStage_other t reason (Ne.symm ne)) (fun t _ => abortStage_same t c reason) trivial

theorem channelsToOut_chans (c : Channel) : (channelsToOut s).chans[c]
    = if s.chans[c].state = .idle then { s.chans[c] with state := .out, u := 0 } else s.chans[c] :=
  forEach_at (g := fun t : State => t.chans[c]) (F := fun x => if x.state = .idle then { x with state := .out, u := 0 } else x)
    (fun _ => True) (List.nodup_finRange 6) (List.mem_finRange c) (fun _ _ _ => trivial)
    (fun a t _ ne => by
      split
      · exact onChan_chans_other t _ (Ne.symm ne)
      · rfl)
    (fun t _ => by
      split
      · exact onChan_chans_same t c _
      · rfl) trivial

theorem stopGrates_at (g : Grate) : (stopGrates s).cooler.grates[g] = s.cooler.grates[g].stopped :=
  forEach_at (g := fun t : State => t.cooler.grates[g]) (F := GrateRec.stopped) (fun _ => True) (List.nodup_finRange 3)
    (List.mem_finRange g) (fun _ _ _ => trivial) (fun _ t _ ne => onGrate_other _ t (Ne.symm ne))
    (fun t _ => onGrate_same g _ t) trivial

theorem GrateRec.stopped_still (x : GrateRec) : x.stopped.state ≠ .running ∧ x.stopped.state ≠ .single := by
  unfold GrateRec.stopped
  split <;> (try split) <;> simp_all

/-- R102: what the entry to STANDBY makes of a fan. -/
def FanRec.standingBy (standby : Nat) (x : FanRec) : FanRec :=
  if x.on then { x with damper := standby, failCount := 0, failCond := false } else x

theorem fanToStandby_cooler (f : Fan) : (fanToStandby f s).cooler = (s.onFan f (FanRec.standingBy s.live.fans[f].standby)).cooler := by
  unfold fanToStandby
  dsimp only
  by_cases on : s.cooler.fans[f].on = true
  · have stood : s.onFan f (FanRec.standingBy s.live.fans[f].standby)
        = s.onFan f fun x => { x with damper := s.live.fans[f].standby, failCount := 0, failCond := false } :=
      onFan_congr s (if_pos on)
    rw [if_pos on, stood]
    split
    · exact reportCond_touches (fanPoint f) false _ .cooler (by decide)
    · rfl
  · rw [if_neg on]
    refine congrArg (fun v => { s.cooler with fans := v }) (Eq.symm (upd_eq_self s.cooler.fans f _ (if_neg on)))

theorem fanToStandby_touches (f : Fan) : Touches [.cooler, .alarm, .shift, .handed] s (fanToStandby f s) := by
  unfold fanToStandby
  dsimp only
  exact .ite (.ite ((onFan_touches f _ s).mono.trans (reportCond_touches (fanPoint f) false _).mono) (onFan_touches f _ s).mono)
    (.refl _ s)

theorem onFan_grates (f : Fan) (h : FanRec → FanRec) : (s.onFan f h).cooler.grates = s.cooler.grates := rfl

theorem fanToStandby_fan_other {f n : Fan} (ne : n ≠ f) : (fanToStandby f s).cooler.fans[n] = s.cooler.fans[n] := by
  rw [fanToStandby_cooler]
  exact onFan_other _ s ne

theorem fanToStandby_fan_same (f : Fan) :
    (fanToStandby f s).cooler.fans[f] = s.cooler.fans[f].standingBy s.live.fans[f].standby := by
  rw [fanToStandby_cooler]
  exact onFan_same f _ s

theorem fanToStandby_grates (f : Fan) : (fanToStandby f s).cooler.grates = s.cooler.grates := by
  rw [fanToStandby_cooler]
  exact onFan_grates s f _

theorem fansToStandby_fan {l : List (Fin 8)} {f : Fan} (once : l.Nodup) (mem : f ∈ l) :
    (forEach l fanToStandby s).cooler.fans[f] = s.cooler.fans[f].standingBy s.live.fans[f].standby :=
  forEach_at (f := fanToStandby) (g := fun t : State => t.cooler.fans[f]) (F := FanRec.standingBy s.live.fans[f].standby)
    (fun t => t.store = s.store) once mem
    (fun n t h => (fanToStandby_touches t n .store (by decide)).trans h)
    (fun _ t _ ne => fanToStandby_fan_other t (Ne.symm ne))
    (fun t h => (fanToStandby_fan_same t f).trans
      (congrArg (fun x : Store => t.cooler.fans[f].standingBy x.live.fans[f].standby) h)) rfl

theorem fansToStandby_grates (l : List (Fin 8)) : (forEach l fanToStandby s).cooler.grates = s.cooler.grates :=
  forEach_keeps (f := fanToStandby) (g := fun t : State => t.cooler.grates) (fun f t => fanToStandby_grates t f) l s

end

/-! ## FALLBACK (R151, R152) -/

/-- Each demand is rewritten by its burner. -/
def Planner.requested (p : Planner) (f : Burner → Demand → Demand) : Planner :=
  { p with demand := { main := f .main p.demand.main, calciner := f .calciner p.demand.calciner } }

theorem Planner.requested_get (p : Planner) (f : Burner → Demand → Demand) (b : Burner) :
    (p.requested f).demand.get b = f b (p.demand.get b) := by cases b <;> rfl

/-- R152: the floor in FALLBACK with the demands frozen, before the stages are aborted. -/
def demandsFrozen (s : State) : State :=
  (s.onFloor fun x => { x with mode := .fallback, stage := some .frozen }).onPlanner fun p =>
    p.requested fun _ d => { d with hReq := d.hApp }

theorem enterFallback_eq (s : State) : enterFallback s = (abortStages .linkLost (demandsFrozen s)).onFloor fun x =>
    { x with grace := some ((abortStages .linkLost (demandsFrozen s)).live.graceTime * 1000) } := rfl

theorem enterFallback_planner (s : State) :
    (enterFallback s).planner = s.planner.requested fun _ d => { d with hReq := d.hApp } := by
  rw [enterFallback_eq, State.onFloor_planner]
  exact abortStages_touches _ (demandsFrozen s) .planner (by decide)

theorem enterFallback_chans (s : State) (c : Channel) : (enterFallback s).chans[c]
    = if s.chans[c].state = .calib then stageAborted .linkLost s.chans[c] else s.chans[c] := by
  rw [enterFallback_eq, State.onFloor_chans]
  exact abortStages_chans (demandsFrozen s) .linkLost c

theorem enterFallback_floor (s : State) : (enterFallback s).floor
    = { s.floor with mode := .fallback, stage := some .frozen, grace := some (s.live.graceTime * 1000) } := by
  have floor : (abortStages .linkLost (demandsFrozen s)).floor = { s.floor with mode := .fallback, stage := some .frozen } :=
    abortStages_touches _ _ .floor (by decide)
  have live : (abortStages .linkLost (demandsFrozen s)).live = s.live :=
    congrArg Store.live (abortStages_touches .linkLost (demandsFrozen s) .store (by decide))
  rw [enterFallback_eq, State.onFloor_floor, floor, live]

theorem linkFoundLost_floor (s : State) : (linkFoundLost s).floor = { s.floor with linkLost := true } :=
  reportCond_touches (pt 81) true _ .floor (by decide)

theorem linkFoundLost_touches (s : State) : Touches [.floor, .alarm, .shift] s (linkFoundLost s) :=
  (onFloor_touches _ s).mono.trans (reportCond_touches_untripped (pt 81) true _ rfl).mono

theorem linkFoundLost_cond (s : State) : (linkFoundLost s).alarm.points[pt 81].cond = true :=
  (cond_of_reportCond (pt 81) (pt 81) true _).trans (if_pos rfl)

theorem linkFoundLost_points_other {p : Point} (s : State) (ne : p ≠ pt 81) :
    (linkFoundLost s).alarm.points[p] = s.alarm.points[p] := reportCond_points_other true _ ne

/-- R151: the state in which an expired supervision timer leaves the link: lost, with point 81. -/
def supervisionLost (s : State) : State := linkFoundLost (s.onFloor fun x => { x with supervision := none })

theorem supervisionLost_touches (s : State) : Touches [.floor, .alarm, .shift] s (supervisionLost s) :=
  (onFloor_touches _ s).mono.trans (linkFoundLost_touches _)

theorem supervisionLost_floor (s : State) : (supervisionLost s).floor = { s.floor with supervision := none, linkLost := true } :=
  linkFoundLost_floor _

theorem supervisionExpires_normal {s : State} (runs : s.floor.supervision.isSome = true) (mode : s.floor.mode = .normal) :
    supervisionExpires s = enterFallback (supervisionLost s) := by
  simp only [supervisionExpires, runs, if_true, State.onFloor_floor, mode]
  rfl

theorem supervisionExpires_asleep {s : State} (runs : s.floor.supervision.isSome = true)
    (mode : s.floor.mode = .standby ∨ s.floor.mode = .settle) : supervisionExpires s = supervisionLost s := by
  rcases mode with mode | mode <;> simp only [supervisionExpires, runs, if_true, State.onFloor_floor, mode] <;> rfl

theorem graceExpires_fallback {s : State} (mode : s.floor.mode = .fallback) (runs : s.floor.grace.isSome = true) :
    graceExpires s = (s.onFloor fun x => { x with stage := some .lowered, grace := none }).onPlanner fun p =>
      p.requested fun b d => { d with hReq := min d.hApp (s.live.burners.get b).fallbackHeat } := by
  rw [graceExpires, if_pos ⟨mode, runs⟩]
  rfl

theorem exec_floorExpiry {f : State → State} {i : Instr} {s u : State} (run : s.phase = .running) (expires : f s = u)
    (command : exec i s = .next (whenRunning f s) := by rfl) : exec i s = .next u :=
  command.trans (congrArg Host.Outcome.next ((if_pos run).trans expires))

/-- Settles O39: what each expiry does to the floor, the demands and the stages. -/
theorem fallbackDemands : Obligations.FallbackDemands := by
  intro s run
  have lost := supervisionLost_touches s
  refine ⟨fun mode runs => ?_, fun mode runs => ?_, fun mode runs => ?_⟩
  · have entered := enterFallback_touches (supervisionLost s)
    have planner : (supervisionLost s).planner = s.planner := lost .planner (by decide)
    have chans : (supervisionLost s).chans = s.chans := lost .chans (by decide)
    have live : (supervisionLost s).live = s.live := congrArg Store.live (lost .store (by decide))
    have points := points_congr (entered .alarm (by decide))
    refine ⟨_, exec_floorExpiry run (supervisionExpires_normal runs mode), ?_, ?_, fun b => ?_, fun c => ?_, ?_, fun p ne => ?_,
      lost.mono.trans entered.mono⟩
    · rw [enterFallback_floor, supervisionLost_floor, live]
    · rw [points]
      exact linkFoundLost_cond _
    · rw [enterFallback_planner, planner, Planner.requested_get]
    · rw [enterFallback_chans, chans]
    · rw [enterFallback_planner, planner, Planner.requested]
    · rw [points]
      exact linkFoundLost_points_other _ ne
  · exact ⟨_, exec_floorExpiry run (supervisionExpires_asleep runs mode), supervisionLost_floor s, linkFoundLost_cond _,
      fun p ne => linkFoundLost_points_other _ ne, lost⟩
  · exact ⟨_, exec_floorExpiry run (graceExpires_fallback mode runs), rfl, fun b => Planner.requested_get _ _ b, rfl,
      (onFloor_touches _ s).mono.trans (onPlanner_touches _ _).mono⟩

/-! ## The entry to STANDBY (R154, R155) -/

theorem enterStandby_accepted {s : State} (awake : s.floor.mode ≠ .standby) (off : ∀ b : Burner, (s.burns.get b).state = .off) :
    enterStandby s = if urgentUnacked s then (s, plain .notEntered) else (enterStandbyMode s, done []) := by
  rw [enterStandby, if_neg awake]
  exact if_neg (not_or.2 ⟨not_not_intro (off .main), not_not_intro (off .calciner)⟩)

theorem enterStandby_lit {s : State} (awake : s.floor.mode ≠ .standby) (lit : ∃ b : Burner, (s.burns.get b).state ≠ .off) :
    enterStandby s = (s, refusedFor .burnerActive) := by
  obtain ⟨b, lit⟩ := lit
  rw [enterStandby, if_neg awake]
  refine if_pos ?_
  cases b
  · exact .inl lit
  · exact .inr lit

/-- R155: the floor in STANDBY with the sections stopping, before the fans move. -/
def standbyStopped (s : State) : State :=
  stopGrates (s.onFloor fun x => { x with mode := .standby, stage := none, grace := none, settle := none })

theorem standbyStopped_touches (s : State) : Touches [.floor, .cooler] s (standbyStopped s) :=
  (onFloor_touches _ s).mono.trans (stopGrates_touches _).mono

/-- The fans and channels of the entry to STANDBY. -/
theorem enterStandbyMode_eq (s : State) :
    enterStandbyMode s = channelsToOut (forEach (List.finRange 8) fanToStandby (standbyStopped s)) := rfl

theorem fansToStandby_touches (l : List (Fin 8)) (s : State) :
    Touches [.cooler, .alarm, .shift, .handed] s (forEach l fanToStandby s) := .each (fun f t => fanToStandby_touches t f) l s

theorem enterStandbyMode_cooler (s : State) :
    (enterStandbyMode s).cooler = (forEach (List.finRange 8) fanToStandby (standbyStopped s)).cooler := by
  rw [enterStandbyMode_eq]
  exact channelsToOut_touches _ .cooler (by decide)

theorem enterStandbyMode_grates (s : State) (g : Grate) : (enterStandbyMode s).cooler.grates[g] = s.cooler.grates[g].stopped := by
  rw [enterStandbyMode_cooler, fansToStandby_grates]
  exact stopGrates_at _ g

theorem stopGrate_fans (g : Grate) (s : State) : (stopGrate g s).cooler.fans = s.cooler.fans := rfl

theorem stopGrates_fans (s : State) : (stopGrates s).cooler.fans = s.cooler.fans :=
  forEach_keeps (f := stopGrate) (g := fun t : State => t.cooler.fans) stopGrate_fans _ s

theorem enterStandbyMode_fans (s : State) (f : Fan) :
    (enterStandbyMode s).cooler.fans[f] = s.cooler.fans[f].standingBy s.live.fans[f].standby := by
  have fans : (standbyStopped s).cooler.fans = s.cooler.fans := stopGrates_fans _
  have live : (standbyStopped s).live = s.live := congrArg Store.live (standbyStopped_touches s .store (by decide))
  rw [enterStandbyMode_cooler, fansToStandby_fan _ (List.nodup_finRange 8) (List.mem_finRange f), fans, live]

theorem enterStandbyMode_chans (s : State) (c : Channel) : (enterStandbyMode s).chans[c]
    = if s.chans[c].state = .idle then { s.chans[c] with state := .out, u := 0 } else s.chans[c] := by
  have chans : (forEach (List.finRange 8) fanToStandby (standbyStopped s)).chans = s.chans :=
    (fansToStandby_touches _ _ .chans (by decide)).trans (standbyStopped_touches s .chans (by decide))
  rw [enterStandbyMode_eq, channelsToOut_chans, chans]

theorem enterStandbyMode_floor (s : State) : (enterStandbyMode s).floor
    = { s.floor with mode := .standby, stage := none, grace := none, settle := none } := by
  rw [enterStandbyMode_eq]
  exact (channelsToOut_touches _ .floor (by decide)).trans ((fansToStandby_touches _ _ .floor (by decide)).trans
    (stopGrates_touches _ .floor (by decide)))

theorem enterStandbyMode_touches (s : State) :
    Touches [.floor, .cooler, .chans, .alarm, .shift, .handed] s (enterStandbyMode s) := by
  rw [enterStandbyMode_eq]
  exact (standbyStopped_touches s).mono.trans ((fansToStandby_touches _ _).mono.trans (channelsToOut_touches _).mono)

/-- Settles O40: the four cases, and in the last what each part of the entry leaves. -/
theorem enterStandbyObligation : Obligations.EnterStandby := by
  refine ⟨fun s run standby => exec_answers (a := done []) run rfl (if_pos standby),
    fun s run awake => ⟨fun off acked => ?_, fun lit => ?_, fun off urgent => ?_⟩⟩
  · have accepted := (enterStandby_accepted awake off).trans (if_neg (by simp [acked]))
    have floor := enterStandbyMode_floor s
    have grates := enterStandbyMode_grates s
    have fans := enterStandbyMode_fans s
    have chans := enterStandbyMode_chans s
    have frame := enterStandbyMode_touches s
    generalize enterStandbyMode s = t at accepted floor grates fans chans frame
    exact ⟨_, exec_answers run rfl accepted, floor, fun g => (grates g) ▸ GrateRec.stopped_still _,
      fun f on => congrArg FanRec.damper ((fans f).trans (if_pos on)), chans, rfl, Touches.answering frame⟩
  · exact exec_answers (a := refusedFor .burnerActive) run rfl (enterStandby_lit awake lit)
  · exact exec_answers (a := plain .notEntered) run rfl ((enterStandby_accepted awake off).trans (if_pos urgent))

end Sys2Proof.Machine
end

section
/-! PROOFS. Arrivals, encoders and forcing (R3 to R18). -/

namespace Sys2Proof.Machine

-- One proof at a time: proofs that wait for one another hold a thread each, and the threads' memory is bounded.
set_option Elab.async false

/-! ## What a hand-over spares -/

/-- The points that no consumer of an input's record reports: the limit points and the points above 80. -/
def InputPoint (p : Point) : Prop := p.val < 44 ∨ 80 ≤ p.val

/-- The record of a point stands and no handed cause is taken back. -/
structure Spares (p : Point) (s t : State) : Prop where
  point : t.alarm.points[p] = s.alarm.points[p]
  handed : s.handed ⊆ t.handed

section
variable {p : Point} {s t : State}

theorem Spares.refl : Spares p s s := ⟨rfl, List.Subset.refl _⟩

theorem Spares.trans {u : State} (h : Spares p s t) (k : Spares p t u) : Spares p s u :=
  ⟨k.point.trans h.point, fun _ mem => k.handed (h.handed mem)⟩

theorem Spares.outside {l : List Part} (h : Touches l s t) (alarm : Part.alarm ∉ l := by decide)
    (handed : Part.handed ∉ l := by decide) : Spares p s t :=
  have same : t.handed = s.handed := h .handed handed
  ⟨points_congr (h .alarm alarm) p, same ▸ List.Subset.refl _⟩

theorem Spares.ite {c : Prop} [Decidable c] {u : State} (h : Spares p s t) (k : Spares p s u) :
    Spares p s (if c then t else u) := by split <;> assumption

theorem Spares.each {α : Type} {f : α → State → State} (h : ∀ a t, Spares p t (f a t)) (l : List α) (s : State) :
    Spares p s (forEach l f s) := by
  induction l generalizing s with
  | nil => exact .refl
  | cons a l ih => exact (h a s).trans (ih _)

theorem reportCond_handed (q : Point) (present : Bool) (s : State) : s.handed ⊆ (reportCond q present s).handed := by
  rw [handed_of_reportCond]
  exact List.subset_append_left _ _

theorem reportCond_spares {q : Point} (present : Bool) (s : State) (ne : p ≠ q) : Spares p s (reportCond q present s) :=
  ⟨reportCond_points_other present s ne, reportCond_handed q present s⟩

section
variable (input : InputPoint p)
include input

theorem InputPoint.ne_hold (c : Channel) : p ≠ holdPoint c := fun e => by
  have value : p.val = 56 + c.val := congrArg Fin.val e
  unfold InputPoint at input
  omega

theorem InputPoint.ne_deviation (c : Channel) : p ≠ deviationPoint c := fun e => by
  have value : p.val = 44 + c.val := congrArg Fin.val e
  unfold InputPoint at input
  omega

theorem InputPoint.ne_trip (b : Burner) : p ≠ tripPointOf b := fun e => by
  have value : p.val = 62 ∨ p.val = 63 := by cases b <;> subst e <;> decide
  unfold InputPoint at input
  omega

theorem leaveToIdle_spares (c : Channel) (s : State) : Spares p s (leaveToIdle c s) := by
  have reported {u : State} (q : Point) (ne : p ≠ q) (x : Prop) [Decidable x] (h : Spares p s u) :
      Spares p s (if x then reportCond q false u else u) := .ite (h.trans (reportCond_spares _ u ne)) h
  exact .ite (reported _ (input.ne_deviation c) _ (reported _ (input.ne_hold c) _ (.outside (onChan_touches c _ s)))) .refl

theorem followLeaving_spares (b : Burner) (s : State) : Spares p s (followLeaving b s) :=
  .trans (.outside (plannerLeavesFiring_touches b s))
    (.each (fun c t => .ite (leaveToIdle_spares input c t) .refl) _ _)

theorem enterTripped_spares (b : Burner) (cause : Cause) (s : State) : Spares p s (enterTripped b cause s) := by
  have entered : Spares p s (tripEntered b cause s) :=
    .trans (.outside (onBurn_touches b _ s)) (.trans (followLeaving_spares input b _)
      (.trans (reportCond_spares true _ (input.ne_trip b)) (.outside (onTotals_touches _ _))))
  rw [enterTripped_eq]
  exact .ite (entered.trans ⟨rfl, List.subset_append_left _ _⟩) entered

theorem takeCause_spares (b : Burner) (cause : Cause) (s : State) : Spares p s (takeCause b cause s) := by
  unfold takeCause
  split
  · exact .refl
  · exact .outside (onBurn_touches b _ s)
  all_goals exact enterTripped_spares input b cause s

theorem handLoadCell_spares (c : Channel) (arrival : Bool) (s : State) : Spares p s (handLoadCell c arrival s) := by
  have moved (f : Chan → Chan) (present : Bool) : Spares p s (reportCond (holdPoint c) present (s.onChan c f)) :=
    .trans (.outside (onChan_touches c f s)) (reportCond_spares _ _ (input.ne_hold c))
  unfold handLoadCell
  dsimp only
  split
  · exact .ite (moved _ _) .refl
  · exact .ite .refl (moved _ _)
  · exact .ite (.outside (abortStage_touches c _ s)) (.ite (.outside (onChan_touches c _ s)) .refl)
  all_goals exact .refl

theorem handFlame_spares (b : Burner) (s : State) : Spares p s (handFlame b s) := by
  have counted (f : Burn → Burn) : Spares p s (s.onBurn b f) := .outside (onBurn_touches b f s)
  have sampled : Spares p s (flameSample b s) := .ite ((counted _).trans (takeCause_spares input b _ _)) (counted _)
  unfold handFlame
  split
  · exact .ite (counted _) (counted _)
  · exact sampled
  · exact sampled
  all_goals exact .refl

theorem handOver_spares (i : AnalogIn) (arrival : Bool) (s : State) : Spares p s (handOver i arrival s) := by
  have draught : Spares p s (handDraught .calciner (handDraught .main s)) :=
    .trans (.outside (handDraught_touches _ s)) (.outside (handDraught_touches _ _))
  unfold handOver
  split
  · exact handLoadCell_spares input _ arrival s
  · exact .ite (.ite (handFlame_spares input .main s) .refl) (.ite (.ite (handFlame_spares input .calciner s) .refl)
      (.ite (.ite (.outside (onCooler_touches _ s)) .refl) (.ite (.ite (.ite (takeCause_spares input _ _ s) .refl) .refl)
        (.ite draught .refl))))

end
end

/-! ## The limit conditions (R8, R116) -/

/-- A condition that has moved is reported. -/
def reportChange (p : Point) (before after : Bool) (s : State) : State := if after = before then s else reportCond p after s

/-- The record of an input with its conditions evaluated (R8). -/
def AnalogRec.evaluated (set : InputSet) (x : AnalogRec) : AnalogRec :=
  { x with lowCond := lowAfter set x.value x.lowCond, highCond := highAfter set x.value x.highCond }

theorem onAnalog_same (i : AnalogIn) (f : AnalogRec → AnalogRec) (s : State) :
    (s.onAnalog i f).scan.analog[i] = f s.scan.analog[i] := upd_same s.scan.analog i f

theorem onAnalog_other {i j : AnalogIn} (f : AnalogRec → AnalogRec) (s : State) (ne : j ≠ i) :
    (s.onAnalog i f).scan.analog[j] = s.scan.analog[j] := upd_other s.scan.analog f (Ne.symm ne)

theorem onAnalog_congr {i : AnalogIn} {f g : AnalogRec → AnalogRec} (s : State) (h : f s.scan.analog[i] = g s.scan.analog[i]) :
    s.onAnalog i f = s.onAnalog i g :=
  congrArg (fun v => s.onScan fun x => { x with analog := v }) (upd_congr s.scan.analog i h)

theorem evaluate_eq (i : AnalogIn) (s : State) :
    let x := s.scan.analog[i]
    evaluate i s = reportChange (highPoint i) x.highCond (highAfter s.live.inputs[i] x.value x.highCond)
      (reportChange (lowPoint i) x.lowCond (lowAfter s.live.inputs[i] x.value x.lowCond)
        (s.onAnalog i (AnalogRec.evaluated s.live.inputs[i]))) := by
  have record : s.onAnalog i (AnalogRec.evaluated s.live.inputs[i]) = s.onAnalog i fun x =>
      { x with lowCond := lowAfter s.live.inputs[i] s.scan.analog[i].value s.scan.analog[i].lowCond
               highCond := highAfter s.live.inputs[i] s.scan.analog[i].value s.scan.analog[i].highCond } :=
    onAnalog_congr s rfl
  rw [record]
  rfl

section
variable (p : Point) (before after : Bool) (s : State)

theorem reportChange_touches : Touches [.alarm, .shift, .handed] s (reportChange p before after s) :=
  .ite (.refl _ s) (reportCond_touches p after s)

theorem reportChange_spares {q : Point} (ne : q ≠ p) : Spares q s (reportChange p before after s) :=
  .ite .refl (reportCond_spares after s ne)

theorem reportChange_reported : LimitReported p before after s (reportChange p before after s) := by
  unfold reportChange
  by_cases same : after = before
  · rw [if_pos same]
    exact ⟨(if_pos same).symm, fun absent present => absurd (absent.symm.trans present) (by decide)⟩
  · rw [if_neg same]
    have cond : (reportCond p after s).alarm.points[p].cond = after := (cond_of_reportCond p p after s).trans (if_pos rfl)
    refine ⟨cond.trans (if_neg same).symm, fun absent present b includes => ?_⟩
    rw [handed_of_reportCond, if_pos ⟨absent, cond ▸ present⟩]
    refine List.mem_append_right _ (List.mem_map.2 ⟨b, List.mem_filter.2 ⟨?_, includes⟩, rfl⟩)
    cases b <;> decide

end

/-- A report stands through steps that spare its point. -/
theorem LimitReported.between {p : Point} {before after : Bool} {s u v t : State} (h : LimitReported p before after u v)
    (first : u.alarm.points[p] = s.alarm.points[p]) (settings : u.store = s.store) (last : Spares p v t) :
    LimitReported p before after s t := by
  obtain ⟨cond, trips⟩ := h
  refine ⟨?_, fun absent present b includes => last.handed (trips ?_ ?_ b ?_)⟩
  · rw [last.point, cond, first]
  · rw [first]
    exact absent
  · rw [← last.point]
    exact present
  · rw [tripTarget_congr settings]
    exact includes

section
variable (i : AnalogIn) (s : State)

theorem lowPoint_input : InputPoint (lowPoint i) := .inl (show 2 * i.val < 44 by omega)
theorem highPoint_input : InputPoint (highPoint i) := .inl (show 2 * i.val + 1 < 44 by omega)
theorem lowPoint_ne_highPoint : lowPoint i ≠ highPoint i := fun e => by
  have value : 2 * i.val = 2 * i.val + 1 := congrArg Fin.val e
  omega

theorem evaluate_scan : (evaluate i s).scan = (s.onAnalog i (AnalogRec.evaluated s.live.inputs[i])).scan := by
  rw [evaluate_eq]
  exact (reportChange_touches _ _ _ _ .scan (by decide)).trans (reportChange_touches _ _ _ _ .scan (by decide))

theorem evaluate_spares {p : Point} (low : p ≠ lowPoint i) (high : p ≠ highPoint i) : Spares p s (evaluate i s) := by
  rw [evaluate_eq]
  exact .trans (.outside (onAnalog_touches i _ s)) ((reportChange_spares _ _ _ _ low).trans (reportChange_spares _ _ _ _ high))

theorem evaluate_reported :
    let x := s.scan.analog[i]
    let set := s.live.inputs[i]
    LimitReported (lowPoint i) x.lowCond (lowAfter set x.value x.lowCond) s (evaluate i s)
    ∧ LimitReported (highPoint i) x.highCond (highAfter set x.value x.highCond) s (evaluate i s) := by
  intro x set
  have eq := evaluate_eq i s
  dsimp only at eq
  rw [eq]
  have low := lowPoint_ne_highPoint i
  let u := s.onAnalog i (AnalogRec.evaluated s.live.inputs[i])
  let v := reportChange (lowPoint i) x.lowCond (lowAfter set x.value x.lowCond) u
  have stored : Spares (highPoint i) u v := reportChange_spares _ _ _ _ low.symm
  exact ⟨(reportChange_reported _ _ _ u).between rfl rfl (reportChange_spares _ _ _ v low),
    (reportChange_reported _ _ _ v).between stored.point (reportChange_touches _ _ _ u .store (by decide)) .refl⟩

/-- R97: what an arrival leaves of the bed-pressure window. -/
theorem handOver_window : (handOver i true s).cooler.window
    = if i = 8 then windowAfter s.cooler.window s.scan.analog[i].quality s.scan.analog[i].value else s.cooler.window := by
  by_cases bed : i = 8
  · subst bed
    show (handBedPressure s).cooler.window = windowAfter _ _ _
    unfold handBedPressure windowAfter
    dsimp only
    split
    next bad => rw [State.onCooler_cooler]
    next good =>
      rw [State.onCooler_cooler]
      split <;> rfl
  · rw [if_neg bed]
    have other : Touches [.burns, .planner, .chans, .alarm, .shift, .handed] s (handOver i true s) := by
      unfold handOver
      split
      · exact (handLoadCell_touches _ _ s).mono
      · exact .ite (handFlame_touches _ s) (.ite (handFlame_touches _ s) (.ite (.ite (.ite (takeCause_touches _ _ s) (.refl _ s)) (.refl _ s))
          (.ite ((handDraught_touches _ s).mono.trans (handDraught_touches _ _).mono) (.refl _ s))))
    exact congrArg Cooler.window (other .cooler (by decide))

/-- A change of quality alone is taken by the channels and the purge of the burners (R7). -/
theorem handOver_quality_touches : Touches [.chans, .burns, .alarm, .shift, .handed] s (handOver i false s) := by
  unfold handOver
  split
  · exact (handLoadCell_touches _ _ s).mono
  · exact .ite (.refl _ s) (.ite (.refl _ s) (.ite (.refl _ s) (.ite (.refl _ s)
      (.ite ((handDraught_touches _ s).mono.trans (handDraught_touches _ _).mono) (.refl _ s)))))

/-- What an evaluation leaves of the inputs, and how it reports. -/
theorem evaluate_taken :
    let y := s.scan.analog[i]
    let t := evaluate i s
    t.scan.analog[i] = y.evaluated s.live.inputs[i] ∧ (∀ j : AnalogIn, j ≠ i → t.scan.analog[j] = s.scan.analog[j])
    ∧ t.scan.pulse = s.scan.pulse ∧ t.scan.discrete = s.scan.discrete
    ∧ LimitReported (lowPoint i) y.lowCond t.scan.analog[i].lowCond s t
    ∧ LimitReported (highPoint i) y.highCond t.scan.analog[i].highCond s t := by
  intro y t
  have scan : t.scan = (s.onAnalog i (AnalogRec.evaluated s.live.inputs[i])).scan := evaluate_scan i s
  have record : t.scan.analog[i] = y.evaluated s.live.inputs[i] := by rw [scan, onAnalog_same]
  obtain ⟨low, high⟩ := evaluate_reported i s
  refine ⟨record, fun j ne => ?_, ?_, ?_, ?_, ?_⟩
  · rw [scan, onAnalog_other _ _ ne]
  · rw [scan]
    rfl
  · rw [scan]
    rfl
  · rw [record]
    exact low
  · rw [record]
    exact high

/-- An input's record is replaced and its conditions evaluated. -/
theorem evaluate_stored (f : AnalogRec → AnalogRec) :
    let y := f s.scan.analog[i]
    let t := evaluate i (s.onAnalog i f)
    t.scan.analog[i] = y.evaluated s.live.inputs[i] ∧ (∀ j : AnalogIn, j ≠ i → t.scan.analog[j] = s.scan.analog[j])
    ∧ t.scan.pulse = s.scan.pulse ∧ t.scan.discrete = s.scan.discrete
    ∧ LimitReported (lowPoint i) y.lowCond t.scan.analog[i].lowCond s t
    ∧ LimitReported (highPoint i) y.highCond t.scan.analog[i].highCond s t := by
  obtain ⟨record, other, pulse, discrete, low, high⟩ := evaluate_taken i (s.onAnalog i f)
  rw [onAnalog_same] at record low high
  exact ⟨record, fun j ne => (other j ne).trans (onAnalog_other f s ne), pulse, discrete, low.between rfl rfl .refl,
    high.between rfl rfl .refl⟩

end

/-! ## Arrivals (R3, R16) -/

section
variable (i : AnalogIn) (sample : Nat) (s : State)

/-- The update of an input's record by an arrival. -/
def arrivalUpdate (x : AnalogRec) : AnalogRec := x.arrived s.live.inputs[i] sample (decide (s.floor.mode = .settle))

/-- The state that an arrival hands to the consumers, where it is evaluated. -/
theorem arrivalTaken_evaluated (h : s.scan.analog[i].force.isSome = true ∨ (1 ≤ sample ∧ sample ≤ 4094)) :
    arrivalTaken i sample s = evaluate i (s.onAnalog i (arrivalUpdate i sample s)) :=
  if_pos (by simpa [sampleInRange] using h)

theorem arrivalTaken_stored (unforced : s.scan.analog[i].force = none) (out : ¬(1 ≤ sample ∧ sample ≤ 4094)) :
    arrivalTaken i sample s = s.onAnalog i (arrivalUpdate i sample s) :=
  if_neg (by rw [unforced]; simp [sampleInRange, out])

theorem arrival_touches : Touches [.scan, .planner, .chans, .burns, .cooler, .alarm, .shift, .handed] s
    (handOver i true (arrivalTaken i sample s)) :=
  (arrivalTaken_touches i sample s).mono.trans (handOver_touches i true _).mono

theorem arrival_window : let t := handOver i true (arrivalTaken i sample s)
    t.cooler.window = if i = 8 then windowAfter s.cooler.window t.scan.analog[i].quality t.scan.analog[i].value
      else s.cooler.window := by
  intro t
  have cooler : (arrivalTaken i sample s).cooler = s.cooler := arrivalTaken_touches i sample s .cooler (by decide)
  have scan : t.scan = (arrivalTaken i sample s).scan := handOver_scan _ _ _
  exact (handOver_window i _).trans (by rw [cooler, scan])

/-- What an evaluated arrival leaves of the inputs and how its limit conditions are reported. -/
theorem evaluatedArrival (h : s.scan.analog[i].force.isSome = true ∨ (1 ≤ sample ∧ sample ≤ 4094)) :
    let y := arrivalUpdate i sample s s.scan.analog[i]
    let t := handOver i true (arrivalTaken i sample s)
    t.scan.analog[i] = y.evaluated s.live.inputs[i] ∧ (∀ j : AnalogIn, j ≠ i → t.scan.analog[j] = s.scan.analog[j])
    ∧ t.scan.pulse = s.scan.pulse ∧ t.scan.discrete = s.scan.discrete
    ∧ LimitReported (lowPoint i) y.lowCond t.scan.analog[i].lowCond s t
    ∧ LimitReported (highPoint i) y.highCond t.scan.analog[i].highCond s t := by
  intro y t
  have scan : t.scan = (arrivalTaken i sample s).scan := handOver_scan _ _ _
  obtain ⟨record, other, pulse, discrete, low, high⟩ := evaluate_stored i s (arrivalUpdate i sample s)
  rw [← arrivalTaken_evaluated i sample s h] at record other pulse discrete low high
  rw [scan]
  exact ⟨record, other, pulse, discrete, low.between rfl rfl (handOver_spares (lowPoint_input i) i true _),
    high.between rfl rfl (handOver_spares (highPoint_input i) i true _)⟩

end

/-- R3, R6: the record that an in-range sample makes. -/
theorem arrived_inRange {x : AnalogRec} {sample : Nat} (set : InputSet) (settling : Bool) (unforced : x.force = none)
    (low : 1 ≤ sample) (high : sample ≤ 4094) : x.arrived set sample settling =
    { x with raw := some sample, lastGood := sample, value := scaled set sample }.judgedBy .good settling := by
  simp only [AnalogRec.arrived, unforced, sampleInRange, low, high, and_self, decide_true, if_true]

theorem arrived_outOfRange {x : AnalogRec} {sample : Nat} (set : InputSet) (settling : Bool) (unforced : x.force = none)
    (out : ¬(1 ≤ sample ∧ sample ≤ 4094)) : x.arrived set sample settling =
    { x with raw := some sample, value := scaled set x.lastGood }.judgedBy .bad settling := by
  simp [AnalogRec.arrived, unforced, sampleInRange, out]

theorem arrived_forced {x : AnalogRec} (sample : Nat) (set : InputSet) (settling : Bool) (forced : x.force.isSome = true) :
    x.arrived set sample settling = { x with raw := some sample, value := scaled set x.lastGood } := by
  obtain ⟨v, value⟩ := Option.isSome_iff_exists.1 forced
  simp only [AnalogRec.arrived, value]

/-- A judgement moves the quality alone. -/
theorem AnalogRec.judgedBy_outline (x : AnalogRec) (j : Judged) (settling : Prop) [Decidable settling] :
    ∃ q k, x.judgedBy j (decide settling) = { x with quality := q, judged := k }
      ∧ if x.quality = .unsettled ∧ settling then q = .unsettled ∧ k = some j else q = j.quality ∧ k = none := by
  by_cases waits : x.quality = .unsettled ∧ settling
  · refine ⟨.unsettled, some j, (if_pos (by simpa using waits)).trans ?_, ?_⟩
    · rw [← waits.1]
    · rw [if_pos waits]
      exact ⟨rfl, rfl⟩
  · refine ⟨j.quality, none, if_neg (by simpa using waits), ?_⟩
    rw [if_neg waits]
    exact ⟨rfl, rfl⟩

/-- Settles O4: the record of the arrival, evaluated, handed over and spared by its consumers. -/
theorem sampleInRangeObligation : Obligations.SampleInRange := by
  intro i sample s run unforced low high
  obtain ⟨record, other, pulse, discrete, lowReported, highReported⟩ := evaluatedArrival i sample s (.inr ⟨low, high⟩)
  obtain ⟨q, k, judged, quality⟩ := AnalogRec.judgedBy_outline
    { s.scan.analog[i] with raw := some sample, lastGood := sample, value := scaled s.live.inputs[i] sample } .good
    (s.floor.mode = .settle)
  have stored := (arrived_inRange s.live.inputs[i] (decide (s.floor.mode = .settle)) unforced low high).trans judged
  rw [arrivalUpdate, stored] at record lowReported highReported
  refine ⟨_, exec_arrival run, congrArg AnalogRec.raw record, congrArg AnalogRec.lastGood record,
    (congrArg AnalogRec.force record).trans unforced, congrArg AnalogRec.value record, ?_, ?_, ?_, lowReported, highReported,
    arrival_window i sample s, other, pulse, discrete, arrival_touches i sample s⟩
  · rw [record]
    exact quality
  · rw [record]
    rfl
  · rw [record]
    rfl

/-- Settles O5: out of range nothing is evaluated; at a forced input the forced value is evaluated again. -/
theorem sampleWithoutNewValue : Obligations.SampleWithoutNewValue := by
  intro i sample s run
  refine ⟨fun unforced out => ?_, fun forced => ?_⟩
  · have outside : ¬(1 ≤ sample ∧ sample ≤ 4094) := by omega
    obtain ⟨q, k, judged, quality⟩ := AnalogRec.judgedBy_outline
      { s.scan.analog[i] with raw := some sample, value := scaled s.live.inputs[i] s.scan.analog[i].lastGood } .bad
      (s.floor.mode = .settle)
    have stored := (arrived_outOfRange s.live.inputs[i] (decide (s.floor.mode = .settle)) unforced outside).trans judged
    have taken := arrivalTaken_stored i sample s unforced outside
    have scan : (handOver i true (arrivalTaken i sample s)).scan = (s.onAnalog i (arrivalUpdate i sample s)).scan :=
      (handOver_scan _ _ _).trans (congrArg State.scan taken)
    have record := (congrArg (fun x : Scanner => x.analog[i]) scan).trans ((onAnalog_same i _ s).trans stored)
    have spared {p : Point} (input : InputPoint p) : (handOver i true (arrivalTaken i sample s)).alarm.points[p] = s.alarm.points[p] :=
      (handOver_spares input i true _).point.trans (by rw [taken]; rfl)
    refine ⟨_, exec_arrival run, congrArg AnalogRec.raw record,
      (congrArg AnalogRec.lastGood record).trans rfl, congrArg AnalogRec.value record,
      (congrArg AnalogRec.lowCond record).trans rfl, (congrArg AnalogRec.highCond record).trans rfl, ?_, congrArg PointRec.cond (spared (lowPoint_input i)),
      congrArg PointRec.cond (spared (highPoint_input i)), arrival_window i sample s, fun j ne => ?_, ?_, ?_,
      arrival_touches i sample s⟩
    · rw [record]
      exact quality
    · rw [scan]
      exact onAnalog_other _ s ne
    · rw [scan]
      rfl
    · rw [scan]
      rfl
  · obtain ⟨record, other, pulse, discrete, lowReported, highReported⟩ := evaluatedArrival i sample s (.inl forced)
    have stored := arrived_forced sample s.live.inputs[i] (decide (s.floor.mode = .settle)) forced
    rw [arrivalUpdate, stored] at record lowReported highReported
    exact ⟨_, exec_arrival run, record, lowReported, highReported, arrival_window i sample s, other, pulse, discrete,
      arrival_touches i sample s⟩

/-! ## Encoders (R10) -/

theorem onPulse_congr {e : PulseIn} {f g : PulseRec → PulseRec} (s : State) (h : f s.scan.pulse[e] = g s.scan.pulse[e]) :
    s.onPulse e f = s.onPulse e g :=
  congrArg (fun v => s.onScan fun x => { x with pulse := v }) (upd_congr s.scan.pulse e h)

theorem exec_quadratureEdge {e : PulseIn} {a b : Bool} {s : State} (run : s.phase = .running) :
    exec (.quadratureEdge e a b) s = .next (s.onPulse e fun x => x.observed a b) :=
  congrArg Host.Outcome.next (if_pos run)

/-- R10: the steps that count up. -/
def upSteps : List ((Bool × Bool) × (Bool × Bool)) :=
  [((false, false), (true, false)), ((true, false), (true, true)), ((true, true), (false, true)), ((false, true), (false, false))]

theorem observed_eq {x : PulseRec} (a b : Bool) (low : -2147483648 ≤ x.count) (high : x.count ≤ 2147483647) :
    x.observed a b = { x with
      levelA := a, levelB := b
      count := if ((x.levelA, x.levelB), (a, b)) ∈ upSteps then min (x.count + 1) 2147483647
               else if ((a, b), (x.levelA, x.levelB)) ∈ upSteps then max (x.count - 1) (-2147483648) else x.count
      errors := if x.levelA ≠ a ∧ x.levelB ≠ b then min (x.errors + 1) 65535 else x.errors } := by
  have up : clampS32 (x.count + 1) = min (x.count + 1) 2147483647 := by unfold clampS32 clampInt; split_ifs <;> omega
  have down : clampS32 (x.count - 1) = max (x.count - 1) (-2147483648) := by unfold clampS32 clampInt; split_ifs <;> omega
  obtain ⟨levelA, levelB, count, lastTaken, errors, force⟩ := x
  unfold PulseRec.observed
  simp only [up, down]
  cases levelA <;> cases levelB <;> cases a <;> cases b <;> rfl

/-- Settles O6: the pair observed, by the four steps and their reverses. -/
theorem encoderCounts : Obligations.EncoderCounts := by
  intro e a b s run low high x ups
  refine ⟨(exec_quadratureEdge run).trans (congrArg Host.Outcome.next (onPulse_congr s (observed_eq a b low high))), ?_⟩
  rintro rfl rfl
  refine (exec_quadratureEdge run).trans (congrArg Host.Outcome.next ?_)
  refine congrArg (fun v => s.onScan fun y => { y with pulse := v }) (upd_eq_self s.scan.pulse e _ ?_)
  exact if_pos rfl

/-! ## Forcing (R15 to R18) -/

section
variable {s u : State}

theorem reportForced_touches (before : Bool) (s : State) : Touches [.alarm, .shift] s (reportForced before s) :=
  .ite (.refl _ s) (reportCond_touches_untripped (pt 82) _ s rfl)

theorem reportForced_spares {p : Point} (before : Bool) (s : State) (ne : p ≠ pt 82) : Spares p s (reportForced before s) :=
  .ite .refl (reportCond_spares _ s ne)

/-- R15: point 82 follows the force set. -/
theorem reportForced_cond (before : Bool) (s : State) : (reportForced before s).alarm.points[pt 82].cond
    = if anyForced s = before then s.alarm.points[pt 82].cond else anyForced s := by
  unfold reportForced
  split
  · rfl
  · exact (cond_of_reportCond _ _ _ _).trans (if_pos rfl)

/-! ### How many inputs are forced -/

theorem anyForced_iff (s : State) : anyForced s = true
    ↔ (∃ i : AnalogIn, s.scan.analog[i].force.isSome = true) ∨ ∃ e : PulseIn, s.scan.pulse[e].force.isSome = true := by
  have forced {α : Type} {n : Nat} (v : Vector α n) (f : α → Bool) :
      0 < v.toList.countP f ↔ ∃ i : Fin n, f v[i] = true := by
    rw [vector_toList, List.countP_map, List.countP_pos_iff]
    simp
  rw [anyForced, decide_eq_true_iff, forceCount, Nat.add_pos_iff_pos_or_pos, forced, forced]

theorem anyForced_congr {s t : State} (h : t.scan = s.scan) : anyForced t = anyForced s := by
  rw [anyForced, anyForced, forceCount, forceCount, h]

theorem anyForced_of_force {i : AnalogIn} {v : Nat} (h : s.scan.analog[i].force = some v) : anyForced s = true :=
  (anyForced_iff s).2 (.inl ⟨i, by rw [h]; rfl⟩)

theorem anyForced_of_pulse {e : PulseIn} {v : Int} (h : s.scan.pulse[e].force = some v) : anyForced s = true :=
  (anyForced_iff s).2 (.inr ⟨e, by rw [h]; rfl⟩)

/-- A force leaves some input forced, and a first one raises point 82. -/
theorem reportForced_forced {before : Bool} (forced : anyForced s = true) : (reportForced before s).alarm.points[pt 82].cond
    = if before then s.alarm.points[pt 82].cond else true := by
  rw [reportForced_cond, forced]
  cases before <;> rfl

end

section
variable {s u : State} {a : Ans}

theorem exec_inputForce {cls number : Nat} {value : Int} (run : s.phase = .running) (service : inputForce cls number value s = (u, a))
    (plainly : a.after = .nothing := by rfl) :
    exec (.inputForce cls number value) s = .next (answering a.status a.reason a.data u) := exec_answers run rfl service plainly

theorem exec_inputRelease {cls number : Nat} (run : s.phase = .running) (service : inputRelease cls number s = (u, a))
    (plainly : a.after = .nothing := by rfl) :
    exec (.inputRelease cls number) s = .next (answering a.status a.reason a.data u) := exec_answers run rfl service plainly

theorem inputForce_analog (i : AnalogIn) (s : State) {value : Int} (low : 1 ≤ value) (high : value ≤ 4094) :
    inputForce 0 (i.val + 1) value s
      = if flameForceRefused s i then (s, refusedFor .burnerActive) else (forceAnalog i value.toNat s, done []) := by
  simp only [inputForce, if_true, instNo_val]
  exact if_pos ⟨low, high⟩

theorem inputForce_pulse (e : PulseIn) (s : State) {value : Int} (low : -100000 ≤ value) (high : value ≤ 100000) :
    inputForce 1 (e.val + 1) value s = (forcePulse e value s, done []) := by
  simp only [inputForce, Nat.one_ne_zero, if_false, if_true, instNo_val]
  exact if_pos ⟨low, high⟩

theorem inputRelease_analog (i : AnalogIn) (s : State) : inputRelease 0 (i.val + 1) s = (releaseAnalog i s, done []) := by
  simp only [inputRelease, if_true, instNo_val]

theorem inputRelease_pulse (e : PulseIn) (s : State) : inputRelease 1 (e.val + 1) s = (releasePulse e s, done []) := by
  simp only [inputRelease, Nat.one_ne_zero, if_false, if_true, instNo_val]

end

section
variable (i : AnalogIn) (e : PulseIn) (s : State)

theorem onPulse_same (f : PulseRec → PulseRec) : (s.onPulse e f).scan.pulse[e] = f s.scan.pulse[e] := upd_same s.scan.pulse e f

/-- The record of a forced input. -/
def AnalogRec.forcedTo (set : InputSet) (v : Nat) (x : AnalogRec) : AnalogRec :=
  { x with force := some v, lastGood := v, value := scaled set v, quality := .forced, judged := none }

/-- R16: an accepted force, before it is handed over. -/
def forceStored (v : Nat) : State :=
  evaluate i (reportForced (anyForced s) (s.onAnalog i (AnalogRec.forcedTo s.live.inputs[i] v)))

theorem forceAnalog_eq (v : Nat) : forceAnalog i v s = handOver i false (forceStored i s v) := rfl

/-- The record of a released input. -/
def AnalogRec.released (x : AnalogRec) : AnalogRec := { x with force := none, quality := .unsettled, judged := none }

theorem releaseAnalog_eq (forced : s.scan.analog[i].force.isSome = true) : releaseAnalog i s
    = handOver i false (reportForced (anyForced s) (s.onAnalog i AnalogRec.released)) := if_pos forced

end

theorem pt82_input : InputPoint (pt 82) := .inr (by decide)

theorem pt82_ne_limit (i : AnalogIn) : pt 82 ≠ lowPoint i ∧ pt 82 ≠ highPoint i := by
  have low : (lowPoint i).val = 2 * i.val := rfl
  have high : (highPoint i).val = 2 * i.val + 1 := rfl
  have value : (pt 82).val = 81 := rfl
  constructor <;> intro e <;> have := congrArg Fin.val e <;> omega

/-- R16: what an accepted force of an analog input leaves. -/
theorem forceAnalog_taken (i : AnalogIn) (v : Nat) (s : State) :
    let y := (s.scan.analog[i]).forcedTo s.live.inputs[i] v
    let t := forceAnalog i v s
    t.scan.analog[i] = y.evaluated s.live.inputs[i] ∧ (∀ j : AnalogIn, j ≠ i → t.scan.analog[j] = s.scan.analog[j])
    ∧ t.scan.pulse = s.scan.pulse ∧ t.scan.discrete = s.scan.discrete
    ∧ LimitReported (lowPoint i) y.lowCond t.scan.analog[i].lowCond s t
    ∧ LimitReported (highPoint i) y.highCond t.scan.analog[i].highCond s t
    ∧ t.alarm.points[pt 82].cond = (if anyForced s then s.alarm.points[pt 82].cond else true)
    ∧ Touches [.scan, .chans, .burns, .alarm, .shift, .handed] s t := by
  intro y t
  let u := s.onAnalog i (AnalogRec.forcedTo s.live.inputs[i] v)
  let w := reportForced (anyForced s) u
  have stored : u.scan.analog[i] = y := onAnalog_same i _ s
  have forced : anyForced u = true := anyForced_of_force (i := i) (v := v) (by rw [stored]; rfl)
  have reported := reportForced_touches (anyForced s) u
  have scan : w.scan = u.scan := reported .scan (by decide)
  have live : w.live = s.live := congrArg Store.live (reported .store (by decide))
  have settings : w.store = s.store := reported .store (by decide)
  have handed : t.scan = (evaluate i w).scan := handOver_scan i false _
  obtain ⟨record, other, pulse, discrete, low, high⟩ := evaluate_taken i w
  rw [scan, stored, live] at record
  rw [scan, stored] at low high
  rw [scan] at pulse discrete
  have limit {p : Point} (ne : p ≠ pt 82) : w.alarm.points[p] = s.alarm.points[p] := (reportForced_spares _ u ne).point
  rw [handed]
  refine ⟨record, fun j ne => ?_, pulse, discrete, ?_, ?_, ?_, ?_⟩
  · rw [other j ne, scan]
    exact onAnalog_other _ s ne
  · exact low.between (limit (pt82_ne_limit i).1.symm) settings (handOver_spares (lowPoint_input i) i false _)
  · exact high.between (limit (pt82_ne_limit i).2.symm) settings (handOver_spares (highPoint_input i) i false _)
  · have spared : t.alarm.points[pt 82] = w.alarm.points[pt 82] :=
      ((evaluate_spares i w (pt82_ne_limit i).1 (pt82_ne_limit i).2).trans (handOver_spares pt82_input i false _)).point
    rw [spared]
    exact reportForced_forced forced
  · exact (onAnalog_touches i _ s).mono.trans (reported.mono.trans ((evaluate_touches i w).mono.trans
      (handOver_quality_touches i _).mono))

/-- Settles O9: the force is stored and evaluated, point 82 follows the first one, and a burner in use refuses its own input. -/
theorem forceInput : Obligations.ForceInput := by
  refine ⟨fun v s run low high => ⟨fun lit => ?_, fun lit => ?_⟩, fun e v s run low high => ?_, fun i v s run low high main calciner => ?_⟩
  · have refused : flameForceRefused s 6 = true := decide_eq_true (.inl ⟨rfl, lit⟩)
    exact exec_inputForce run ((inputForce_analog 6 s (by omega) (by omega)).trans (if_pos refused))
  · have refused : flameForceRefused s 7 = true := decide_eq_true (.inr ⟨rfl, lit⟩)
    exact exec_inputForce run ((inputForce_analog 7 s (by omega) (by omega)).trans (if_pos refused))
  · let u := s.onPulse e fun x => { x with force := some v }
    have forced : anyForced u = true :=
      anyForced_of_pulse (e := e) (v := v) (congrArg PulseRec.force (onPulse_same e s fun x => { x with force := some v }))
    have frame := (onPulse_touches e (fun x => { x with force := some v }) s).mono.trans (reportForced_touches (anyForced s) u).mono
      (l := [.scan, .alarm, .shift, .handed])
    refine ⟨_, exec_inputForce run (inputForce_pulse e s low high), ?_, ?_, rfl, Touches.answering frame⟩
    · exact reportForced_touches (anyForced s) u .scan (by decide)
    · exact reportForced_forced forced
  · have allowed : flameForceRefused s i = false := decide_eq_false fun h => h.elim
      (fun ⟨flame, lit⟩ => lit (main (congrArg Fin.val flame))) fun ⟨flame, lit⟩ => lit (calciner (congrArg Fin.val flame))
    obtain ⟨record, other, pulse, discrete, lowReported, highReported, point, frame⟩ := forceAnalog_taken i v s
    refine ⟨_, exec_inputForce run ((inputForce_analog i s (by omega) (by omega)).trans (if_neg (by simp [allowed]))), rfl,
      congrArg AnalogRec.force record, congrArg AnalogRec.lastGood record, congrArg AnalogRec.value record,
      congrArg AnalogRec.quality record, congrArg AnalogRec.judged record, (congrArg AnalogRec.raw record).trans rfl,
      congrArg AnalogRec.lowCond record, congrArg AnalogRec.highCond record, lowReported, highReported, other, pulse, discrete,
      point, Touches.answering frame⟩

/-- Settles O10: the release, handed over as a change of quality, and point 82 with the last one. -/
theorem releaseInput : Obligations.ReleaseInput := by
  refine ⟨fun i s run free => ?_, fun e s run => ?_, fun i s run forced => ?_⟩
  · have unchanged : releaseAnalog i s = s := if_neg (by rw [free]; decide)
    exact exec_inputRelease run ((inputRelease_analog i s).trans (by rw [unchanged]))
  · let u := s.onPulse e fun x => { x with force := none }
    have frame := (onPulse_touches e (fun x => { x with force := none }) s).mono.trans (reportForced_touches (anyForced s) u).mono
      (l := [.scan, .alarm, .shift, .handed])
    have scan : (reportForced (anyForced s) u).scan = u.scan := reportForced_touches _ u .scan (by decide)
    refine ⟨_, exec_inputRelease run (inputRelease_pulse e s), scan, ?_, rfl, Touches.answering frame⟩
    have left : anyForced u = true → anyForced s = true := fun h => by
      rcases (anyForced_iff u).1 h with analog | ⟨d, pulse⟩
      · exact (anyForced_iff s).2 (.inl analog)
      · by_cases here : d = e
        · subst here
          rw [onPulse_same] at pulse
          cases pulse
        · exact (anyForced_iff s).2 (.inr ⟨d, (congrArg (fun x : PulseRec => x.force.isSome)
            (upd_other s.scan.pulse _ (Ne.symm here))).symm.trans pulse⟩)
    have counted (x : Status) (y : Option Reason) (z : List Byte) : anyForced (answering x y z (releasePulse e s)) = anyForced u :=
      anyForced_congr scan
    refine (reportForced_cond _ u).trans ?_
    rw [counted]
    by_cases before : anyForced s = true <;> by_cases after : anyForced u = true
    · rw [before, after]
      rfl
    · rw [before, (Bool.not_eq_true _).mp after]
      rfl
    · exact absurd (left after) before
    · rw [(Bool.not_eq_true _).mp before, (Bool.not_eq_true _).mp after]
      rfl
  · let u := s.onAnalog i AnalogRec.released
    let w := reportForced (anyForced s) u
    have reported := reportForced_touches (anyForced s) u
    have scan : (releaseAnalog i s).scan = u.scan := by
      rw [releaseAnalog_eq i s forced, handOver_scan]
      exact reported .scan (by decide)
    have point : (releaseAnalog i s).alarm.points[pt 82] = w.alarm.points[pt 82] := by
      rw [releaseAnalog_eq i s forced]
      exact (handOver_spares pt82_input i false w).point
    have frame : Touches [.scan, .chans, .burns, .alarm, .shift, .handed] s (releaseAnalog i s) := by
      rw [releaseAnalog_eq i s forced]
      exact (onAnalog_touches i _ s).mono.trans (reported.mono.trans (handOver_quality_touches i w).mono)
    have before : anyForced s = true := (anyForced_iff s).2 (.inl ⟨i, forced⟩)
    refine ⟨_, exec_inputRelease run (inputRelease_analog i s), rfl, ?_, fun j ne => ?_, (congrArg Scanner.pulse scan).trans rfl,
      (congrArg Scanner.discrete scan).trans rfl, ?_, Touches.answering frame⟩
    · exact (congrArg (fun x : Scanner => x.analog[i]) scan).trans (onAnalog_same i _ s)
    · exact (congrArg (fun x : Scanner => x.analog[j]) scan).trans (onAnalog_other _ s ne)
    · have counted (x : Status) (y : Option Reason) (z : List Byte) : anyForced (answering x y z (releaseAnalog i s)) = anyForced u :=
        anyForced_congr scan
      rw [counted]
      refine (congrArg PointRec.cond point).trans ((reportForced_cond _ u).trans ?_)
      rw [before]
      cases anyForced u <;> rfl

end Sys2Proof.Machine
end

section
/-! PROOFS. SETTLE (R6, R156). -/

namespace Sys2Proof.Machine

-- One proof at a time: proofs that wait for one another hold a thread each, and the threads' memory is bounded.
set_option Elab.async false

/-- Both burners OFF and no channel in DOSING or HOLD, as STANDBY and SETTLE have it. -/
structure Quiet (s : State) : Prop where
  burners : ∀ b : Burner, (s.burns.get b).state = .off
  channels : ∀ c : Channel, s.chans[c].state ≠ .dosing ∧ s.chans[c].state ≠ .hold

/-- The input of a channel's load cell. -/
def cellInput (c : Channel) : AnalogIn := ⟨c.val, by omega⟩

section
variable {s : State}

theorem Quiet.congr {t : State} (h : Quiet s) (burns : t.burns = s.burns) (chans : t.chans = s.chans) : Quiet t := by
  obtain ⟨off, channels⟩ := h
  exact ⟨burns ▸ off, chans ▸ channels⟩

/-! ## A change of quality alone (R7) -/

/-- A change of quality at a channel that is neither in DOSING nor in HOLD aborts a stage on a BAD cell, and does nothing else. -/
theorem handLoadCell_idle {c : Channel} (dosing : s.chans[c].state ≠ .dosing) (hold : s.chans[c].state ≠ .hold) :
    handLoadCell c false s = if s.scan.analog[cellInput c].quality = .bad then abortStage c .loadCellBad s else s := by
  unfold handLoadCell
  dsimp only [cellInput]
  split
  next h => exact absurd h dosing
  next h => exact absurd h hold
  next => rfl
  all_goals
    next h =>
      have still : abortStage c .loadCellBad s = s := if_neg (by rw [h]; decide)
      rw [still]
      exact (ite_self s).symm

theorem handOver_cell (c : Channel) (arrival : Bool) : handOver (cellInput c) arrival s = handLoadCell c arrival s :=
  dif_pos c.isLt

/-- A change of quality at another input is taken by the purge of the burners alone. -/
theorem handOver_other {i : AnalogIn} (other : ∀ c : Channel, i ≠ cellInput c) :
    Touches [.burns] s (handOver i false s) := by
  have high : ¬i.val < 6 := fun low => other ⟨i.val, low⟩ rfl
  have draught : Touches [.burns] s (handDraught .calciner (handDraught .main s)) :=
    (handDraught_touches _ s).trans (handDraught_touches _ _)
  unfold handOver
  rw [dif_neg high]
  exact .ite (.refl _ s) (.ite (.refl _ s) (.ite (.refl _ s) (.ite (.refl _ s) (.ite draught (.refl _ s)))))

theorem handDraught_off (b : Burner) (off : (s.burns.get b).state = .off) : handDraught b s = s :=
  if_neg (by rw [off]; decide)

theorem handOver_other_quiet {i : AnalogIn} (other : ∀ c : Channel, i ≠ cellInput c) (quiet : Quiet s) :
    handOver i false s = s := by
  have high : ¬i.val < 6 := fun low => other ⟨i.val, low⟩ rfl
  unfold handOver
  rw [dif_neg high, handDraught_off .main (quiet.burners .main), handDraught_off .calciner (quiet.burners .calciner)]
  simp only [Bool.false_eq_true, if_false, ite_self]

theorem cell_or_other (i : AnalogIn) : (∃ c : Channel, i = cellInput c) ∨ ∀ c : Channel, i ≠ cellInput c := by
  by_cases low : i.val < 6
  · exact .inl ⟨⟨i.val, low⟩, rfl⟩
  · exact .inr fun c e => low (by rw [e]; exact c.isLt)

theorem abortStage_quiet (c : Channel) (reason : CalReason) (quiet : Quiet s) : Quiet (abortStage c reason s) := by
  have burns : (abortStage c reason s).burns = s.burns := abortStage_touches c reason s .burns (by decide)
  refine ⟨burns ▸ quiet.burners, fun d => ?_⟩
  by_cases here : d = c
  · subst here
    rw [abortStage_same]
    split
    · exact ⟨nofun, nofun⟩
    · exact quiet.channels d
  · rw [abortStage_other s reason here]
    exact quiet.channels d

/-- A change of quality in a quiet state can abort a stage, and nothing else. -/
theorem handOver_quiet (i : AnalogIn) (quiet : Quiet s) :
    Touches [.chans] s (handOver i false s) ∧ Quiet (handOver i false s) := by
  rcases cell_or_other i with ⟨c, rfl⟩ | other
  · obtain ⟨dosing, hold⟩ := quiet.channels c
    rw [handOver_cell, handLoadCell_idle dosing hold]
    split
    · exact ⟨abortStage_touches c _ s, abortStage_quiet c _ quiet⟩
    · exact ⟨.refl _ s, quiet⟩
  · rw [handOver_other_quiet other quiet]
    exact ⟨.refl _ s, quiet⟩

/-- The channels after a change of quality at an input that is not theirs. -/
theorem handLoadCell_chans_other {c d : Channel} (arrival : Bool) (s : State) (ne : d ≠ c) :
    (handLoadCell c arrival s).chans[d] = s.chans[d] := by
  have reported (f : Chan → Chan) (present : Bool) : (reportCond (holdPoint c) present (s.onChan c f)).chans[d] = s.chans[d] :=
    (congrArg (fun v : Vector Chan 6 => v[d]) (reportCond_chans (holdPoint c) present (s.onChan c f))).trans
      (onChan_chans_other s f ne)
  unfold handLoadCell
  dsimp only
  split
  · split
    · exact reported _ _
    · rfl
  · split
    · rfl
    · exact reported _ _
  · split
    · exact abortStage_other s _ ne
    · split
      · exact onChan_chans_other s _ ne
      · rfl
  all_goals rfl

theorem handOver_chans_other {i : AnalogIn} {c : Channel} (s : State) (ne : i ≠ cellInput c) :
    (handOver i false s).chans[c] = s.chans[c] := by
  rcases cell_or_other i with ⟨d, rfl⟩ | other
  · rw [handOver_cell]
    exact handLoadCell_chans_other false s fun e => ne (e ▸ rfl)
  · exact congrArg (fun v : Vector Chan 6 => v[c]) (handOver_other (s := s) other .chans (by decide))

end

/-! ## The entry to SETTLE (R6, R156) -/

/-- The record of an input at the entry to SETTLE. -/
def AnalogRec.unsettledNow (x : AnalogRec) : AnalogRec :=
  if x.force.isSome then x else { x with quality := .unsettled, judged := none }

/-- The record of an input at the settle expiry. -/
def AnalogRec.settledNow (x : AnalogRec) : AnalogRec :=
  match x.quality, x.judged with
  | .unsettled, some j => { x with quality := j.quality, judged := none }
  | _, _ => x

section
variable (i : AnalogIn) (s : State)

/-- A record that is replaced and handed over as a change of quality alone. -/
def qualityChanged (f : AnalogRec → AnalogRec) : State := handOver i false (s.onAnalog i f)

theorem qualityChanged_scan (f : AnalogRec → AnalogRec) : (qualityChanged i s f).scan = (s.onAnalog i f).scan := handOver_scan _ _ _

theorem qualityChanged_touches (f : AnalogRec → AnalogRec) :
    Touches [.scan, .chans, .burns, .alarm, .shift, .handed] s (qualityChanged i s f) :=
  (onAnalog_touches i f s).mono.trans (handOver_quality_touches i _).mono

theorem qualityChanged_quiet (f : AnalogRec → AnalogRec) (quiet : Quiet s) :
    Touches [.scan, .chans] s (qualityChanged i s f) ∧ Quiet (qualityChanged i s f) := by
  have stored : Quiet (s.onAnalog i f) := quiet.congr rfl rfl
  obtain ⟨frame, still⟩ := handOver_quiet i stored
  exact ⟨(onAnalog_touches i f s).mono.trans frame.mono, still⟩

theorem unsettleInput_eq : unsettleInput i s =
    if s.scan.analog[i].force.isSome then s else qualityChanged i s AnalogRec.unsettledNow := by
  unfold unsettleInput
  split
  · rfl
  next free =>
    refine congrArg (handOver i false) (onAnalog_congr s ?_)
    exact (if_neg free).symm

theorem settleInput_eq : settleInput i s =
    if s.scan.analog[i].quality = .unsettled ∧ s.scan.analog[i].judged.isSome = true
    then qualityChanged i s AnalogRec.settledNow else s := by
  unfold settleInput
  dsimp only
  split
  next j waits judged =>
    rw [if_pos ⟨waits, by rw [judged]; rfl⟩]
    refine congrArg (handOver i false) (onAnalog_congr s ?_)
    simp only [AnalogRec.settledNow, waits, judged]
  next other =>
    refine (if_neg fun ⟨waits, judged⟩ => ?_).symm
    obtain ⟨j, judged⟩ := Option.isSome_iff_exists.1 judged
    exact other j waits judged

theorem settledNow_waiting {x : AnalogRec} (other : ¬(x.quality = .unsettled ∧ x.judged.isSome = true)) : x.settledNow = x := by
  unfold AnalogRec.settledNow
  split
  next waits judged => exact absurd ⟨waits, by rw [judged]; rfl⟩ other
  next => rfl

end

/-- A round over the inputs: each record becomes what its own round makes of it. -/
theorem inputRounds {round : AnalogIn → State → State} {f : AnalogRec → AnalogRec}
    (scan : ∀ i s, (round i s).scan = (s.onAnalog i f).scan) (s : State) :
    (∀ i : AnalogIn, (forEach (List.finRange 22) round s).scan.analog[i] = f s.scan.analog[i])
    ∧ (forEach (List.finRange 22) round s).scan.pulse = s.scan.pulse
    ∧ (forEach (List.finRange 22) round s).scan.discrete = s.scan.discrete := by
  refine ⟨fun i => ?_, ?_, ?_⟩
  · exact forEach_at (f := round) (g := fun t : State => t.scan.analog[i]) (F := f) (fun _ => True) (List.nodup_finRange 22)
      (List.mem_finRange i) (fun _ _ _ => trivial)
      (fun j t _ ne => (congrArg (fun x : Scanner => x.analog[i]) (scan j t)).trans (onAnalog_other f t (Ne.symm ne)))
      (fun t _ => (congrArg (fun x : Scanner => x.analog[i]) (scan i t)).trans (onAnalog_same i f t)) trivial
  · exact forEach_keeps (f := round) (g := fun t : State => t.scan.pulse) (fun i t => by rw [scan]; rfl) _ s
  · exact forEach_keeps (f := round) (g := fun t : State => t.scan.discrete) (fun i t => by rw [scan]; rfl) _ s

theorem onAnalog_scan_self {i : AnalogIn} {f : AnalogRec → AnalogRec} (s : State) (same : f s.scan.analog[i] = s.scan.analog[i]) :
    (s.onAnalog i f).scan = s.scan :=
  congrArg (fun v => { s.scan with analog := v }) (upd_eq_self s.scan.analog i f same)

theorem unsettleInput_scan (i : AnalogIn) (s : State) :
    (unsettleInput i s).scan = (s.onAnalog i AnalogRec.unsettledNow).scan := by
  rw [unsettleInput_eq]
  split
  next forced => exact (onAnalog_scan_self (f := AnalogRec.unsettledNow) s (if_pos forced)).symm
  next => exact qualityChanged_scan i s _

theorem settleInput_scan (i : AnalogIn) (s : State) : (settleInput i s).scan = (s.onAnalog i AnalogRec.settledNow).scan := by
  rw [settleInput_eq]
  split
  next => exact qualityChanged_scan i s _
  next other => exact (onAnalog_scan_self s (settledNow_waiting other)).symm

/-- Rounds that are each a change of quality at one input, or nothing. -/
theorem rounds_touches {round : AnalogIn → State → State} (each : ∀ i s, round i s = s ∨ ∃ f, round i s = qualityChanged i s f)
    (l : List (Fin 22)) (s : State) :
    Touches [.scan, .chans, .burns, .alarm, .shift, .handed] s (forEach l round s)
    ∧ (Quiet s → Touches [.scan, .chans] s (forEach l round s) ∧ Quiet (forEach l round s))
    ∧ ∀ p : Point, InputPoint p → Spares p s (forEach l round s) := by
  induction l generalizing s with
  | nil => exact ⟨.refl _ s, fun quiet => ⟨.refl _ s, quiet⟩, fun _ _ => .refl⟩
  | cons i l ih =>
    obtain ⟨frame, quietly, spares⟩ := ih (round i s)
    have first : Touches [.scan, .chans, .burns, .alarm, .shift, .handed] s (round i s)
        ∧ (Quiet s → Touches [.scan, .chans] s (round i s) ∧ Quiet (round i s)) ∧ ∀ p, InputPoint p → Spares p s (round i s) := by
      rcases each i s with none | ⟨f, changed⟩
      · rw [none]
        exact ⟨.refl _ s, fun quiet => ⟨.refl _ s, quiet⟩, fun _ _ => .refl⟩
      · rw [changed]
        exact ⟨qualityChanged_touches i s f, qualityChanged_quiet i s f,
          fun p input => .trans (.outside (onAnalog_touches i f s)) (handOver_spares input i false _)⟩
    obtain ⟨firstFrame, firstQuiet, firstSpares⟩ := first
    exact ⟨firstFrame.trans frame,
      fun quiet => ⟨(firstQuiet quiet).1.trans (quietly (firstQuiet quiet).2).1, (quietly (firstQuiet quiet).2).2⟩,
      fun p input => (firstSpares p input).trans (spares p input)⟩

theorem unsettleInput_round (i : AnalogIn) (s : State) : unsettleInput i s = s ∨ ∃ f, unsettleInput i s = qualityChanged i s f := by
  rw [unsettleInput_eq]
  split
  · exact .inl rfl
  · exact .inr ⟨_, rfl⟩

theorem settleInput_round (i : AnalogIn) (s : State) : settleInput i s = s ∨ ∃ f, settleInput i s = qualityChanged i s f := by
  rw [settleInput_eq]
  split
  · exact .inr ⟨_, rfl⟩
  · exact .inl rfl

/-! ## The settle expiry (R156) -/

section
variable (s : State)

/-- What the settle expiry makes of a channel in neither DOSING nor HOLD, by its load cell. -/
def Chan.settledBy (a : AnalogRec) (x : Chan) : Chan :=
  if x.state = .calib ∧ a.quality = .unsettled ∧ a.judged = some .bad then stageAborted .loadCellBad x else x

theorem settleInput_chan (c : Channel) (dosing : s.chans[c].state ≠ .dosing) (hold : s.chans[c].state ≠ .hold) :
    (settleInput (cellInput c) s).chans[c] = s.chans[c].settledBy s.scan.analog[cellInput c] := by
  rw [settleInput_eq]
  by_cases judged : s.scan.analog[cellInput c].quality = .unsettled ∧ s.scan.analog[cellInput c].judged.isSome = true
  · obtain ⟨waits, present⟩ := judged
    obtain ⟨j, value⟩ := Option.isSome_iff_exists.1 present
    have record : ((s.onAnalog (cellInput c) AnalogRec.settledNow).scan.analog[cellInput c]).quality = j.quality := by
      rw [onAnalog_same, AnalogRec.settledNow, waits, value]
    rw [if_pos ⟨waits, present⟩, qualityChanged, handOver_cell, handLoadCell_idle (s := s.onAnalog (cellInput c) AnalogRec.settledNow) dosing hold, record, Chan.settledBy, waits, value]
    cases j with
    | good => simp [Judged.quality]
    | bad =>
      have bad : Judged.bad.quality = Quality.bad := rfl
      rw [if_pos bad]
      refine (abortStage_same _ c _).trans ?_
      simp only [and_true]
      rfl
  · rw [if_neg judged, Chan.settledBy, if_neg]
    rintro ⟨-, waits, bad⟩
    exact judged ⟨waits, by rw [bad]; rfl⟩

theorem settleInput_chan_other {i : AnalogIn} {c : Channel} (ne : i ≠ cellInput c) : (settleInput i s).chans[c] = s.chans[c] := by
  rw [settleInput_eq]
  split
  · exact handOver_chans_other _ ne
  · rfl

theorem Chan.settledBy_state {a : AnalogRec} {x : Chan} (dosing : x.state ≠ .dosing) (hold : x.state ≠ .hold) :
    (x.settledBy a).state ≠ .dosing ∧ (x.settledBy a).state ≠ .hold := by
  unfold settledBy
  split
  · exact ⟨nofun, nofun⟩
  · exact ⟨dosing, hold⟩

theorem settleRounds_chan {l : List (Fin 22)} {c : Channel} (once : l.Nodup) (mem : cellInput c ∈ l)
    (dosing : s.chans[c].state ≠ .dosing) (hold : s.chans[c].state ≠ .hold) :
    ((forEach l settleInput s).scan.analog[cellInput c], (forEach l settleInput s).chans[c])
      = (s.scan.analog[cellInput c].settledNow, s.chans[c].settledBy s.scan.analog[cellInput c]) := by
  refine forEach_at (f := settleInput) (g := fun t : State => (t.scan.analog[cellInput c], t.chans[c]))
    (F := fun x => (x.1.settledNow, x.2.settledBy x.1)) (i := cellInput c)
    (fun t => t.chans[c].state ≠ .dosing ∧ t.chans[c].state ≠ .hold) once mem (fun i t h => ?_) (fun i t h ne => ?_)
    (fun t h => ?_) ⟨dosing, hold⟩
  · by_cases here : i = cellInput c
    · subst here
      rw [settleInput_chan t c h.1 h.2]
      exact Chan.settledBy_state h.1 h.2
    · rw [settleInput_chan_other t here]
      exact h
  · refine Prod.ext ?_ (settleInput_chan_other t ne)
    exact (congrArg (fun x : Scanner => x.analog[cellInput c]) (settleInput_scan i t)).trans (onAnalog_other _ t (Ne.symm ne))
  · refine Prod.ext ?_ (settleInput_chan t c h.1 h.2)
    exact (congrArg (fun x : Scanner => x.analog[cellInput c]) (settleInput_scan _ t)).trans (onAnalog_same _ _ t)

theorem settleInputs_chan (c : Channel) (dosing : s.chans[c].state ≠ .dosing) (hold : s.chans[c].state ≠ .hold) :
    (settleInputs s).chans[c] = s.chans[c].settledBy s.scan.analog[cellInput c] := by
  obtain ⟨-, settled⟩ := Prod.mk.injEq .. ▸ settleRounds_chan s (List.nodup_finRange 22) (List.mem_finRange (cellInput c)) dosing hold
  rw [settleInputs, settled]

end

/-! ## The fans at the settle expiry (R102) -/

/-- The record of a fan whose damper is computed again while it is on. -/
def FanRec.resumed (overload : Bool) (s : State) (f : Fan) (x : FanRec) : FanRec := if x.on then x.dampered overload s f else x

section
variable (s : State)

/-- The round of the settle expiry at one fan. -/
def resumeFan (f : Fin 8) (s : State) : State := if s.cooler.fans[f].on then computeDamper f s else s

theorem fansResume_eq : fansResume s = forEach (List.finRange 8) resumeFan s := rfl

theorem resumeFan_same (f : Fan) : (resumeFan f s).cooler.fans[f] = s.cooler.fans[f].resumed s.cooler.overload s f := by
  unfold FanRec.resumed resumeFan
  split
  · exact computeDamper_same f s
  · rfl

theorem resumeFan_rest (f : Fin 8) : Touches [.cooler] s (resumeFan f s)
    ∧ ∀ v, ({ (resumeFan f s).cooler with fans := v } : Cooler) = { s.cooler with fans := v } := by
  unfold resumeFan
  split
  · rw [computeDamper_eq]
    exact ⟨onFan_touches f _ s, fun _ => rfl⟩
  · exact ⟨.refl _ s, fun _ => rfl⟩

theorem resumeFans_fan {l : List (Fin 8)} {f : Fan} (once : l.Nodup) (mem : f ∈ l) :
    (forEach l resumeFan s).cooler.fans[f] = s.cooler.fans[f].resumed s.cooler.overload s f := by
  refine forEach_at (f := resumeFan) (g := fun t : State => t.cooler.fans[f]) (F := FanRec.resumed s.cooler.overload s f)
    (fun t => t.store = s.store ∧ t.floor = s.floor ∧ t.cooler.overload = s.cooler.overload) once mem (fun n t h => ?_)
    (fun n t _ ne => ?_) (fun t h => ?_) ⟨rfl, rfl, rfl⟩
  · obtain ⟨store, floor, overload⟩ := h
    obtain ⟨frame, rest⟩ := resumeFan_rest t n
    exact ⟨(frame .store (by decide)).trans store, (frame .floor (by decide)).trans floor,
      (congrArg Cooler.overload (rest t.cooler.fans)).trans overload⟩
  · unfold resumeFan
    split
    · exact computeDamper_other t (Ne.symm ne)
    · rfl
  · obtain ⟨store, floor, overload⟩ := h
    refine (resumeFan_same t f).trans ?_
    rw [overload, FanRec.resumed, FanRec.resumed, FanRec.dampered_congr _ store floor]

theorem resumeFans_touches (l : List (Fin 8)) : Touches [.cooler] s (forEach l resumeFan s) :=
  .each (fun f t => (resumeFan_rest t f).1) l s

theorem resumeFans_cooler (l : List (Fin 8)) (v : Vector FanRec 8) :
    ({ (forEach l resumeFan s).cooler with fans := v } : Cooler) = { s.cooler with fans := v } :=
  forEach_keeps (f := resumeFan) (g := fun t => ({ t.cooler with fans := v } : Cooler)) (fun f t => (resumeFan_rest t f).2 v) l s

theorem fansResume_fan (f : Fan) : (fansResume s).cooler.fans[f] = s.cooler.fans[f].resumed s.cooler.overload s f := by
  rw [fansResume_eq, resumeFans_fan s (List.nodup_finRange 8) (List.mem_finRange f)]

theorem fansResume_touches : Touches [.cooler] s (fansResume s) := by
  rw [fansResume_eq]
  exact resumeFans_touches s (List.finRange 8)

theorem fansResume_cooler (v : Vector FanRec 8) : ({ (fansResume s).cooler with fans := v } : Cooler) = { s.cooler with fans := v } := by
  rw [fansResume_eq]
  exact resumeFans_cooler s (List.finRange 8) v

end

/-- Out of STANDBY and SETTLE a fan that is on gets the damper of its effective target. -/
theorem FanRec.resumed_eq (overload : Bool) {s : State} (f : Fan) (x : FanRec) (mode : s.floor.mode = .normal) :
    x.resumed overload s f =
      let eff := if overload = true ∧ f.val < 3 then min 1200 (x.target + s.live.cooler.boost) else x.target
      if x.on then
        { x with effTarget := eff, damper := (clampInt 0 1000 (tablePosition x.table eff + x.trim)).toNat }
      else x := by
  have awake : ¬(s.floor.mode = .standby ∨ s.floor.mode = .settle) := by rw [mode]; decide
  have hot : (overload && isHot f) = true ↔ overload = true ∧ f.val < 3 := by rw [Bool.and_eq_true, isHot_iff]
  dsimp only
  unfold FanRec.resumed FanRec.dampered
  simp only [if_neg awake, hot]
  split
  · rfl
  · rfl

/-! ## SETTLE as a whole (R156) -/

theorem settleInputs_touches (s : State) : Touches [.scan, .chans, .burns, .alarm, .shift, .handed] s (settleInputs s) := by
  rw [settleInputs]
  exact (rounds_touches settleInput_round (List.finRange 22) s).1

theorem settleInputs_quiet {s : State} (quiet : Quiet s) : Touches [.scan, .chans] s (settleInputs s) := by
  rw [settleInputs]
  exact ((rounds_touches settleInput_round (List.finRange 22) s).2.1 quiet).1

theorem settleInputs_spares (s : State) {p : Point} (input : InputPoint p) : Spares p s (settleInputs s) := by
  rw [settleInputs]
  exact (rounds_touches settleInput_round (List.finRange 22) s).2.2 p input

theorem settleInputs_scan (s : State) : (∀ i : AnalogIn, (settleInputs s).scan.analog[i] = s.scan.analog[i].settledNow)
    ∧ (settleInputs s).scan.pulse = s.scan.pulse ∧ (settleInputs s).scan.discrete = s.scan.discrete := by
  rw [settleInputs]
  exact inputRounds (round := settleInput) (f := AnalogRec.settledNow) settleInput_scan s

/-- The settle expiry once the floor is in NORMAL, before FALLBACK is judged. -/
def settled (s : State) : State := fansResume (settleInputs s)

section
variable (s : State)

theorem settled_touches : Touches [.scan, .chans, .burns, .cooler, .alarm, .shift, .handed] s (settled s) := by
  rw [settled]
  exact (settleInputs_touches s).mono.trans (fansResume_touches _).mono

theorem settled_quiet {s : State} (quiet : Quiet s) : Touches [.scan, .chans, .cooler] s (settled s) := by
  rw [settled]
  exact (settleInputs_quiet quiet).mono.trans (fansResume_touches _).mono

theorem settled_scan : (∀ i : AnalogIn, (settled s).scan.analog[i] = s.scan.analog[i].settledNow)
    ∧ (settled s).scan.pulse = s.scan.pulse ∧ (settled s).scan.discrete = s.scan.discrete := by
  have scan : (fansResume (settleInputs s)).scan = (settleInputs s).scan := fansResume_touches _ .scan (by decide)
  rw [settled, scan]
  exact settleInputs_scan s

theorem settled_chan (c : Channel) (dosing : s.chans[c].state ≠ .dosing) (hold : s.chans[c].state ≠ .hold) :
    (settled s).chans[c] = s.chans[c].settledBy s.scan.analog[cellInput c] := by
  have chans : (fansResume (settleInputs s)).chans = (settleInputs s).chans := fansResume_touches _ .chans (by decide)
  rw [settled, chans]
  exact settleInputs_chan s c dosing hold

theorem settled_fan (f : Fan) (mode : s.floor.mode = .normal) : (settled s).cooler.fans[f] =
    let x := s.cooler.fans[f]
    let eff := if s.cooler.overload = true ∧ f.val < 3 then min 1200 (x.target + s.live.cooler.boost) else x.target
    if x.on then
      { x with effTarget := eff, damper := (clampInt 0 1000 (tablePosition x.table eff + x.trim)).toNat }
    else x := by
  have cooler : (settleInputs s).cooler = s.cooler := settleInputs_touches s .cooler (by decide)
  have live : (settleInputs s).live = s.live := congrArg Store.live (settleInputs_touches s .store (by decide))
  have floor : (settleInputs s).floor = s.floor := settleInputs_touches s .floor (by decide)
  have awake : (settleInputs s).floor.mode = .normal := by rw [floor, mode]
  rw [settled, fansResume_fan, FanRec.resumed_eq _ f _ awake, cooler, live]

theorem settled_cooler : (settled s).cooler = { s.cooler with fans := (settled s).cooler.fans } := by
  have cooler : (settleInputs s).cooler = s.cooler := settleInputs_touches s .cooler (by decide)
  have resumed := fansResume_cooler (settleInputs s) (fansResume (settleInputs s)).cooler.fans
  rw [cooler] at resumed
  rw [settled]
  generalize fansResume (settleInputs s) = t at resumed ⊢
  exact resumed

theorem settled_spares {p : Point} (input : InputPoint p) : (settled s).alarm.points[p] = s.alarm.points[p] := by
  have alarm : (fansResume (settleInputs s)).alarm = (settleInputs s).alarm := fansResume_touches _ .alarm (by decide)
  rw [settled, points_congr alarm]
  exact (settleInputs_spares s input).point

end

/-- The floor back in NORMAL (R156). -/
def settleLeft (s : State) : State := s.onFloor fun x => { x with mode := .normal, settle := none }

theorem settleExpires_eq {s : State} (mode : s.floor.mode = .settle) (runs : s.floor.settle.isSome = true) :
    settleExpires s = if s.floor.linkLost then enterFallback (settled (settleLeft s)) else settled (settleLeft s) := by
  have floor : (settled (settleLeft s)).floor = { s.floor with mode := .normal, settle := none } :=
    settled_touches (settleLeft s) .floor (by decide)
  unfold settleExpires
  rw [if_pos ⟨mode, runs⟩]
  unfold settled settleLeft at floor ⊢
  dsimp only
  rw [floor]

theorem unsettleInputs_touches (s : State) : Touches [.scan, .chans, .burns, .alarm, .shift, .handed] s (unsettleInputs s) := by
  rw [unsettleInputs]
  exact (rounds_touches unsettleInput_round (List.finRange 22) s).1

/-- In a quiet state nothing follows a quality that is not BAD. -/
theorem handOver_quiet_usable {i : AnalogIn} {s : State} (quiet : Quiet s) (usable : s.scan.analog[i].quality ≠ .bad) :
    handOver i false s = s := by
  rcases cell_or_other i with ⟨c, rfl⟩ | other
  · rw [handOver_cell, handLoadCell_idle (quiet.channels c).1 (quiet.channels c).2, if_neg usable]
  · exact handOver_other_quiet other quiet

theorem unsettleInput_quiet (i : AnalogIn) {s : State} (quiet : Quiet s) :
    Touches [.scan] s (unsettleInput i s) ∧ Quiet (unsettleInput i s) := by
  rw [unsettleInput_eq]
  split
  · exact ⟨.refl _ s, quiet⟩
  next free =>
    have stored : Quiet (s.onAnalog i AnalogRec.unsettledNow) := quiet.congr rfl rfl
    have usable : ((s.onAnalog i AnalogRec.unsettledNow).scan.analog[i]).quality ≠ .bad := by
      rw [onAnalog_same, AnalogRec.unsettledNow, if_neg free]
      exact nofun
    rw [qualityChanged, handOver_quiet_usable stored usable]
    exact ⟨onAnalog_touches i _ s, stored⟩

theorem unsettleInputs_quiet {s : State} (quiet : Quiet s) : Touches [.scan] s (unsettleInputs s) := by
  rw [unsettleInputs]
  exact (forEach_preserves (P := fun t => Touches [.scan] s t ∧ Quiet t) (f := unsettleInput)
    (fun i t h => ⟨h.1.trans (unsettleInput_quiet i h.2).1, (unsettleInput_quiet i h.2).2⟩) _ ⟨.refl _ s, quiet⟩).1

theorem unsettleInputs_scan (s : State) : (∀ i : AnalogIn, (unsettleInputs s).scan.analog[i] = s.scan.analog[i].unsettledNow)
    ∧ (unsettleInputs s).scan.pulse = s.scan.pulse ∧ (unsettleInputs s).scan.discrete = s.scan.discrete := by
  rw [unsettleInputs]
  exact inputRounds (round := unsettleInput) (f := AnalogRec.unsettledNow) unsettleInput_scan s

theorem leaveStandby_accepted {s : State} (standby : s.floor.mode = .standby) : leaveStandby s =
    (unsettleInputs (s.onFloor fun x => { x with mode := .settle, settle := some 2000 }), done []) := if_pos standby

theorem settledNow_eq (x : AnalogRec) : x.settledNow = match x.quality, x.judged with
    | .unsettled, some .good => { x with quality := .good, judged := none }
    | .unsettled, some .bad => { x with quality := .bad, judged := none }
    | _, _ => x := by
  unfold AnalogRec.settledNow
  rcases x with ⟨raw, lastGood, value, quality, judged, low, high, force⟩
  cases quality <;> rcases judged with _ | judged
  case unsettled.some => cases judged <;> rfl
  all_goals rfl

/-- A stage that its load cell aborts is not aborted a second time by the entry to FALLBACK. -/
theorem Chan.settledBy_lost (a : AnalogRec) (x : Chan) :
    (if (x.settledBy a).state = .calib then stageAborted .linkLost (x.settledBy a) else x.settledBy a)
      = if x.state ≠ .calib then x
        else if a.quality = .unsettled ∧ a.judged = some .bad then stageAborted .loadCellBad x else stageAborted .linkLost x := by
  by_cases calib : x.state = .calib
  · rw [if_neg (not_not_intro calib)]
    by_cases bad : a.quality = .unsettled ∧ a.judged = some .bad
    · have aborted : x.settledBy a = stageAborted .loadCellBad x := if_pos ⟨calib, bad⟩
      rw [aborted, if_pos bad]
      exact if_neg nofun
    · have kept : x.settledBy a = x := if_neg fun h => bad h.2
      rw [kept, if_pos calib, if_neg bad]
  · have kept : x.settledBy a = x := if_neg fun h => calib h.1
    rw [kept, if_neg calib, if_pos calib]

theorem Chan.settledBy_kept (a : AnalogRec) (x : Chan) : x.settledBy a
    = if x.state ≠ .calib then x
      else if a.quality = .unsettled ∧ a.judged = some .bad then stageAborted .loadCellBad x else x := by
  unfold settledBy
  by_cases calib : x.state = .calib
  · rw [if_neg (not_not_intro calib)]
    simp only [calib, true_and]
  · rw [if_neg fun h => calib h.1, if_pos calib]

/-- Settles O41. -/
theorem settlePeriod : Obligations.SettlePeriod := by
  refine ⟨fun s run awake => ?_, fun s run => ⟨fun standby => ?_, fun mode runs => ?_⟩⟩
  · refine exec_answers (a := done []) run rfl (if_neg ?_)
    rcases awake with h | h <;> rw [h] <;> decide
  · let u := s.onFloor fun x => { x with mode := .settle, settle := some 2000 }
    obtain ⟨analog, pulse, discrete⟩ := unsettleInputs_scan u
    have frame := unsettleInputs_touches u
    have quietly := unsettleInputs_quiet (s := u)
    have floor : (unsettleInputs u).floor = u.floor := frame .floor (by decide)
    have accepted := leaveStandby_accepted standby
    have moded : Touches [.floor] s u := onFloor_touches _ s
    generalize unsettleInputs u = t at *
    exact ⟨_, exec_answers run rfl accepted, floor, analog, pulse, discrete, rfl,
      fun ⟨burners, channels⟩ => Touches.answering (l := [.floor, .scan])
        (moded.mono.trans (quietly ⟨burners, channels⟩).mono), Touches.answering
        (l := [.floor, .scan, .chans, .burns, .alarm, .shift, .handed]) (moded.mono.trans frame.mono)⟩
  · let u := settleLeft s
    have moded : Touches [.floor] s u := onFloor_touches _ s
    have frame := settled_touches u
    have quietly := settled_quiet (s := u)
    obtain ⟨analog, pulse, discrete⟩ := settled_scan u
    have chan := settled_chan u
    have fan := fun f => settled_fan u f rfl
    have cooler := settled_cooler u
    have spared := settled_spares u (p := pt 81) (.inr (by decide))
    have expires := settleExpires_eq mode runs
    have floor : (settled u).floor = { s.floor with mode := .normal, settle := none } := frame .floor (by decide)
    have store : (settled u).store = s.store := frame .store (by decide)
    have planner : (settled u).planner = s.planner := frame .planner (by decide)
    generalize settled (settleLeft s) = t at *
    have records (i : AnalogIn) : s.scan.analog[i].settledNow = match s.scan.analog[i].quality, s.scan.analog[i].judged with
        | .unsettled, some .good => { s.scan.analog[i] with quality := .good, judged := none }
        | .unsettled, some .bad => { s.scan.analog[i] with quality := .bad, judged := none }
        | _, _ => s.scan.analog[i] := settledNow_eq _
    by_cases lost : s.floor.linkLost = true
    · rw [if_pos lost] at expires
      have entered := enterFallback_touches t
      have demands := enterFallback_planner t
      have stages := enterFallback_chans t
      have mode := enterFallback_floor t
      rw [planner] at demands
      rw [State.live, store, floor] at mode
      have scan : (enterFallback t).scan = t.scan := entered .scan (by decide)
      have still : (enterFallback t).cooler = t.cooler := entered .cooler (by decide)
      have alarm : (enterFallback t).alarm = t.alarm := entered .alarm (by decide)
      generalize enterFallback t = w at *
      refine ⟨w, exec_floorExpiry run expires, ?_, fun i => ?_, ?_, ?_, fun f => ?_, ?_, fun b => ?_, ?_, ?_, fun c dosing hold => ?_,
        fun ⟨burners, channels⟩ => moded.mono.trans ((quietly ⟨burners, channels⟩).mono.trans entered.mono),
        moded.mono.trans (frame.mono.trans entered.mono)⟩
      · exact mode.trans (if_pos lost).symm
      · rw [scan, analog i]
        exact records i
      · rw [scan, pulse]
        rfl
      · rw [scan, discrete]
        rfl
      · rw [still]
        exact fan f
      · rw [still]
        exact cooler
      · rw [demands, Planner.requested_get, if_pos lost]
      · rw [demands, Planner.requested]
      · rw [alarm]
        exact spared
      · rw [stages c, chan c dosing hold, if_pos lost]
        exact Chan.settledBy_lost _ _
    · rw [if_neg lost] at expires
      refine ⟨t, exec_floorExpiry run expires, floor.trans (if_neg lost).symm, fun i => (analog i).trans (records i), pulse, discrete,
        fan, cooler, fun b => ?_, ?_, spared, fun c dosing hold => ?_,
        fun ⟨burners, channels⟩ => moded.mono.trans (quietly ⟨burners, channels⟩).mono, moded.mono.trans frame.mono⟩
      · rw [planner, if_neg lost]
      · rw [planner]
      · rw [chan c dosing hold, if_neg lost]
        exact Chan.settledBy_kept _ _

end Sys2Proof.Machine
end

section
/-! PROOFS. The debounced inputs: the stroke switches, the stop loop and the clinker crusher (R12 to R14). -/

namespace Sys2Proof.Machine

-- One proof at a time: proofs that wait for one another hold a thread each, and the threads' memory is bounded.
set_option Elab.async false

/-! ## A plan stored (R28, R33, R34) -/

section
variable (s : State)

theorem onDemand_planner (b : Burner) (f : Demand → Demand) :
    (s.onDemand b f).planner = { s.planner with demand := s.planner.demand.upd b f } := rfl

/-- The round of a stored plan at one channel. -/
def entryStored (plan : List Planned) (entry : Channel → PlanEntry) (c : Channel) (s : State) : State :=
  (s.onEntry c fun _ => entry c).onPlanner fun x => { x with excesses := upd x.excesses c fun _ => excessOf plan c }

theorem storePlan_eq (b : Burner) (aside excess : Nat) (plan : List Planned) (rewritten : List Channel)
    (entry : Channel → PlanEntry) : storePlan b aside excess plan rewritten entry s =
      (forEach rewritten (entryStored plan entry) s).onDemand b fun d => { d with
        shortfall := (s.planner.demand.get b).hApp - carriedHeat plan - aside
        surplus := min 250000 (surplusOf plan + excess) } := rfl

theorem entriesStored_touches (plan : List Planned) (entry : Channel → PlanEntry) (l : List Channel) :
    Touches [.planner] s (forEach l (entryStored plan entry) s) :=
  .each (fun c t => (onEntry_touches c _ t).trans (onPlanner_touches _ _)) l s

/-- The planner but for its entries and excesses. -/
def Planner.outline (p : Planner) : Planner :=
  { p with entries := Vector.ofFn fun _ => emptyEntry, excesses := Vector.ofFn fun _ => 0 }

theorem entriesStored_outline (plan : List Planned) (entry : Channel → PlanEntry) (l : List Channel) :
    (forEach l (entryStored plan entry) s).planner.outline = s.planner.outline :=
  forEach_keeps (f := entryStored plan entry) (g := fun t => t.planner.outline) (fun _ _ => rfl) l s

theorem entriesStored_at (plan : List Planned) (entry : Channel → PlanEntry) (l : List Channel) (c : Channel) :
    (forEach l (entryStored plan entry) s).planner.entries[c] = (if c ∈ l then entry c else s.planner.entries[c])
    ∧ (forEach l (entryStored plan entry) s).planner.excesses[c]
      = (if c ∈ l then excessOf plan c else s.planner.excesses[c]) := by
  induction l generalizing s with
  | nil => exact ⟨(if_neg List.not_mem_nil).symm, (if_neg List.not_mem_nil).symm⟩
  | cons a l ih =>
    obtain ⟨entries, excesses⟩ := ih (entryStored plan entry a s)
    by_cases here : c = a
    · subst here
      have stored : (entryStored plan entry c s).planner.entries[c] = entry c := upd_same s.planner.entries c _
      have excess : (entryStored plan entry c s).planner.excesses[c] = excessOf plan c := upd_same s.planner.excesses c _
      rw [stored, ite_self] at entries
      rw [excess, ite_self] at excesses
      rw [if_pos List.mem_cons_self, if_pos List.mem_cons_self]
      exact ⟨entries, excesses⟩
    · have stored : (entryStored plan entry a s).planner.entries[c] = s.planner.entries[c] :=
        upd_other s.planner.entries _ (Ne.symm here)
      have excess : (entryStored plan entry a s).planner.excesses[c] = s.planner.excesses[c] :=
        upd_other s.planner.excesses _ (Ne.symm here)
      rw [stored] at entries
      rw [excess] at excesses
      simp only [List.mem_cons, here, false_or]
      exact ⟨entries, excesses⟩

theorem storePlan_outline (b : Burner) (aside excess : Nat) (plan : List Planned) (rewritten : List Channel)
    (entry : Channel → PlanEntry) : (storePlan b aside excess plan rewritten entry s).planner.outline =
      { s.planner.outline with demand := s.planner.demand.upd b fun d => { d with
          shortfall := (s.planner.demand.get b).hApp - carriedHeat plan - aside
          surplus := min 250000 (surplusOf plan + excess) } } := by
  have kept := entriesStored_outline s plan entry rewritten
  rw [storePlan_eq, onDemand_planner]
  generalize (forEach rewritten (entryStored plan entry) s).planner = p at kept
  exact congrArg (fun q : Planner => { q with demand := q.demand.upd b fun d => { d with
    shortfall := (s.planner.demand.get b).hApp - carriedHeat plan - aside
    surplus := min 250000 (surplusOf plan + excess) } }) kept

end

/-! ## A cap event (R27, R28) -/

section
variable (cap : Nat) (s : State)

theorem handReplan_planner : (handReplan s).planner = s.planner := handReplan_touches s .planner (by decide)

/-- A cap event sets H_cap, lowers H_app of MAIN to it, and leaves MAIN's request and CALC's demand. -/
theorem capEvent_demand : (capEvent cap s).planner.hCap = cap
    ∧ (capEvent cap s).planner.demand.main.hApp = min s.planner.demand.main.hApp cap
    ∧ (capEvent cap s).planner.demand.main.hReq = s.planner.demand.main.hReq
    ∧ (capEvent cap s).planner.demand.calciner = s.planner.demand.calciner := by
  by_cases lowers : cap < s.planner.demand.main.hApp
  · let u := (s.onPlanner fun x => { x with hCap := cap }).onDemand .main fun d => { d with hApp := cap }
    have event : capEvent cap s = handReplan (replan u) := if_pos lowers
    have kept := storePlan_outline u .main (standingHeat u) (standingExcess u)
      (splitHeat (u.planner.demand.main.hApp - standingHeat u) (replanFuels u)) (replanned u)
      (dosingEntry (splitHeat (u.planner.demand.main.hApp - standingHeat u) (replanFuels u)))
    rw [event, handReplan_planner]
    refine ⟨(congrArg Planner.hCap kept :), (congrArg (fun p : Planner => p.demand.main.hApp) kept).trans ?_,
      (congrArg (fun p : Planner => p.demand.main.hReq) kept :), (congrArg (fun p : Planner => p.demand.calciner) kept :)⟩
    show cap = _
    omega
  · have event : capEvent cap s = s.onPlanner fun x => { x with hCap := cap } := if_neg lowers
    rw [event]
    refine ⟨rfl, ?_, rfl, rfl⟩
    show s.planner.demand.main.hApp = _
    omega

/-- An entry to OVERLOAD is a cap event for the planner. -/
theorem enterOverload_planner : (enterOverload s).planner
    = (capEvent (overloadCap s) (s.onCooler fun x => { x with overload := true, cap := overloadCap s })).planner := by
  have dampers (t : State) : (forEach hotFans computeDamper t).planner = t.planner :=
    forEach_keeps (f := computeDamper) (g := State.planner) (fun _ _ => rfl) hotFans t
  exact (reportCond_touches (pt 70) true _ .planner (by decide)).trans (dampers _)

theorem enterOverload_cond : (enterOverload s).alarm.points[pt 70].cond = true :=
  (cond_of_reportCond (pt 70) (pt 70) true _).trans (if_pos rfl)

theorem overloadCap_eq : overloadCap s =
    if fires s .main then min 249999 (s.planner.demand.main.hApp * s.live.cooler.capPercent / 100) else 0 := rfl

end

/-! ## The debounce (R12) -/

section
variable {d : DiscreteIn} {s : State}

theorem exec_debounceExpiry (run : s.phase = .running) (runs : s.scan.discrete[d].timer.isSome = true) :
    exec (.debounceExpiry d) s = .next
      (if s.scan.discrete[d].pin = s.scan.discrete[d].debounced
       then s.onDiscrete d fun x => { x with debounced := x.pin, timer := none }
       else discreteChanged d s.scan.discrete[d].pin (s.onDiscrete d fun x => { x with debounced := x.pin, timer := none })) :=
  congrArg Host.Outcome.next ((if_pos run).trans (if_pos runs))

theorem onDiscrete_same (f : DiscreteRec → DiscreteRec) (s : State) : (s.onDiscrete d f).scan.discrete[d] = f s.scan.discrete[d] :=
  upd_same s.scan.discrete d f

theorem onDiscrete_congr {f g : DiscreteRec → DiscreteRec} (s : State) (h : f s.scan.discrete[d] = g s.scan.discrete[d]) :
    s.onDiscrete d f = s.onDiscrete d g :=
  congrArg (fun v => s.onScan fun x => { x with discrete := v }) (upd_congr s.scan.discrete d h)

/-- A level that has changed is a change event. -/
theorem exec_debounceChange {u : State} (level : Bool) (run : s.phase = .running) (runs : s.scan.discrete[d].timer.isSome = true)
    (pin : s.scan.discrete[d].pin = level) (before : s.scan.discrete[d].debounced = !level)
    (stored : u = s.onDiscrete d fun x => { x with debounced := x.pin, timer := none }) :
    exec (.debounceExpiry d) s = .next (discreteChanged d level u) := by
  have moved : ¬s.scan.discrete[d].pin = s.scan.discrete[d].debounced := by
    rw [pin, before]
    cases level <;> decide
  rw [exec_debounceExpiry run runs, if_neg moved, pin, stored]

theorem exec_discretePinChange {level : Bool} (run : s.phase = .running) :
    exec (.discretePinChange d level) s = .next (s.onDiscrete d fun x => x.moved level) :=
  congrArg Host.Outcome.next (if_pos run)

end

/-! ## The stop loop (R13) -/

section
variable (s : State)

/-- The stop loop open, before the sections and the stages stop. -/
def stopHanded : State :=
  (reportCond (pt 79) true s).onHanded fun l => l ++ [(.main, .emergencyStop), (.calciner, .emergencyStop)]

theorem stopHanded_touches : Touches [.alarm, .shift, .handed] s (stopHanded s) :=
  (reportCond_touches (pt 79) true s).mono.trans (onHanded_touches _ _).mono

theorem emergencyStop_eq : emergencyStop s = abortStages .emergencyStop (stopGrates (stopHanded s)) := rfl

theorem emergencyStop_touches : Touches [.chans, .cooler, .alarm, .shift, .handed] s (emergencyStop s) := by
  rw [emergencyStop_eq]
  exact (stopHanded_touches s).mono.trans ((stopGrates_touches _).mono.trans (abortStages_touches _ _).mono)

theorem emergencyStop_alarm : (emergencyStop s).alarm = (stopHanded s).alarm := by
  rw [emergencyStop_eq]
  exact (abortStages_touches _ _ .alarm (by decide)).trans (stopGrates_touches _ .alarm (by decide))

theorem emergencyStop_handed : (emergencyStop s).handed = (stopHanded s).handed := by
  rw [emergencyStop_eq]
  exact (abortStages_touches _ _ .handed (by decide)).trans (stopGrates_touches _ .handed (by decide))

theorem emergencyStop_grate (g : Grate) : (emergencyStop s).cooler.grates[g] = s.cooler.grates[g].stopped := by
  have cooler : (abortStages .emergencyStop (stopGrates (stopHanded s))).cooler = (stopGrates (stopHanded s)).cooler :=
    abortStages_touches _ _ .cooler (by decide)
  have before : (stopHanded s).cooler = s.cooler := stopHanded_touches s .cooler (by decide)
  rw [emergencyStop_eq, cooler, stopGrates_at, before]

theorem emergencyStop_chan (c : Channel) : (emergencyStop s).chans[c]
    = if s.chans[c].state = .calib then stageAborted .emergencyStop s.chans[c] else s.chans[c] := by
  have stopped : (stopGrates (stopHanded s)).chans = s.chans :=
    (stopGrates_touches _ .chans (by decide)).trans (stopHanded_touches s .chans (by decide))
  rw [emergencyStop_eq, abortStages_chans, stopped]

end

theorem discreteChanged_stop (s : State) : discreteChanged 3 false s = emergencyStop s := by
  unfold discreteChanged
  rw [dif_neg (by decide), if_pos rfl, if_neg Bool.false_ne_true]

theorem discreteChanged_crusher (level : Bool) (s : State) : discreteChanged 4 level s =
    if level then reportCond (pt 80) false s else crusherStopped s := by
  unfold discreteChanged
  rw [dif_neg (by decide), if_neg (by decide)]

/-- Settles O8: the stop loop opens with everything R13 names, and its closing reports point 79 alone. -/
theorem stopLoopOpens : Obligations.StopLoopOpens := by
  refine ⟨fun s run runs pin before => ?_, fun s run runs pin before => ?_⟩
  · let u := s.onDiscrete 3 fun x => { x with debounced := x.pin, timer := none }
    have stored := onDiscrete_touches 3 (fun x => { x with debounced := x.pin, timer := none }) s
    have reported := reportCond_touches (pt 79) false u
    have scan : (reportCond (pt 79) false u).scan = u.scan := reported .scan (by decide)
    have closed : u.scan.discrete[(3 : DiscreteIn)].debounced = true :=
      (congrArg DiscreteRec.debounced (onDiscrete_same _ s)).trans pin
    refine ⟨_, exec_debounceChange true run runs pin before rfl, scan.trans ?_, ?_,
      (cond_of_reportCond (pt 79) (pt 79) false u).trans (if_pos rfl), stored.mono.trans reported.mono⟩
    · exact congrArg State.scan (onDiscrete_congr s (congrArg (fun p => { s.scan.discrete[(3 : DiscreteIn)] with
        debounced := p, timer := none }) pin))
    · exact (congrArg (fun x : Scanner => x.discrete[(3 : DiscreteIn)].debounced) scan).trans closed
  · let u := s.onDiscrete 3 fun x => { x with debounced := x.pin, timer := none }
    have stored := onDiscrete_touches 3 (fun x => { x with debounced := x.pin, timer := none }) s
    have stopped := emergencyStop_touches u
    have scan : (emergencyStop u).scan = u.scan := stopped .scan (by decide)
    have handed := emergencyStop_handed u
    have alarm := emergencyStop_alarm u
    have grates := emergencyStop_grate u
    have chans := emergencyStop_chan u
    have isOpen : u.scan.discrete[(3 : DiscreteIn)].debounced = false :=
      (congrArg DiscreteRec.debounced (onDiscrete_same _ s)).trans pin
    have command : exec (.debounceExpiry 3) s = .next (emergencyStop u) :=
      (exec_debounceChange false run runs pin before rfl).trans (congrArg Host.Outcome.next (discreteChanged_stop u))
    generalize emergencyStop u = t at *
    refine ⟨t, command, ?_, ?_, fun b => ?_, fun absent b => ?_, fun g => ?_, fun c calib => ?_, fun c other => ?_,
      stored.mono.trans stopped.mono⟩
    · exact (congrArg (fun x : Scanner => x.discrete[(3 : DiscreteIn)].debounced) scan).trans isOpen
    · rw [points_congr alarm]
      exact (cond_of_reportCond (pt 79) (pt 79) true u).trans (if_pos rfl)
    · rw [handed]
      exact List.mem_append_right _ (by cases b <;> decide)
    · rw [handed]
      refine List.mem_append_left _ ?_
      rw [handed_of_reportCond, if_pos ⟨absent, rfl⟩]
      exact List.mem_append_right _ (by cases b <;> exact List.mem_of_elem_eq_true rfl)
    · exact grates g ▸ GrateRec.stopped_still _
    · rw [chans c]
      have aborted : u.chans[c].state = .calib := calib
      rw [if_pos aborted]
      exact ⟨rfl, rfl, rfl, rfl⟩
    · exact (chans c).trans (if_neg other)

/-! ## The clinker crusher (R14, R104, R105) -/

section
variable (s : State)

/-- The crusher stopped, before the cooler is told. -/
def crusherReported : State := stopGrate 2 (reportCond (pt 80) true s)

theorem crusherStopped_eq : crusherStopped s = enteringEvent (crusherReported s) := rfl

theorem crusherReported_touches : Touches [.cooler, .alarm, .shift, .handed] s (crusherReported s) :=
  (reportCond_touches (pt 80) true s).mono.trans (stopGrate_touches 2 _).mono

theorem crusherReported_cooler : (crusherReported s).cooler = (s.onGrate 2 GrateRec.stopped).cooler := by
  have cooler : (reportCond (pt 80) true s).cooler = s.cooler := reportCond_touches (pt 80) true s .cooler (by decide)
  refine Eq.trans (b := { (reportCond (pt 80) true s).cooler with
    grates := upd (reportCond (pt 80) true s).cooler.grates 2 GrateRec.stopped }) rfl ?_
  rw [cooler]
  rfl

end

theorem overloadCap_congr {s t : State} (planner : t.planner = s.planner) (burns : t.burns = s.burns) (store : t.store = s.store) :
    overloadCap t = overloadCap s := by
  unfold overloadCap fires State.live
  rw [planner, burns, store]

/-- R105: the fans after an entry to OVERLOAD. -/
theorem enterOverload_fan (s : State) (f : Fan) : (enterOverload s).cooler.fans[f]
    = if isHot f then s.cooler.fans[f].dampered true s f else s.cooler.fans[f] := by
  have fans : (enterOverload s).cooler.fans[f]
      = (({ s.cooler with overload := true, cap := overloadCap s } : Cooler).hotDampered s).fans[f] := by
    rw [enterOverload_cooler]
  rw [fans, Cooler.hotDampered]
  exact Vector.getElem_ofFn _

theorem FanRec.dampered_hot {f : Fan} (s : State) (x : FanRec) (hot : f.val < 3) : x.dampered true s f =
    let eff := min 1200 (x.target + s.live.cooler.boost)
    { x with
      effTarget := eff
      damper := if x.on = false then 0
        else if s.floor.mode = .standby ∨ s.floor.mode = .settle then s.live.fans[f].standby
        else (clampInt 0 1000 (tablePosition x.table eff + x.trim)).toNat } := by
  have warm : (true && isHot f) = true := (isHot_iff f).2 hot
  unfold FanRec.dampered
  rw [if_pos warm]
  cases x.on <;> rfl

section
variable (s : State)

theorem crusherReported_cond : (crusherReported s).alarm.points[pt 80].cond = true :=
  (congrArg PointRec.cond (points_congr (stopGrate_touches 2 _ .alarm (by decide)) (pt 80))).trans
    ((cond_of_reportCond (pt 80) (pt 80) true s).trans (if_pos rfl))

theorem crusherStopped_touches : Touches [.planner, .chans, .cooler, .alarm, .shift, .handed] s (crusherStopped s) := by
  rw [crusherStopped_eq]
  exact (crusherReported_touches s).mono.trans (enteringEvent_touches _).mono

theorem crusherStopped_cond : (crusherStopped s).alarm.points[pt 80].cond = true := by
  rw [crusherStopped_eq, enteringEvent_points_other _ (by decide)]
  exact crusherReported_cond s

theorem crusherStopped_grates : (crusherStopped s).cooler.grates = (s.onGrate 2 GrateRec.stopped).cooler.grates := by
  rw [crusherStopped_eq, enteringEvent_grates, crusherReported_cooler]

theorem crusherStopped_overload : (crusherStopped s).cooler.overload = true ∧ (crusherStopped s).cooler.clearCount = some 0 := by
  rw [crusherStopped_eq]
  refine ⟨enteringEvent_overload _, ?_⟩
  rw [enteringEvent_cooler]
  split
  · rfl
  · rw [enterOverload_cooler]

/-- With OVERLOAD in force the clear count begins anew. -/
theorem crusherStopped_again (inForce : s.cooler.overload = true) : (crusherStopped s).planner = s.planner
    ∧ (crusherStopped s).chans = s.chans ∧ (crusherStopped s).cooler.fans = s.cooler.fans
    ∧ (crusherStopped s).cooler.cap = s.cooler.cap := by
  have still : (crusherReported s).cooler.overload = true := by
    rw [crusherReported_cooler]
    exact inForce
  have event : crusherStopped s = (crusherReported s).onCooler fun x => { x with clearCount := some 0 } := if_pos still
  have frame := crusherReported_touches s
  have cooler := crusherReported_cooler s
  rw [event]
  exact ⟨frame .planner (by decide), frame .chans (by decide), (congrArg Cooler.fans cooler :), (congrArg Cooler.cap cooler :)⟩

/-- Else the cooler enters OVERLOAD. -/
theorem crusherStopped_enters (clear : s.cooler.overload = false) : crusherStopped s = enterOverload (crusherReported s) := by
  have still : ¬(crusherReported s).cooler.overload = true := by
    rw [crusherReported_cooler]
    exact (Bool.not_eq_true _).mpr clear
  exact if_neg still

end

/-- R14, R105: a fall of D5 out of OVERLOAD. -/
theorem crusherStopped_entry (s : State) (clear : s.cooler.overload = false) :
    let h := s.planner.demand.main.hApp
    let cap := if fires s .main then min 249999 (h * s.live.cooler.capPercent / 100) else 0
    let t := crusherStopped s
    t.cooler.cap = cap ∧ t.planner.hCap = cap ∧ t.planner.demand.main.hApp = min h cap
    ∧ t.planner.demand.main.hReq = s.planner.demand.main.hReq ∧ t.planner.demand.calciner = s.planner.demand.calciner
    ∧ t.alarm.points[pt 70].cond = true
    ∧ (∀ f : Fan, f.val < 3 → t.cooler.fans[f] = s.cooler.fans[f].dampered true s f)
    ∧ ∀ f : Fan, 3 ≤ f.val → t.cooler.fans[f] = s.cooler.fans[f] := by
  intro h cap t
  have frame := crusherReported_touches s
  have planner : (crusherReported s).planner = s.planner := frame .planner (by decide)
  have store : (crusherReported s).store = s.store := frame .store (by decide)
  have floor : (crusherReported s).floor = s.floor := frame .floor (by decide)
  have fans : (crusherReported s).cooler.fans = s.cooler.fans := (congrArg Cooler.fans (crusherReported_cooler s) :)
  have share : overloadCap (crusherReported s) = cap := overloadCap_congr planner (frame .burns (by decide)) store
  have entered : t = enterOverload (crusherReported s) := crusherStopped_enters s clear
  rw [entered, enterOverload_planner, share]
  obtain ⟨hCap, hApp, hReq, calciner⟩ := capEvent_demand cap
    ((crusherReported s).onCooler fun x => { x with overload := true, cap := cap })
  rw [State.onCooler_planner, planner] at hApp hReq calciner
  refine ⟨?_, hCap, hApp, hReq, calciner, enterOverload_cond _, fun f hot => ?_, fun f cold => ?_⟩
  · rw [enterOverload_cooler]
    exact share
  · rw [enterOverload_fan, if_pos ((isHot_iff f).2 hot), fans, FanRec.dampered_congr _ store floor]
  · rw [enterOverload_fan, if_neg fun hot => absurd ((isHot_iff f).1 hot) (by omega), fans]

/-! ## The stroke switches (R12, R91) -/

theorem discreteChanged_switch {d : DiscreteIn} {g : Grate} (level : Bool) (s : State) (same : d.val = g.val) :
    discreteChanged d level s = if level then strokeSwitchCloses g s else s := by
  have low : d.val < 3 := same ▸ g.isLt
  have here : (⟨d.val, low⟩ : Grate) = g := Fin.ext same
  unfold discreteChanged
  rw [dif_pos low, here]

theorem strokeSwitchCloses_eq (g : Grate) (s : State) : strokeSwitchCloses g s =
    if s.cooler.grates[g].phase = some .forward then s.onGrate g fun x => { x with confirmed := true } else s := by
  unfold strokeSwitchCloses
  by_cases forward : s.cooler.grates[g].phase = some .forward
  · rw [if_pos forward]
    exact onGrate_congr s (if_pos forward)
  · rw [if_neg forward]
    exact onGrate_eq_self s (if_neg forward)

/-- Settles O7. -/
theorem discreteInputDebounced : Obligations.DiscreteInputDebounced := by
  refine ⟨fun d level s run => ?_, fun s run runs => ⟨fun pin before => ?_, fun pin before => ?_⟩, fun g d s same run runs => ?_⟩
  · refine (exec_discretePinChange run).trans (congrArg Host.Outcome.next (onDiscrete_congr s ?_))
    unfold DiscreteRec.moved
    cases s.scan.discrete[d].timer <;> rfl
  · intro h cap
    let u := s.onDiscrete 4 fun x => { x with debounced := x.pin, timer := none }
    have stored := onDiscrete_touches 4 (fun x => { x with debounced := x.pin, timer := none }) s
    have frame := crusherStopped_touches u
    have scan : (crusherStopped u).scan = u.scan := frame .scan (by decide)
    have raised := crusherStopped_cond u
    have grates := crusherStopped_grates u
    obtain ⟨overload, count⟩ := crusherStopped_overload u
    have again := crusherStopped_again u
    have entry := crusherStopped_entry u
    have command : exec (.debounceExpiry 4) s = .next (crusherStopped u) :=
      (exec_debounceChange false run runs pin before rfl).trans (congrArg Host.Outcome.next (discreteChanged_crusher false u))
    generalize crusherStopped u = t at *
    have crusher : t.cooler.grates[(2 : Grate)] = s.cooler.grates[(2 : Grate)].stopped := by
      rw [grates]
      exact onGrate_same 2 _ u
    refine ⟨t, command, scan, raised, crusher ▸ (GrateRec.stopped_still _).1, crusher ▸ (GrateRec.stopped_still _).2,
      fun g ne => ?_, overload, count, again, fun clear => ?_, stored.mono.trans frame.mono⟩
    · rw [grates]
      exact onGrate_other _ u ne
    · obtain ⟨capped, hCap, hApp, hReq, calciner, point, hot, cold⟩ := entry clear
      exact ⟨capped, hCap, hApp, hReq, calciner, point, fun f low => (hot f low).trans (FanRec.dampered_hot u _ low), cold⟩
  · let u := s.onDiscrete 4 fun x => { x with debounced := x.pin, timer := none }
    have stored := onDiscrete_touches 4 (fun x => { x with debounced := x.pin, timer := none }) s
    have reported := reportCond_touches (pt 80) false u
    exact ⟨_, (exec_debounceChange true run runs pin before rfl).trans (congrArg Host.Outcome.next (discreteChanged_crusher true u)),
      reported .scan (by decide), (cond_of_reportCond (pt 80) (pt 80) false u).trans (if_pos rfl), stored.mono.trans reported.mono⟩
  · intro settled
    refine (exec_debounceExpiry run runs).trans (congrArg Host.Outcome.next ?_)
    rw [discreteChanged_switch _ _ same, strokeSwitchCloses_eq]
    cases pin : s.scan.discrete[d].pin <;> cases before : s.scan.discrete[d].debounced <;> simp <;> rfl

end Sys2Proof.Machine
end

section
/-! PROOFS. The link: serving, replying, the line, and the reset that ends a RESTART (R161 to R170, R174). -/

namespace Sys2Proof.Machine

-- One proof at a time: proofs that wait for one another hold a thread each, and the threads' memory is bounded.
set_option Elab.async false

/-! ## Serving (R163 to R165) -/

section
variable (seq kind : Byte) (f : Service) (s : State)

theorem deliver_link (r : Reply) : (deliver r s).link =
    if s.link.sending = none then { s.link with sending := some r } else { s.link with waiting := some r } := by
  cases h : s.link.sending <;> simp [deliver, h]

theorem meetRequest_free (free : s.link.waiting = none) : meetRequest seq kind f s =
    if s.phase = .running then serve seq kind f s else serve seq kind (fun s => (s, plain .busy)) s := by
  rw [meetRequest, free]
  rfl

theorem meetRequest_pending (pends : s.link.waiting.isSome = true) : meetRequest seq kind f s = overrunFrame s := if_pos pends

/-- A reply without data. -/
def plainReply (status : Status) : Reply :=
  { seq := seq, kind := kind, body := { status := status, reason := none, summary := summaryOf s, data := [] } }

theorem deliver_plainReply (status : Status) : deliver (plainReply seq kind s status) (answering status none [] s)
    = { answering status none [] s with link :=
        if s.link.sending = none then { s.link with sending := some (plainReply seq kind s status) }
        else { s.link with waiting := some (plainReply seq kind s status) } } :=
  congrArg (fun x => { answering status none [] s with link := x }) (deliver_link _ _)

end

/-- Settles O44. -/
theorem requestMeetsTransmitter : Obligations.RequestMeetsTransmitter := by
  refine ⟨fun seq kind f s run free => ?_, fun seq kind f s load free => ?_, fun seq kind f s pends => ?_, fun seq s run free => ?_⟩
  · have served : meetRequest seq kind f s = serve seq kind f s := (meetRequest_free seq kind f s free).trans (if_pos run)
    rw [served]
    refine ⟨deliver_touches _ _, fun idle => ?_, fun sends => ?_⟩
    · exact (deliver_link _ _).trans (if_pos idle)
    · exact (deliver_link _ _).trans (if_neg fun idle => by rw [idle] at sends; cases sends)
  · rw [meetRequest_free seq kind f s free, if_neg (by rw [load]; decide)]
    exact deliver_plainReply seq (kind ||| 0x80#8) s .busy
  · exact meetRequest_pending seq kind f s pends
  · have linked : whenLinked (meetRequest seq 0x7F#8 restartService) s = meetRequest seq 0x7F#8 restartService s :=
      if_neg (by rw [run]; decide)
    rw [exec_restart, linked, meetRequest_free _ _ _ s free, if_pos run]
    exact congrArg Host.Outcome.next (deliver_plainReply seq 0xFF#8 s .done)

/-! ## The full reset (R170, R174) -/

section
variable (cause : ResetCause) (phase : RunPhase) (s : State)

theorem stopSave_touches : Touches [.store, .draws] s (stopSave s) := by
  unfold stopSave
  split
  · exact .refl _ s
  · exact (onStore_touches _ s).mono.trans (drawn_touches _).mono

theorem stopSave_store : (stopSave s).store.job = none ∧ (stopSave s).live = s.live := by
  have stopped (k : Nat) (copy : Settings) (x : Store) : (saveStopped k copy x).job = none ∧ (saveStopped k copy x).live = x.live := by
    unfold saveStopped
    split <;> exact ⟨rfl, rfl⟩
  unfold stopSave
  split
  next none => exact ⟨none, rfl⟩
  next copy _ => exact stopped _ copy s.store

theorem fullReset_isFull : FullyReset cause phase (fullReset cause phase s) := by
  refine ⟨rfl, rfl, rfl, rfl, (stopSave_store s).1, fun c => ?_, fun b => ?_, fun g => ?_, fun f => ?_, rfl, rfl, rfl, rfl, rfl, rfl, rfl⟩
  · simp [driveOutput, fullReset, stopTimers, startBlocks, startChan]
  · cases b <;> exact ⟨rfl, rfl⟩
  · have stands : (fullReset cause phase s).cooler.grates[g].phase = none := by
      simp [fullReset, stopTimers, startBlocks, startCoolerOf, startCooler, startGrateOf, startGrate]
    exact ⟨decide_eq_false (by rw [stands]; decide), decide_eq_false (by rw [stands]; decide)⟩
  · simp [damperOutput, fullReset, stopTimers, startBlocks, startCoolerOf, startCooler, startFan]

theorem fullReset_link : (fullReset cause phase s).link = startLink (stopSave s).link.broken := rfl

theorem fullReset_broken : (fullReset cause phase s).link.broken = s.link.broken := by
  have kept : (stopSave s).link = s.link := stopSave_touches s .link (by decide)
  rw [fullReset_link, kept]
  rfl

end

/-- Settles O46. -/
theorem resetIsSafe : Obligations.ResetIsSafe := by
  refine ⟨fun i cause s event => ?_, fun s => rfl⟩
  rcases event with ⟨rfl, rfl⟩ | ⟨rfl, rfl⟩ | ⟨rfl, rfl⟩
  · exact ⟨_, rfl, fullReset_isFull .powerOn .held s⟩
  · exact ⟨_, rfl, fullReset_isFull .supplyDip .held s⟩
  · exact ⟨_, rfl, fullReset_isFull .resetPin .held s⟩

/-! ## The line (R161, R164, R167) -/

section
variable {s : State}

theorem exec_linked {i : Instr} {f : State → State} {u : State} (linked : s.phase ≠ .held) (event : f s = u)
    (command : exec i s = .next (whenLinked f s) := by rfl) : exec i s = .next u :=
  command.trans (congrArg Host.Outcome.next ((if_neg linked).trans event))

/-- R164: the reply has gone and the pending one follows. -/
def replySent (r : Reply) (s : State) : State := s.onLink fun x =>
  { x with sending := x.waiting, waiting := none, overrun := x.overrun && !r.body.summary.overrun }

theorem transmissionCompletes_sending {r : Reply} (sending : s.link.sending = some r) : transmissionCompletes s =
    if isRestartReply r then restartReset (replySent r s) else replySent r s := by
  simp only [transmissionCompletes, sending]
  rfl

/-- R167: the line in a break, with the replies dropped and the transfer closed. -/
def lineBroken (s : State) : State := closeTransfer (s.onLink fun x =>
  { countBreak x.hunting with sending := none, waiting := none, broken := true })

theorem breakLine_whole (whole : s.link.broken = false) : breakLine s =
    if s.link.sending.any isRestartReply || s.link.waiting.any isRestartReply then restartReset (lineBroken s) else lineBroken s :=
  if_neg (by rw [whole]; decide)

end

/-- Settles O45. -/
theorem lineEvents : Obligations.LineEvents := by
  refine ⟨fun r s linked sending other => ?_, fun r s linked sending restart => ?_, fun s linked whole restarts => ?_,
    fun b s run => ⟨fun runs => ?_, fun whole => ?_, fun whole sending waiting => ?_, rfl⟩⟩
  · exact exec_linked linked ((transmissionCompletes_sending sending).trans (if_neg (by rw [other]; decide)))
  · exact ⟨_, exec_linked linked ((transmissionCompletes_sending sending).trans (if_pos restart)), fullReset_isFull _ _ _,
      fullReset_live _ _ _, fullReset_broken _ _ _⟩
  · exact ⟨_, exec_linked linked ((breakLine_whole whole).trans (if_pos (Bool.or_eq_true _ _ ▸ restarts))), fullReset_isFull _ _ _,
      fullReset_live _ _ _, fullReset_broken _ _ _⟩
  · exact exec_linked (by rw [run]; decide) (if_pos runs)
  · exact exec_linked (f := byteArrives b false) (by rw [run]; decide) ((if_neg (by rw [whole]; decide)).trans (if_neg Bool.false_ne_true))
  · exact exec_linked (by rw [run]; decide) ((breakLine_whole whole).trans (if_neg (by rw [sending, waiting]; decide)))

end Sys2Proof.Machine
end

section
/-! PROOFS. The frames: a request is read back from its kind and payload, and a frame from its bytes (R160 to R163, R176). -/

namespace Sys2Proof.Machine

-- One proof at a time: proofs that wait for one another hold a thread each, and the threads' memory is bounded.
set_option Elab.async false

/-! ## Numbers in bytes (R176) -/

section
variable {m n : Nat}

/-- One byte of a payload. -/
def byteOf (n : Nat) : Byte := BitVec.ofNat 8 n

theorem be_byte (n : Nat) : be 1 n = [byteOf n] := by simp [be, byteOf]
theorem be_word (n : Nat) : be 2 n = [byteOf (n / 256), byteOf n] := by simp [be, byteOf]
theorem be_long (n : Nat) : be 4 n = [byteOf (n / 256 ^ 3), byteOf (n / 256 ^ 2), byteOf (n / 256), byteOf n] := by
  simp [be, byteOf]

theorem byteOf_toNat (fits : fits8 n = true) : (byteOf n).toNat = n := by
  have small : n < 256 := of_decide_eq_true fits
  rw [byteOf, BitVec.toNat_ofNat]
  omega

theorem word_toNat (fits : fits16 n = true) : ofBe [byteOf (n / 256), byteOf n] = n := by
  have small : n < 65536 := of_decide_eq_true fits
  rw [← be_word]
  exact ofBe_be 2 n small

theorem long_toNat (fits : fits32 n = true) :
    ofBe [byteOf (n / 256 ^ 3), byteOf (n / 256 ^ 2), byteOf (n / 256), byteOf n] = n := by
  have small : n < 4294967296 := of_decide_eq_true fits
  rw [← be_long]
  exact ofBe_be 4 n small

/-- The four bytes of a signed number. -/
theorem signed_bytes {v : Int} (fits : fitsS32 v = true) : ∃ a b c d, beS 4 v = [a, b, c, d] ∧ ofBeS [a, b, c, d] = v := by
  obtain ⟨low, high⟩ : -2147483648 ≤ v ∧ v < 2147483648 := of_decide_eq_true fits
  have bytes : beS 4 v = _ := be_long _
  refine ⟨_, _, _, _, bytes, ?_⟩
  rw [← bytes]
  exact ofBeS_beS 4 v (by norm_num; omega) (by norm_num; omega)

end

/-! ## Requests (R163, R176) -/

section
variable {k m n : Nat} {seq : Byte} {p : List Byte}

theorem requestOf_of {read : Reader} {i : Instr} (found : catalogue.lookup (BitVec.ofNat 8 k).toNat = some read)
    (reads : read seq p = some i) : requestOf (BitVec.ofNat 8 k) seq p = .ok i := by
  simp only [requestOf, found, reads]

theorem requestOf_byte {f : Nat → Instr} (found : catalogue.lookup (BitVec.ofNat 8 k).toNat = some (read1 f))
    (fits : fits8 n = true) : requestOf (BitVec.ofNat 8 k) seq (be 1 n) = .ok (f n) := by
  refine requestOf_of found ?_
  rw [be_byte]
  exact congrArg (fun x => some (f x)) (byteOf_toNat fits)

theorem requestOf_bytes {f : Nat → Nat → Instr} (found : catalogue.lookup (BitVec.ofNat 8 k).toNat = some (read11 f))
    (fits : (fits8 m && fits8 n) = true) : requestOf (BitVec.ofNat 8 k) seq (be 1 m ++ be 1 n) = .ok (f m n) := by
  obtain ⟨first, second⟩ := Bool.and_eq_true_iff.1 fits
  refine requestOf_of found ?_
  rw [be_byte, be_byte]
  exact congrArg some (congrArg₂ f (byteOf_toNat first) (byteOf_toNat second))

theorem requestOf_byteWord {f : Nat → Nat → Instr} (found : catalogue.lookup (BitVec.ofNat 8 k).toNat = some (read12 f))
    (fits : (fits8 m && fits16 n) = true) : requestOf (BitVec.ofNat 8 k) seq (be 1 m ++ be 2 n) = .ok (f m n) := by
  obtain ⟨first, second⟩ := Bool.and_eq_true_iff.1 fits
  refine requestOf_of found ?_
  rw [be_byte, be_word]
  exact congrArg some (congrArg₂ f (byteOf_toNat first) (word_toNat second))

end

/-- Settles O43: each kind's reader gives back the operands that its payload was written from. -/
theorem requestsDecode : Obligations.RequestsDecode := by
  intro i k p seq fits fields own
  cases i with
  | statusRead => cases fields; exact requestOf_of rfl rfl
  | identRead => cases fields; exact requestOf_of rfl rfl
  | alarmAckTop => cases fields; exact requestOf_of rfl rfl
  | alarmAckAll => cases fields; exact requestOf_of rfl rfl
  | hornSilence => cases fields; exact requestOf_of rfl rfl
  | shiftClose => cases fields; exact requestOf_of rfl rfl
  | enterStandby => cases fields; exact requestOf_of rfl rfl
  | leaveStandby => cases fields; exact requestOf_of rfl rfl
  | settingsSave => cases fields; exact requestOf_of rfl rfl
  | linkRead n => cases fields; exact requestOf_byte rfl fits
  | channelServiceIn n => cases fields; exact requestOf_byte rfl fits
  | channelServiceOut n => cases fields; exact requestOf_byte rfl fits
  | channelReset n => cases fields; exact requestOf_byte rfl fits
  | calibrateAbort n => cases fields; exact requestOf_byte rfl fits
  | burnerRead n => cases fields; exact requestOf_byte rfl fits
  | burnerLight n => cases fields; exact requestOf_byte rfl fits
  | burnerStop n => cases fields; exact requestOf_byte rfl fits
  | burnerResetTrip n => cases fields; exact requestOf_byte rfl fits
  | grateRun n => cases fields; exact requestOf_byte rfl fits
  | grateSingle n => cases fields; exact requestOf_byte rfl fits
  | grateStop n => cases fields; exact requestOf_byte rfl fits
  | grateReset n => cases fields; exact requestOf_byte rfl fits
  | alarmRead n => cases fields; exact requestOf_byte rfl fits
  | alarmAckPoint n => cases fields; exact requestOf_byte rfl fits
  | alarmUnshelve n => cases fields; exact requestOf_byte rfl fits
  | alarmDisable n => cases fields; exact requestOf_byte rfl fits
  | alarmEnable n => cases fields; exact requestOf_byte rfl fits
  | alarmRaise n => cases fields; exact requestOf_byte rfl fits
  | alarmClear n => cases fields; exact requestOf_byte rfl fits
  | reportPart n => cases fields; exact requestOf_byte rfl fits
  | channelRead m n => cases fields; exact requestOf_bytes rfl fits
  | coolerRead m n => cases fields; exact requestOf_bytes rfl fits
  | inputRead m n => cases fields; exact requestOf_bytes rfl fits
  | inputRelease m n => cases fields; exact requestOf_bytes rfl fits
  | listRead m n => cases fields; exact requestOf_bytes rfl fits
  | reportOpen m n => cases fields; exact requestOf_bytes rfl fits
  | calibrateZero m n => cases fields; exact requestOf_byteWord rfl fits
  | alarmShelve m n => cases fields; exact requestOf_byteWord rfl fits
  | linkEcho bytes => cases fields; exact requestOf_of rfl (if_pos (of_decide_eq_true fits))
  | clockSet seconds day =>
    cases fields
    obtain ⟨first, second⟩ := Bool.and_eq_true_iff.1 fits
    refine requestOf_of rfl ?_
    rw [be_long, be_word]
    exact congrArg some (congrArg₂ Instr.clockSet (long_toNat first) (word_toNat second))
  | heatSet burner demand =>
    cases fields
    obtain ⟨first, second⟩ := Bool.and_eq_true_iff.1 fits
    refine requestOf_of rfl ?_
    rw [be_byte, be_long]
    exact congrArg some (congrArg₂ Instr.heatSet (byteOf_toNat first) (long_toNat second))
  | calibrateSpan channel testLoad duration =>
    cases fields
    simp only [wellFormed, Bool.and_eq_true] at fits
    obtain ⟨⟨first, second⟩, third⟩ := fits
    refine requestOf_of rfl ?_
    rw [be_byte, be_word, be_word]
    refine Eq.trans (b := some (.calibrateSpan (byteOf channel).toNat (ofBe [byteOf (testLoad / 256), byteOf testLoad])
      (ofBe [byteOf (duration / 256), byteOf duration]))) rfl ?_
    rw [byteOf_toNat first, word_toNat second, word_toNat third]
  | coolerSet grate mode rate forward ret dead =>
    cases fields
    simp only [wellFormed, Bool.and_eq_true] at fits
    obtain ⟨⟨⟨⟨⟨first, second⟩, third⟩, fourth⟩, fifth⟩, sixth⟩ := fits
    refine requestOf_of rfl ?_
    rw [be_byte, be_byte, be_word, be_word, be_word, be_word]
    refine Eq.trans (b := some (.coolerSet (byteOf grate).toNat (byteOf mode).toNat (ofBe [byteOf (rate / 256), byteOf rate])
      (ofBe [byteOf (forward / 256), byteOf forward]) (ofBe [byteOf (ret / 256), byteOf ret])
      (ofBe [byteOf (dead / 256), byteOf dead]))) rfl ?_
    rw [byteOf_toNat first, byteOf_toNat second, word_toNat third, word_toNat fourth, word_toNat fifth, word_toNat sixth]
  | fanSet fan on target =>
    cases fields
    simp only [wellFormed, Bool.and_eq_true] at fits
    obtain ⟨⟨first, second⟩, third⟩ := fits
    refine requestOf_of rfl ?_
    rw [be_byte, be_byte, be_word]
    refine Eq.trans (b := some (.fanSet (byteOf fan).toNat (byteOf on).toNat (ofBe [byteOf (target / 256), byteOf target]))) rfl ?_
    rw [byteOf_toNat first, byteOf_toNat second, word_toNat third]
  | inputForce cls number value =>
    cases fields
    simp only [wellFormed, Bool.and_eq_true] at fits
    obtain ⟨⟨first, second⟩, third⟩ := fits
    obtain ⟨a, b, c, d, bytes, spells⟩ := signed_bytes third
    refine requestOf_of rfl ?_
    rw [be_byte, be_byte, bytes]
    refine Eq.trans (b := some (.inputForce (byteOf cls).toNat (byteOf number).toNat (ofBeS [a, b, c, d]))) rfl ?_
    rw [byteOf_toNat first, byteOf_toNat second, spells]
  | settingsRead item index =>
    cases fields
    obtain ⟨first, second⟩ := Bool.and_eq_true_iff.1 fits
    refine requestOf_of rfl ?_
    rw [be_word, be_byte]
    exact congrArg some (congrArg₂ Instr.settingsRead (word_toNat first) (byteOf_toNat second))
  | settingsWrite item index value =>
    cases fields
    simp only [wellFormed, Bool.and_eq_true] at fits
    obtain ⟨⟨first, second⟩, third⟩ := fits
    obtain ⟨a, b, c, d, bytes, spells⟩ := signed_bytes third
    refine requestOf_of rfl ?_
    rw [be_word, be_byte, bytes]
    refine Eq.trans (b := some (.settingsWrite (ofBe [byteOf (item / 256), byteOf item]) (byteOf index).toNat (ofBeS [a, b, c, d]))) rfl ?_
    rw [word_toNat first, byteOf_toNat second, spells]
  | restart q =>
    cases fields
    cases own q rfl
    exact requestOf_of rfl rfl
  | _ => cases fields

/-! ## The assembly of a frame (R160, R162) -/

section
variable {s t : State}

theorem execAll_cons {i : Instr} {rest : List Instr} (step : exec i s = .next t) : execAll (i :: rest) s = execAll rest t := by
  simp only [execAll, step]

theorem exec_byte {b : Byte} (linked : s.phase ≠ .held) (whole : s.link.broken = false) :
    exec (.linkByteArrival b true) s = .next (takeByte b s) :=
  exec_linked (f := byteArrives b true) linked ((if_neg (by rw [whole]; decide)).trans (if_pos rfl))

theorem execAll_byte {b : Byte} {bytes : List Byte} (linked : s.phase ≠ .held) (whole : s.link.broken = false)
    (takes : takeByte b s = t) : execAll ((b :: bytes).map fun b => .linkByteArrival b true) s
      = execAll (bytes.map fun b => .linkByteArrival b true) t :=
  execAll_cons ((exec_byte linked whole).trans (congrArg Host.Outcome.next takes))

/-- A frame assembled so far. -/
def assembling (asm : Assembly) (length : Nat) (seq kind : Byte) (payload : List Byte) (high : Byte) (s : State) : State :=
  s.onLink fun x =>
    { x with asm := asm, length := length, seq := seq, kind := kind, payload := payload, crcHigh := high, gapTimer := some 20 }

/-- The payload's bytes are collected one by one. -/
theorem execAll_payload (linked : s.phase ≠ .held) (whole : s.link.broken = false) {length : Nat} {seq kind : Byte}
    {taken rest bytes : List Byte} (count : taken.length + rest.length = length) :
    execAll ((rest ++ bytes).map fun b => .linkByteArrival b true)
        (assembling (if 0 < rest.length then .payload else .crcHigh) length seq kind taken 0 s)
      = execAll (bytes.map fun b => .linkByteArrival b true) (assembling .crcHigh length seq kind (taken ++ rest) 0 s) := by
  induction rest generalizing taken with
  | nil => rw [List.append_nil]; rfl
  | cons b rest ih =>
    have next : (if taken.length + 1 < length then Assembly.payload else .crcHigh)
        = if 0 < rest.length then Assembly.payload else .crcHigh := by
      rw [← count, List.length_cons]
      by_cases left : 0 < rest.length
      · rw [if_pos left, if_pos (by omega)]
      · rw [if_neg left, if_neg (by omega)]
    have takes : takeByte b (assembling .payload length seq kind taken 0 s)
        = assembling (if 0 < rest.length then .payload else .crcHigh) length seq kind (taken ++ [b]) 0 s := by
      rw [← next]
      rfl
    have counted : (taken ++ [b]).length + rest.length = length := by
      rw [List.length_append, List.length_singleton, ← count, List.length_cons]
      omega
    have more : 0 < (b :: rest).length := Nat.succ_pos _
    rw [if_pos more]
    refine (execAll_byte (s := assembling .payload length seq kind taken 0 s) linked whole takes).trans ((ih counted).trans ?_)
    rw [List.append_assoc]
    rfl

/-- R160, R162: the bytes of a frame, whatever its two CRC bytes are. -/
theorem execAll_frame {seq kind : Byte} {payload : List Byte} {high low : Byte} (short : payload.length ≤ 120)
    (linked : s.phase ≠ .held) (whole : s.link.broken = false) (idle : s.link.hunting = s.link) :
    execAll ((leadByte :: coveredBytes seq kind payload ++ [high, low]).map fun b => .linkByteArrival b true) s
      = .next (if crc16 (coveredBytes seq kind payload) = high ++ low then acceptFrame seq kind payload s
          else s.onLink countCrc) := by
  let n := payload.length
  have count : (byteOf n).toNat = n := byteOf_toNat (decide_eq_true (show payload.length < 256 by omega))
  have asm : s.link.asm = .hunt := congrArg Link.asm idle.symm
  have lead : takeByte leadByte s = assembling .length 0 0 0 [] 0 s := by
    have taken : s.link.taking .length = (assembling .length 0 0 0 [] 0 s).link := by
      unfold assembling
      rw [State.onLink_link, ← idle]
      rfl
    rw [takeByte, asm]
    exact (if_pos rfl).trans (congrArg (fun x => { s with link := x }) taken)
  have length : takeByte (byteOf n) (assembling .length 0 0 0 [] 0 s) = assembling .sequence n 0 0 [] 0 s := by
    refine (if_pos (count.trans_le short)).trans ?_
    rw [count]
    rfl
  have complete : takeByte low (assembling .crcLow n seq kind payload high s)
      = if crc16 (coveredBytes seq kind payload) = high ++ low then acceptFrame seq kind payload s else s.onLink countCrc := by
    have back : (assembling .crcLow n seq kind payload high s).onLink Link.hunting = s :=
      congrArg (fun x => { s with link := x }) idle
    refine Eq.trans (b := completeFrame low (assembling .crcLow n seq kind payload high s)) rfl ?_
    have right : (assembling .crcLow n seq kind payload high s).link.crcRight low
        = decide (crc16 (coveredBytes seq kind payload) = high ++ low) := rfl
    unfold completeFrame
    dsimp only
    rw [back, right]
    simp only [decide_eq_true_eq]
    exact rfl
  have whole' (asm : Assembly) (n : Nat) (seq kind : Byte) (payload : List Byte) (high : Byte) :
      (assembling asm n seq kind payload high s).link.broken = false := whole
  have covered : leadByte :: coveredBytes seq kind payload ++ [high, low]
      = leadByte :: byteOf n :: seq :: kind :: (payload ++ [high, low]) := by
    rw [coveredBytes, be_byte]
    rfl
  calc execAll ((leadByte :: coveredBytes seq kind payload ++ [high, low]).map fun b => .linkByteArrival b true) s
      = execAll ((byteOf n :: seq :: kind :: (payload ++ [high, low])).map fun b => .linkByteArrival b true)
          (assembling .length 0 0 0 [] 0 s) := by rw [covered]; exact execAll_byte linked whole lead
    _ = execAll ((seq :: kind :: (payload ++ [high, low])).map fun b => .linkByteArrival b true)
          (assembling .sequence n 0 0 [] 0 s) := execAll_byte linked whole length
    _ = execAll ((kind :: (payload ++ [high, low])).map fun b => .linkByteArrival b true)
          (assembling .kind n seq 0 [] 0 s) := execAll_byte linked whole rfl
    _ = execAll ((payload ++ [high, low]).map fun b => .linkByteArrival b true)
          (assembling (if 0 < payload.length then .payload else .crcHigh) n seq kind [] 0 s) := execAll_byte linked whole rfl
    _ = execAll ([high, low].map fun b => .linkByteArrival b true) (assembling .crcHigh n seq kind payload 0 s) :=
          execAll_payload linked whole (Nat.zero_add _)
    _ = execAll ([low].map fun b => .linkByteArrival b true) (assembling .crcLow n seq kind payload high s) :=
          execAll_byte linked whole rfl
    _ = _ := execAll_byte (bytes := []) linked whole complete

end

/-! ## What a frame does at the Floor Supervisor (R150, R153) -/

section
variable (s : State)

/-- The floor after a valid frame. -/
theorem validFrame_floor : (validFrame s).floor = { s.floor with
    supervision := some (s.live.supervisionTime * 1000), linkLost := false
    mode := if s.floor.mode = .fallback then .normal else s.floor.mode
    stage := if s.floor.mode = .fallback then none else s.floor.stage
    grace := if s.floor.mode = .fallback then none else s.floor.grace } := by
  let u := s.onFloor fun x => { x with supervision := some (s.live.supervisionTime * 1000) }
  have found : (linkFoundAgain u).floor = { u.floor with linkLost := false } := by
    unfold linkFoundAgain
    split
    · exact reportCond_touches (pt 81) false _ .floor (by decide)
    next kept => exact congrArg (fun b => { u.floor with linkLost := b }) ((Bool.not_eq_true _).mp kept)
  have left (t : State) : (leaveFallback t).floor = if t.floor.mode = .fallback then
      { t.floor with mode := .normal, stage := none, grace := none } else t.floor := by
    unfold leaveFallback
    split <;> rfl
  have whole : (validFrame s).floor = _ := left (linkFoundAgain u)
  rw [whole, found]
  by_cases fell : s.floor.mode = .fallback
  · simp only [fell, if_true]
    exact if_pos fell
  · simp only [if_neg fell]
    exact if_neg fell

/-- The alarm table after a valid frame: point 81 absent where the link was lost. -/
theorem validFrame_alarm : (s.floor.linkLost = false → Touches [.floor] s (validFrame s))
    ∧ Touches [.floor, .alarm] s (validFrame s)
    ∧ (validFrame s).alarm.points[pt 81].cond = (if s.floor.linkLost then false else s.alarm.points[pt 81].cond) := by
  let u := s.onFloor fun x => { x with supervision := some (s.live.supervisionTime * 1000) }
  have timed : Touches [.floor] s u := onFloor_touches _ s
  have left : Touches [.floor] (linkFoundAgain u) (validFrame s) := .ite (onFloor_touches _ _) (.refl _ _)
  have cleared (t : State) : Touches [.alarm] t (reportCond (pt 81) false t) := by
    rw [reportCond_absent]
    exact onAlarm_touches _ t
  have points := points_congr (left .alarm (by decide)) (pt 81)
  by_cases lost : s.floor.linkLost = true
  · have found : linkFoundAgain u = reportCond (pt 81) false (u.onFloor fun x => { x with linkLost := false }) := if_pos lost
    have frame : Touches [.floor, .alarm] u (linkFoundAgain u) := by
      rw [found]
      exact (onFloor_touches _ u).mono.trans (cleared _).mono
    refine ⟨fun kept => absurd (lost.symm.trans kept) (by decide), timed.mono.trans (frame.trans left.mono), ?_⟩
    rw [points, found, if_pos lost]
    exact (cond_of_reportCond (pt 81) (pt 81) false _).trans (if_pos rfl)
  · have found : linkFoundAgain u = u := if_neg lost
    rw [found] at left points
    refine ⟨fun _ => timed.trans left, timed.mono.trans left.mono, ?_⟩
    rw [points, if_neg lost]
    rfl

end

theorem append_bytes (x : BitVec 16) : byteOf (x.toNat / 256) ++ byteOf x.toNat = x := by
  have small := x.isLt
  refine BitVec.eq_of_toNat_eq ?_
  rw [BitVec.toNat_append, ← Nat.shiftLeft_add_eq_or_of_lt (byteOf x.toNat).isLt, Nat.shiftLeft_eq, byteOf, byteOf,
    BitVec.toNat_ofNat, BitVec.toNat_ofNat]
  omega

/-- Settles O42. -/
theorem frameAssembles : Obligations.FrameAssembles := by
  refine ⟨fun seq kind payload s short linked whole idle => ⟨?_, fun high low => ?_⟩, fun b s linked whole => ⟨fun asm other => ?_, fun asm long => ?_⟩,
    fun seq kind payload s => ⟨fun run => ?_, fun load => ?_⟩, fun s => ?_⟩
  · have bytes : frameBytes seq kind payload = leadByte :: coveredBytes seq kind payload
        ++ [byteOf ((crc16 (coveredBytes seq kind payload)).toNat / 256), byteOf (crc16 (coveredBytes seq kind payload)).toNat] := by
      rw [frameBytes, be_word]
    rw [bytes, execAll_frame short linked whole idle, append_bytes, if_pos rfl]
  · intro covered wrong
    have spelt : covered = coveredBytes seq kind payload := by
      rw [coveredBytes, be_byte]
      rfl
    have run := execAll_frame (seq := seq) (kind := kind) (high := high) (low := low) short linked whole idle
    rw [← spelt, if_neg (Ne.symm wrong)] at run
    exact run
  · have takes : takeByte b s = s := by
      rw [takeByte, asm]
      exact if_neg other
    exact (exec_byte linked whole).trans (congrArg Host.Outcome.next takes)
  · have takes : takeByte b s = s.onLink fun x => countLength x.hunting := by
      rw [takeByte, asm]
      exact if_neg (by omega)
    exact (exec_byte linked whole).trans (congrArg Host.Outcome.next takes)
  · rw [acceptFrame, if_pos run]
  · rw [acceptFrame, if_neg (by rw [load]; decide)]
  · obtain ⟨kept, frame, cond⟩ := validFrame_alarm s
    intro t fell
    refine ⟨(validFrame_floor s).trans ?_, cond, kept, frame⟩
    simp only [fell, decide_eq_true_eq]

end Sys2Proof.Machine
end

section
/-! PROOFS. Chapter 10, the store: the image area without the erased bytes at its end, and the save (R173, log entry 3). -/

namespace Sys2Proof.Machine

-- One proof at a time: proofs that wait for one another hold a thread each, and the threads' memory is bounded.
set_option Elab.async false

/-! ## The image area (log entry 3) -/

section
variable {l : List Byte}

/-- What is left out at the end of an area is erased. -/
theorem trimErased_append (l : List Byte) : ∃ n, trimErased l ++ List.replicate n erased = l := by
  set isErased : Byte → Bool := fun b => decide (b = erased) with isErased_def
  have all (b : Byte) (h : b ∈ l.reverse.takeWhile isErased) : b = erased :=
    of_decide_eq_true (List.mem_takeWhile_imp (p := isErased) h)
  obtain ⟨n, left⟩ : ∃ n, l.reverse.takeWhile isErased = List.replicate n erased := ⟨_, List.eq_replicate_of_mem all⟩
  refine ⟨n, List.reverse_injective ?_⟩
  rw [trimErased, ← isErased_def, List.reverse_append, List.reverse_reverse, List.reverse_replicate, ← left,
    List.takeWhile_append_dropWhile]

/-- Erased bytes at the end of an area change nothing of it. -/
theorem areaOf_erased {n : Nat} (fits : (l ++ List.replicate n erased).length ≤ 2644) :
    areaOf (l ++ List.replicate n erased) = areaOf l := by
  rw [List.length_append, List.length_replicate] at fits
  have rest : 2644 - l.length = n + (2644 - (l.length + n)) := by omega
  rw [areaOf, areaOf, imageLength, List.length_append, List.length_replicate, rest, List.replicate_add,
    List.take_of_length_le (by rw [List.length_append, List.length_replicate]; exact fits),
    List.take_of_length_le (by omega), List.append_assoc]

theorem areaOf_trimErased (fits : l.length ≤ 2644) : areaOf (trimErased l) = areaOf l := by
  obtain ⟨n, padded⟩ := trimErased_append l
  conv_rhs => rw [← padded]
  exact (areaOf_erased (by rw [padded]; exact fits)).symm

/-- What stands behind the image's length is no part of its area. -/
theorem areaOf_take (l : List Byte) : areaOf (l.take imageLength) = areaOf l := by
  have rest : imageLength - (l.take imageLength).length = imageLength - l.length := by rw [List.length_take]; omega
  rw [areaOf, areaOf, List.take_take, Nat.min_self, rest]

end

theorem imageItems_length (set : Settings) : (imageItems set).length = 2636 := by
  rw [imageItems, List.length_flatMap]
  simp only [beS_length, List.map_const', List.sum_replicate, allRefs_length]
  rfl

theorem imageBody_length (set : Settings) : (imageBody set).length = 2640 := by
  rw [imageBody, List.length_append, be_length, imageItems_length]

theorem imageBytes_length (set : Settings) : (imageBytes set).length = 2644 := by
  rw [imageBytes, List.length_append, be_length, imageBody_length]

/-! ## The save (R173) -/

section
variable {s : State} {copy : Settings}

/-- The store that a save completion leaves. -/
def Store.saved (x : Store) (ok : Bool) (image : List Byte) : Store :=
  { x with image := image, marker := false, job := none, lastSave := if ok then .ok else .failed
           imageState := if ok then .valid else .invalid }

/-- The state that a save completion leaves. -/
def saveCompleted (readBack : Option (List Byte)) (copy : Settings) (s : State) : State :=
  reportCond (pt 83) (!saveOutcome readBack) (s.onStore fun x =>
    x.saved (saveOutcome readBack) (trimErased ((readBack.getD (imageBytes copy)).take imageLength)))

theorem exec_saveCompletion (readBack : Option (List Byte)) (run : s.phase = .running) (saving : s.store.job = some copy) :
    exec (.saveCompletion readBack) s = .next (saveCompleted readBack copy s) := by
  refine exec_floorExpiry (f := saveCompletes readBack) run ?_
  unfold saveCompletes
  rw [saving]
  rfl

theorem saveCompleted_touches (readBack : Option (List Byte)) (copy : Settings) (s : State) :
    Touches [.store, .alarm, .shift, .handed] s (saveCompleted readBack copy s) :=
  (onStore_touches _ s).mono.trans (reportCond_touches _ _ _).mono

theorem saveCompleted_store (readBack : Option (List Byte)) (copy : Settings) (s : State) :
    (saveCompleted readBack copy s).store = s.store.saved (saveOutcome readBack)
      (trimErased ((readBack.getD (imageBytes copy)).take imageLength)) :=
  reportCond_touches _ _ _ .store (by decide)

theorem saveCompleted_cond (readBack : Option (List Byte)) (copy : Settings) (s : State) :
    (saveCompleted readBack copy s).alarm.points[pt 83].cond = !saveOutcome readBack :=
  (cond_of_reportCond _ _ _ _).trans (if_pos rfl)

/-- Settles O48: the request that starts a save, and its completion by what the flash is read back to hold. -/
theorem saveAndCompletion : Obligations.SaveAndCompletion := by
  intro copy bytes s run
  refine ⟨fun free => ?_, fun saving => ?_, fun free => ?_, fun saving => ?_, fun saving => ?_⟩
  · exact exec_answers run rfl (f := settingsSave) (a := done []) (by rw [settingsSave, free])
  · exact exec_answers run rfl (f := settingsSave) (a := plain .busy) (by rw [settingsSave, saving])
  · have none_saving (readBack : Option (List Byte)) : saveCompletes readBack s = s := by rw [saveCompletes, free]
    exact ⟨exec_floorExpiry run (none_saving none), exec_floorExpiry run (none_saving (some bytes))⟩
  · refine ⟨_, exec_saveCompletion none run saving, ?_, saveCompleted_cond none copy s, saveCompleted_touches none copy s⟩
    have whole : (imageBytes copy).take imageLength = imageBytes copy :=
      List.take_of_length_le (imageBytes_length copy).le
    rw [saveCompleted_store, Option.getD_none, whole]
    rfl
  · refine ⟨_, exec_saveCompletion (some bytes) run saving, ⟨?_, saveCompleted_cond (some bytes) copy s⟩, ?_,
      saveCompleted_touches (some bytes) copy s⟩
    · rw [saveCompleted_store]
      rfl
    · have short : (bytes.take imageLength).length ≤ 2644 := List.length_take_le _ _
      rw [saveCompleted_store]
      exact (areaOf_trimErased short).trans (areaOf_take bytes)

end

end Sys2Proof.Machine
end

section
/-! PROOFS. The reads: the payload that each answers, its length, and what it is refused (R19, R64, R84, R107, R130, R149,
R169, R174). -/

namespace Sys2Proof.Machine

-- One proof at a time: proofs that wait for one another hold a thread each, and the threads' memory is bounded.
set_option Elab.async false

/-! ## The lengths of the layouts (R176, R178) -/

theorem firstOut_length (x : Option FirstOut) : (firstOutBytes x).length = 11 := by
  cases x <;> simp [firstOutBytes]

theorem stageBytes_length (x : Option Stage) : (stageBytes x).length = 11 := by
  cases x <;> simp [stageBytes]

theorem resultBytes_length (x : Option CalResult) : (resultBytes x).length = 9 := by
  cases x <;> simp [resultBytes]

theorem beS2Or1_length (x : Option Int) : (beS2Or1 x).length = 2 := by
  cases x <;> simp [beS2Or1]

theorem timingBytes_length (x : Timing) : (timingBytes x).length = 8 := by simp [timingBytes]

theorem valueBytes_length (x : AnalogRec) : (valueBytes x).length = 3 := by simp [valueBytes]

theorem placementBytes_length (s : State) (p : Point) : (placementBytes s p).length = 2 := by
  unfold placementBytes
  split
  · simp
  · split <;> simp

section
variable (s : State)

theorem statusPayload_length : (statusPayload s).length = 19 := by simp [statusPayload]

theorem identPayload_length : (identPayload s).length = 9 := by simp [identPayload]

theorem linkPayload_length : (linkPayload s).length = 13 := by simp [linkPayload]

theorem channelPayload_length (c : Channel) : (channelPayload s c).length = 71 := by
  simp [channelPayload, chanSetBytes, chanBytes, entryBytes, stageBytes_length, resultBytes_length]

theorem burnerPayload_length (b : Burner) : (burnerPayload s b).length = 66 := by
  cases b <;> simp [burnerPayload, burnSetBytes, demandBytes, heatReply, firstOut_length, valueBytes_length]

theorem sectionPayload_length (g : Grate) : (sectionPayload s g).length = 62 := by
  simp only [sectionPayload, grateSetBytes, List.length_append, be_length, beOr0_length, timingBytes_length,
    valueBytes_length, beS2Or1_length]
  split
  · rw [zeros_length]
  · rw [timingBytes_length]

theorem fanPayload_length (f : Fan) : (fanPayload s f).length = 40 := by
  simp [fanPayload, valueBytes_length]

theorem coolerPayload_length : (coolerPayload s).length = 26 := by
  simp [coolerPayload, valueBytes_length]

theorem analogPayload_length (i : AnalogIn) : (analogPayload s i).length = 12 := by
  simp [analogPayload, valueBytes_length]

theorem pulsePayload_length (e : PulseIn) : (pulsePayload s e).length = 17 := by simp [pulsePayload]

theorem discretePayload_length (d : DiscreteIn) : (discretePayload s d).length = 5 := by simp [discretePayload]

theorem pointPayload_length (p : Point) : (pointPayload s p).length = 19 := by
  simp [pointPayload, placementBytes_length]

theorem listPayload_length : (listPayload s).length = 4 + 10 * s.alarm.list.length := by
  simp [listPayload, listEntry, List.length_flatMap]
  omega

theorem waitingPayload_length (start : Nat) :
    (waitingPayload s start).length = 3 + 2 * min 40 (s.alarm.queue.length - (start - 1)) := by
  simp [waitingPayload, waitingEntry, waitingFrom, List.length_flatMap]
  omega

end

/-! ## What is refused, and what is answered -/

section
variable {k option start : Nat} {s : State}

theorem channelRead_out (h : k = 0 ∨ 6 < k ∨ 1 < option) : channelRead k option s = (s, plain .range) := by
  unfold channelRead
  rcases or_assoc.mpr h with number | clear
  · rw [instNo_out number]
  · rw [firstOf_out clear]
    cases instNo 6 k <;> rfl

theorem channelRead_val (c : Channel) : channelRead (c.val + 1) 1 s = (s, done (channelPayload s c)) := by
  unfold channelRead
  rw [instNo_val]
  rfl

theorem channelRead_clear (c : Channel) : channelRead (c.val + 1) 0 s
    = (s, { status := .done, data := channelPayload s c, after := .clearChannel c }) := by
  unfold channelRead
  rw [instNo_val]
  rfl

theorem linkRead_out (h : 1 < option) : linkRead option s = (s, plain .range) := by
  unfold linkRead
  rw [firstOf_out h]

theorem coolerRead_section (g : Grate) : coolerRead 0 (g.val + 1) s = (s, done (sectionPayload s g)) := by
  rw [coolerRead, if_pos rfl, instNo_val]

theorem coolerRead_fan (f : Fan) : coolerRead 1 (f.val + 1) s = (s, done (fanPayload s f)) := by
  rw [coolerRead, if_neg (by decide), if_pos rfl, instNo_val]

theorem coolerRead_section_out (h : k = 0 ∨ 3 < k) : coolerRead 0 k s = (s, plain .range) := by
  rw [coolerRead, if_pos rfl, instNo_out h]

theorem coolerRead_fan_out (h : k = 0 ∨ 8 < k) : coolerRead 1 k s = (s, plain .range) := by
  rw [coolerRead, if_neg (by decide), if_pos rfl, instNo_out h]

theorem coolerRead_out (h : 2 < option) : coolerRead option k s = (s, plain .range) := by
  rw [coolerRead, if_neg (by omega), if_neg (by omega), if_neg (by omega)]

theorem inputRead_analog (i : AnalogIn) : inputRead 0 (i.val + 1) s = (s, done (analogPayload s i)) := by
  rw [inputRead, if_pos rfl, instNo_val]

theorem inputRead_pulse (e : PulseIn) : inputRead 1 (e.val + 1) s = (s, done (pulsePayload s e)) := by
  rw [inputRead, if_neg (by decide), if_pos rfl, instNo_val]

theorem inputRead_discrete (d : DiscreteIn) : inputRead 2 (d.val + 1) s = (s, done (discretePayload s d)) := by
  rw [inputRead, if_neg (by decide), if_neg (by decide), if_pos rfl, instNo_val]

theorem inputRead_analog_out (h : k = 0 ∨ 22 < k) : inputRead 0 k s = (s, plain .range) := by
  rw [inputRead, if_pos rfl, instNo_out h]

theorem inputRead_pulse_out (h : k = 0 ∨ 6 < k) : inputRead 1 k s = (s, plain .range) := by
  rw [inputRead, if_neg (by decide), if_pos rfl, instNo_out h]

theorem inputRead_discrete_out (h : k = 0 ∨ 5 < k) : inputRead 2 k s = (s, plain .range) := by
  rw [inputRead, if_neg (by decide), if_neg (by decide), if_pos rfl, instNo_out h]

theorem inputRead_out (h : 2 < option) : inputRead option k s = (s, plain .range) := by
  rw [inputRead, if_neg (by omega), if_neg (by omega), if_neg (by omega)]

theorem listRead_waiting (first : 1 ≤ start) (last : start ≤ 88) :
    listRead 1 start s = (s, done (waitingPayload s start)) := by
  rw [listRead, if_neg (by decide), if_pos rfl, if_pos ⟨first, last⟩]

theorem listRead_waiting_out (h : start = 0 ∨ 88 < start) : listRead 1 start s = (s, plain .range) := by
  rw [listRead, if_neg (by decide), if_pos rfl, if_neg (by omega)]

theorem listRead_out (h : 1 < option) : listRead option start s = (s, plain .range) := by
  rw [listRead, if_neg (by omega), if_neg (by omega)]

theorem burnerRead_out (h : k = 0 ∨ 2 < k) : forBurner k burnerRead s = (s, plain .range) :=
  forBurner_other k _ (by omega) (by omega) s

/-- A request that its owner answers with a payload alone. -/
theorem exec_reads {i : Instr} {f : Service} {data : List Byte} (run : s.phase = .running) (owner : serviceOf i = some f)
    (service : f s = (s, done data)) (other : ∀ seq, i ≠ .restart seq := by exact fun _ => nofun) :
    exec i s = .next (answering .done none data s) := exec_answers run owner service rfl other

/-- A request that its owner answers RANGE. -/
theorem exec_outside {i : Instr} {f : Service} (run : s.phase = .running) (owner : serviceOf i = some f)
    (service : f s = (s, plain .range)) (other : ∀ seq, i ≠ .restart seq := by exact fun _ => nofun) :
    exec i s = .next (answering .range none [] s) := exec_answers run owner service rfl other

end

/-- Settles O51: the payload of each read and its length, what the three that clear change, and what is out of range. -/
theorem reads : Obligations.Reads := by
  refine ⟨fun k option start s run => ?_, fun c s run => ?_, fun e d start s run => ?_, fun c b g f i p bytes s run => ?_⟩
  · exact ⟨fun h => exec_outside run rfl (channelRead_out h), fun h => exec_outside run rfl (linkRead_out h),
      fun h => exec_outside run rfl (burnerRead_out h), fun h => exec_outside run rfl (coolerRead_section_out h),
      fun h => exec_outside run rfl (coolerRead_fan_out h),
      fun h => ⟨exec_outside run rfl (coolerRead_out h), exec_outside run rfl (inputRead_out h)⟩,
      fun h => exec_outside run rfl (inputRead_analog_out h), fun h => exec_outside run rfl (inputRead_pulse_out h),
      fun h => exec_outside run rfl (inputRead_discrete_out h), fun h => exec_outside run rfl (forPoint_out h _ s),
      fun h => exec_outside run rfl (listRead_waiting_out h), fun h => exec_outside run rfl (listRead_out h),
      exec_reads run rfl rfl⟩
  · have ident : exec .identRead s = .next (answered (identRead s)) := exec_answered run rfl
    have counters : exec (.linkRead 0) s = .next (answered (linkRead 0 s)) := exec_answered run rfl
    have channel : exec (.channelRead (c.val + 1) 0) s = .next (answered (channelRead (c.val + 1) 0 s)) :=
      exec_answered run rfl
    rw [channelRead_clear] at channel
    exact ⟨ident, identPayload_length s, counters, channel⟩
  · exact ⟨exec_reads run rfl (inputRead_pulse e), pulsePayload_length s e, exec_reads run rfl (inputRead_discrete d),
      discretePayload_length s d,
      fun first last => ⟨exec_reads run rfl (listRead_waiting first last), waitingPayload_length s start⟩⟩
  · exact ⟨exec_reads run rfl rfl, statusPayload_length s, exec_reads run rfl (channelRead_val c), channelPayload_length s c,
      exec_reads run rfl (congrFun (forBurner_burnerCode b _) s), burnerPayload_length s b,
      exec_reads run rfl (coolerRead_section g), sectionPayload_length s g,
      exec_reads run rfl (coolerRead_fan f), fanPayload_length s f, exec_reads run rfl rfl, coolerPayload_length s,
      exec_reads run rfl (inputRead_analog i), analogPayload_length s i,
      exec_reads run rfl (congrFun (forPoint_val p _) s), pointPayload_length s p,
      exec_reads run rfl rfl, listPayload_length s, exec_reads run rfl rfl, linkPayload_length s, exec_reads run rfl rfl⟩

end Sys2Proof.Machine
end

section
/-! PROOFS. The step: the front of the queue, what is due, and the passing of 1 ms (log entries 4, 5 and 6); and the laws in
the state after start-up (log entry 1). -/

namespace Sys2Proof.Machine

-- One proof at a time: proofs that wait for one another hold a thread each, and the threads' memory is bounded.
set_option Elab.async false

/-! ## What is due -/

section
variable {s : State} {i : Instr}

theorem mem_due {t : Timer} {i j : Instr} : i ∈ due t j ↔ t = some 0 ∧ i = j := by
  unfold due
  split
  next runs => simp [runs]
  next runs => simp [runs]

theorem mem_handedDue : i ∈ s.handed.filterMap handedCommand ↔ ∃ x ∈ s.handed, handedCommand x = some i :=
  List.mem_filterMap

theorem mem_grateDue (g : Grate) : i ∈ grateDue s g ↔
    (∃ p, s.cooler.grates[g].phase = some p ∧ s.cooler.grates[g].phaseTimer = some 0 ∧ i = phaseCommand g p)
    ∨ ∃ since, s.cooler.grates[g].guard = some since ∧ s.cooler.grates[g].guardTime ≤ since ∧ i = .returnGuardEnd g := by
  unfold grateDue
  generalize s.cooler.grates[g] = x
  obtain ⟨state, runOut, phase, phaseTimer, guard⟩ := x
  cases phase <;> cases guard <;> simp [mem_due]

theorem mem_burnDue (b : Burner) : i ∈ burnDue s b ↔
    (s.burns.get b).purgeTimer = some 0 ∧ i = .purgeTimerExpiry b
    ∨ (s.burns.get b).trialTimer = some 0 ∧ i = .trialTimerExpiry b
    ∨ (s.burns.get b).stabTimer = some 0 ∧ i = .stabiliseTimerExpiry b := by
  simp only [burnDue, List.mem_append, mem_due, or_assoc]

theorem mem_chanDue (c : Channel) : i ∈ chanDue s c ↔
    s.chans[c].holdTimer = some 0 ∧ i = .holdTimerExpiry c
    ∨ s.chans[c].stage.bind Stage.timer = some 0 ∧ i = .stageTimerExpiry c := by
  simp only [chanDue, List.mem_append, mem_due]

theorem mem_flatMap_finRange {n : Nat} {f : Fin n → List Instr} : i ∈ (List.finRange n).flatMap f ↔ ∃ k, i ∈ f k := by
  simp only [List.mem_flatMap, List.mem_finRange, true_and]

theorem mem_flatMap_bothBurners {f : Burner → List Instr} : i ∈ bothBurners.flatMap f ↔ ∃ b, i ∈ f b := by
  constructor
  · intro h
    obtain ⟨b, -, mem⟩ := List.mem_flatMap.mp h
    exact ⟨b, mem⟩
  · rintro ⟨b, mem⟩
    exact List.mem_flatMap.mpr ⟨b, by cases b <;> decide, mem⟩

theorem mem_blocksDue : i ∈ blocksDue s ↔
    (∃ x ∈ s.handed, handedCommand x = some i)
    ∨ (∃ d : DiscreteIn, i ∈ due s.scan.discrete[d].timer (.debounceExpiry d))
    ∨ i ∈ due s.planner.planTimer .planCycleExpiry
    ∨ (∃ c, i ∈ chanDue s c) ∨ (∃ b, i ∈ burnDue s b) ∨ (∃ g, i ∈ grateDue s g)
    ∨ i ∈ due s.shift.secondTimer .secondTimerExpiry
    ∨ i ∈ due s.floor.supervision .supervisionExpiry ∨ i ∈ due s.floor.grace .graceExpiry
    ∨ i ∈ due s.floor.settle .settleExpiry := by
  simp only [blocksDue, List.mem_append, mem_handedDue, mem_flatMap_finRange, mem_flatMap_bothBurners, or_assoc]

/-- A handed cause is due as its command. -/
theorem dueNow_of_handed {x : Burner × Cause} (handed : x ∈ s.handed) (command : handedCommand x = some i) :
    DueNow s i := by
  obtain ⟨b, cause⟩ := x
  cases cause <;> cases b <;> cases command <;> exact handed

theorem dueNow_of_grateDue {g : Grate} (h : i ∈ grateDue s g) : DueNow s i := by
  rcases (mem_grateDue g).mp h with ⟨p, phase, runs, rfl⟩ | ⟨since, guard, passed, rfl⟩
  · cases p <;> exact ⟨phase, runs⟩
  · exact ⟨since, guard, passed⟩

theorem dueNow_of_mem (h : i ∈ blocksDue s) : DueNow s i := by
  rcases mem_blocksDue.mp h with ⟨x, handed, command⟩ | ⟨d, h⟩ | h | ⟨c, h⟩ | ⟨b, h⟩ | ⟨g, h⟩ | h | h | h | h
  · exact dueNow_of_handed handed command
  · obtain ⟨runs, rfl⟩ := mem_due.mp h
    exact runs
  · obtain ⟨runs, rfl⟩ := mem_due.mp h
    exact runs
  · rcases (mem_chanDue c).mp h with ⟨runs, rfl⟩ | ⟨runs, rfl⟩
    · exact runs
    · obtain ⟨g, stage, runs⟩ := Option.bind_eq_some_iff.mp runs
      exact (congrArg (Option.map Stage.timer) stage).trans (congrArg some runs)
  · rcases (mem_burnDue b).mp h with ⟨runs, rfl⟩ | ⟨runs, rfl⟩ | ⟨runs, rfl⟩ <;> exact runs
  · exact dueNow_of_grateDue h
  all_goals
    obtain ⟨runs, rfl⟩ := mem_due.mp h
    exact runs

theorem mem_of_phaseEnds {g : Grate} {p : Phase}
    (h : s.cooler.grates[g].phase = some p ∧ s.cooler.grates[g].phaseTimer = some 0) : ∃ g', phaseCommand g p ∈ grateDue s g' :=
  ⟨g, (mem_grateDue g).mpr (.inl ⟨p, h.1, h.2, rfl⟩)⟩

theorem mem_of_dueNow (h : DueNow s i) : i ∈ blocksDue s ∨ i = .gapExpiry ∧ s.link.gapTimer = some 0 := by
  unfold DueNow at h
  split at h
  case h_20 => exact .inr ⟨rfl, h⟩
  case h_21 => exact h.elim
  all_goals refine .inl (mem_blocksDue.mpr ?_)
  case h_1 b p => exact .inl ⟨_, h, rfl⟩
  case h_2 b => exact .inl ⟨_, h, rfl⟩
  case h_3 => exact .inl ⟨_, h, rfl⟩
  case h_4 d => exact .inr (.inl ⟨d, mem_due.mpr ⟨h, rfl⟩⟩)
  all_goals refine .inr (.inr ?_)
  case h_5 => exact .inl (mem_due.mpr ⟨h, rfl⟩)
  all_goals refine .inr ?_
  case h_6 c => exact .inl ⟨c, (mem_chanDue c).mpr (.inl ⟨h, rfl⟩)⟩
  case h_7 c =>
    obtain ⟨g, stage, runs⟩ := Option.map_eq_some_iff.mp h
    exact .inl ⟨c, (mem_chanDue c).mpr (.inr ⟨Option.bind_eq_some_iff.mpr ⟨g, stage, runs⟩, rfl⟩)⟩
  all_goals refine .inr ?_
  case h_8 b => exact .inl ⟨b, (mem_burnDue b).mpr (.inl ⟨h, rfl⟩)⟩
  case h_9 b => exact .inl ⟨b, (mem_burnDue b).mpr (.inr (.inl ⟨h, rfl⟩))⟩
  case h_10 b => exact .inl ⟨b, (mem_burnDue b).mpr (.inr (.inr ⟨h, rfl⟩))⟩
  all_goals refine .inr ?_
  case h_11 g => exact .inl (mem_of_phaseEnds h)
  case h_12 g => exact .inl (mem_of_phaseEnds h)
  case h_13 g => exact .inl (mem_of_phaseEnds h)
  case h_14 g => exact .inl (mem_of_phaseEnds h)
  case h_15 g =>
    obtain ⟨since, guard, passed⟩ := h
    exact .inl ⟨g, (mem_grateDue g).mpr (.inr ⟨since, guard, passed, rfl⟩)⟩
  all_goals refine .inr ?_
  case h_16 => exact .inl (mem_due.mpr ⟨h, rfl⟩)
  case h_17 => exact .inr (.inl (mem_due.mpr ⟨h, rfl⟩))
  case h_18 => exact .inr (.inr (.inl (mem_due.mpr ⟨h, rfl⟩)))
  case h_19 => exact .inr (.inr (.inr (mem_due.mpr ⟨h, rfl⟩)))

/-- What is due: of the blocks while they run, of the link whenever it does. -/
theorem mem_ready : i ∈ ready s ↔ DueNow s i ∧ (s.phase = .running ∨ s.phase = .loading ∧ i = .gapExpiry) := by
  have gap : i ∈ due s.link.gapTimer .gapExpiry ↔ DueNow s i ∧ i = .gapExpiry := by
    rw [mem_due]
    constructor
    · rintro ⟨runs, rfl⟩
      exact ⟨runs, rfl⟩
    · rintro ⟨runs, rfl⟩
      exact ⟨runs, rfl⟩
  unfold ready
  split
  next phase => simp [phase]
  next phase => simp [phase, gap]
  next phase =>
    rw [List.mem_append, gap]
    simp only [phase, true_or, and_true]
    constructor
    · rintro (blocks | ⟨link, -⟩)
      · exact dueNow_of_mem blocks
      · exact link
    · intro now
      rcases mem_of_dueNow now with blocks | ⟨rfl, -⟩
      · exact .inl blocks
      · exact .inr ⟨now, rfl⟩

end

/-! ## The step -/

theorem tick_eq (s : State) : tick s = match s.phase with
    | .held => s
    | .loading => { s with link := { s.link with gapTimer := s.link.gapTimer.map fun n => n - 1 } }
    | .running => later s := by
  obtain ⟨phase⟩ := s
  cases phase <;> rfl

/-- Settles O1: the front of the queue, and with none waiting what is due, or 1 ms. -/
theorem stepRunsFrontCommand : Obligations.StepRunsFrontCommand := by
  refine ⟨fun c rest s front => ?_, fun s empty => ?_⟩
  · rw [step, front]
  · have idles : step s = idle s := by rw [step, empty]
    refine ⟨fun nothing => ?_, fun i one => ?_, fun several => ?_, fun i => mem_ready⟩
    · rw [idles, idle, nothing]
      exact congrArg Host.Outcome.next (tick_eq s)
    · rw [idles, idle, one]
    · match l : ready s, several with
      | i :: j :: rest, _ =>
        have inside : Config.firstTaken s.draws % (i :: j :: rest).length < (i :: j :: rest).length :=
          Nat.mod_lt _ (Nat.succ_pos _)
        refine ⟨_, List.getElem_mem inside, ?_⟩
        rw [idles, idle, l]
        have picked : pick s (i :: j :: rest) = some ((i :: j :: rest)[_]'inside) := List.getElem?_eq_getElem inside
        exact congrArg (fun found => exec (found.getD i) s.drawn) picked

/-! ## The state after start-up (section 10.5) -/

theorem startPoint_silent (x : PointSet) : (startPoint x).state ≠ .activeUnack ∧ (startPoint x).state ≠ .clearedUnack := by
  unfold startPoint
  dsimp only
  split <;> decide

theorem reset_points (p : Point) : State.reset.alarm.points[p] =
    if 82 = p then resetPoint83 else startPoint defaultSettings.points[p] := by
  have same : State.reset.alarm.points[p] = (upd (startAlarm defaultSettings).points 82 fun _ => resetPoint83)[p.val] := rfl
  rw [same]
  by_cases is : 82 = p
  · subst is
    rw [if_pos rfl]
    exact upd_same _ _ _
  · rw [if_neg is, upd_other _ _ is]
    exact Vector.getElem_ofFn _

theorem reset_cond {p : Point} (other : 82 ≠ p) : State.reset.alarm.points[p].cond = false := by
  rw [reset_points, if_neg other]
  rfl

theorem reset_isUnacked (p : Point) : isUnacked State.reset p = true ↔ p = 82 := by
  unfold isUnacked
  rw [reset_points]
  by_cases is : 82 = p
  · subst is
    simp [resetPoint83]
  · have silent := startPoint_silent defaultSettings.points[p]
    simp only [if_neg is, decide_eq_true_eq, silent.1, silent.2, or_self, Ne.symm is]

/-- Point 83 alone stands on the list (R175). -/
theorem reset_alarmInv : AlarmInv State.reset := by
  have list : State.reset.alarm.list ++ State.reset.alarm.queue = [82] := rfl
  refine ⟨Nat.le_of_ble_eq_true rfl, fun _ => rfl, ?_, fun p => ?_⟩
  · rw [list]
    exact List.nodup_singleton _
  · rw [list, reset_isUnacked, List.mem_singleton]

theorem reset_channel (c : Channel) : State.reset.chans[c] = startChan false := Vector.getElem_replicate _

theorem reset_burner (b : Burner) : State.reset.burns.get b = startBurn := by cases b <;> rfl

theorem reset_grate (g : Grate) : State.reset.cooler.grates[g] = startGrate 100 ⟨2000, 2000, 250, 6000⟩ :=
  Vector.getElem_replicate _

theorem reset_driveInv : DriveInv State.reset := by
  intro c
  have set : State.reset.live.chans[c] = {} := Vector.getElem_replicate _
  have drive : driveOutput State.reset c = 0 := by rw [driveOutput, reset_channel]; rfl
  rw [reset_channel, set, drive]
  decide

theorem reset_conditionInv : ConditionInv State.reset := by
  intro c
  rw [reset_channel, reset_cond (by revert c; decide), reset_cond (by revert c; decide)]
  exact ⟨by decide, by decide⟩

theorem reset_followInv : FollowInv State.reset := by
  intro c away
  rw [reset_channel] at away
  exact absurd away (by decide)

theorem reset_inhibitInv : InhibitInv State.reset := fun b away => absurd (congrArg Burn.state (reset_burner b)) away

theorem reset_standbyInv : StandbyInv State.reset :=
  ⟨fun _ b => congrArg Burn.state (reset_burner b), fun standby => absurd standby (by decide)⟩

theorem reset_ringInv : RingInv State.reset := ⟨Nat.zero_le _, .singleton _⟩

theorem reset_strokeInv : StrokeInv State.reset := by
  intro g
  have closed : forwardOpen State.reset g = false := by rw [forwardOpen, reset_grate]; rfl
  rw [closed, reset_grate]
  decide

/-- Settles O60: every law in the state after start-up. -/
theorem resetIsLawful : Obligations.ResetIsLawful :=
  ⟨reset_alarmInv, reset_driveInv, reset_conditionInv, reset_followInv, reset_inhibitInv, reset_standbyInv, reset_ringInv,
    reset_strokeInv⟩

end Sys2Proof.Machine
end

section
/-! PROOFS. The image: its CRC-32, the judgement of every image area, and that a stored set in range is loaded as it was
(R175, R179). -/

namespace Sys2Proof.Machine

-- One proof at a time: proofs that wait for one another hold a thread each, and the threads' memory is bounded.
set_option Elab.async false

/-! ## A settings set is its items -/

theorem Assign.code_inj {a b : Assign} (h : a.code = b.code) : a = b := by
  cases a <;> cases b <;> simp [Assign.code] at h ⊢
theorem TripTarget.code_inj {a b : TripTarget} (h : a.code = b.code) : a = b := by
  cases a <;> cases b <;> simp [TripTarget.code] at h ⊢
theorem StartState.code_inj {a b : StartState} (h : a.code = b.code) : a = b := by
  cases a <;> cases b <;> simp [StartState.code] at h ⊢
theorem GrateMode.code_inj {a b : GrateMode} (h : a.code = b.code) : a = b := by
  cases a <;> cases b <;> simp [GrateMode.code] at h ⊢

theorem InputSet.eq_of_item {x y : InputSet} (h : ∀ k, x.item k = y.item k) : x = y := by
  cases x
  cases y
  exact (InputSet.mk.injEq ..).mpr ⟨h .scaleLow, h .scaleHigh, h .lowLimit, h .highLimit, Int.ofNat.inj (h .hysteresis)⟩

theorem ChanSet.eq_of_item {x y : ChanSet} (h : ∀ k, x.item k = y.item k) : x = y := by
  cases x
  cases y
  exact (ChanSet.mk.injEq ..).mpr ⟨Assign.code_inj (Int.ofNat.inj (h .assign)), Int.ofNat.inj (h .cv),
    Int.ofNat.inj (h .share), Int.ofNat.inj (h .minRate), Int.ofNat.inj (h .maxRate), Int.ofNat.inj (h .fullRate),
    Int.ofNat.inj (h .tare), Int.ofNat.inj (h .span), Int.ofNat.inj (h .ppm), Int.ofNat.inj (h .trimGain),
    Int.ofNat.inj (h .trimLimit), Int.ofNat.inj (h .tolerance), Int.ofNat.inj (h .devTime), Int.ofNat.inj (h .holdTime),
    Int.ofNat.inj (h .calDrive)⟩

theorem BurnerSet.eq_of_item {x y : BurnerSet} (heat : ∀ k, x.heatItem k = y.heatItem k) (h : ∀ k, x.item k = y.item k)
    (fallback : x.fallbackHeat = y.fallbackHeat) : x = y := by
  cases x
  cases y
  exact (BurnerSet.mk.injEq ..).mpr ⟨Int.ofNat.inj (heat .maxHeat), Int.ofNat.inj (heat .rampRate),
    Int.ofNat.inj (heat .shortfallLimit), Int.ofNat.inj (h .purgeTime), h .purgeLow, h .purgeHigh,
    Int.ofNat.inj (h .trialTime), Int.ofNat.inj (h .flameOn), Int.ofNat.inj (h .flameOff), Int.ofNat.inj (h .failSamples),
    Int.ofNat.inj (h .permit), fallback⟩

theorem GrateSet.eq_of_item {x y : GrateSet} (h : ∀ k, x.item k = y.item k) : x = y := by
  cases x
  cases y
  exact (GrateSet.mk.injEq ..).mpr ⟨GrateMode.code_inj (Int.ofNat.inj (h .mode)), Int.ofNat.inj (h .manualRate),
    Int.ofNat.inj (h .forward), Int.ofNat.inj (h .ret), Int.ofNat.inj (h .dead), Int.ofNat.inj (h .rateMin),
    Int.ofNat.inj (h .rateMax), Int.ofNat.inj (h .ratio), Int.ofNat.inj (h .setpoint), Int.ofNat.inj (h .rateGain),
    Int.ofNat.inj (h .clinkerFactor)⟩

theorem CoolerSet.eq_of_item {x y : CoolerSet} (h : ∀ k, x.item k = y.item k) : x = y := by
  cases x
  cases y
  exact (CoolerSet.mk.injEq ..).mpr ⟨Int.ofNat.inj (h .overloadPressure), Int.ofNat.inj (h .overloadTime),
    Int.ofNat.inj (h .clearTime), Int.ofNat.inj (h .capPercent), Int.ofNat.inj (h .boost)⟩

theorem FanSet.eq_of_item {x y : FanSet} (h : ∀ k, x.item k = y.item k) : x = y := by
  cases x
  cases y
  exact (FanSet.mk.injEq ..).mpr ⟨Vector.ext fun k lt => Int.ofNat.inj (h (.table ⟨k, lt⟩)), Int.ofNat.inj (h .gain),
    Int.ofNat.inj (h .failLevel), Int.ofNat.inj (h .failTime), Int.ofNat.inj (h .standby)⟩

theorem PointSet.eq_of_item {x y : PointSet} (h : ∀ k, x.item k = y.item k) : x = y := by
  cases x
  cases y
  exact (PointSet.mk.injEq ..).mpr ⟨Int.ofNat.inj (h .priority), TripTarget.code_inj (Int.ofNat.inj (h .target)),
    StartState.code_inj (Int.ofNat.inj (h .start))⟩

/-- Two settings sets with the same items are the same. -/
theorem Settings.eq_of_get {a b : Settings} (h : ∀ r, a.get r = b.get r) : a = b := by
  have burner (k : Burner) : a.burners.get k = b.burners.get k :=
    BurnerSet.eq_of_item (fun j => h (.heat k j)) (fun j => h (.burner k j)) (Int.ofNat.inj (h (.fallbackHeat k)))
  have main := burner .main
  have calciner := burner .calciner
  cases a
  cases b
  refine (Settings.mk.injEq ..).mpr ⟨Vector.ext fun i lt => InputSet.eq_of_item fun k => h (.input ⟨i, lt⟩ k), ?_,
    Vector.ext fun c lt => ChanSet.eq_of_item fun k => h (.chan ⟨c, lt⟩ k),
    Vector.ext fun g lt => GrateSet.eq_of_item fun k => h (.grate ⟨g, lt⟩ k), CoolerSet.eq_of_item fun k => h (.cooler k),
    Vector.ext fun f lt => FanSet.eq_of_item fun k => h (.fan ⟨f, lt⟩ k),
    Vector.ext fun p lt => PointSet.eq_of_item fun k => h (.point ⟨p, lt⟩ k), Int.ofNat.inj (h .shelveDefault),
    Int.ofNat.inj (h .shiftStart), Int.ofNat.inj (h .shiftLength), Int.ofNat.inj (h .supervisionTime),
    Int.ofNat.inj (h .graceTime)⟩
  exact PerBurner.mk.injEq .. |>.mpr ⟨main, calciner⟩

/-! ## What an image stores -/

theorem inRange_fits {r : Ref} {v : Int} (h : inRange r v = true) : -2147483648 ≤ v ∧ v < 2147483648 := by
  have units (i : AnalogIn) : -2147483648 ≤ (unitRange i).1 ∧ (unitRange i).2 < 2147483648 := by revert i; decide
  unfold inRange at h
  split at h
  case h_2 i k _ =>
    obtain ⟨low, high⟩ := within_iff.mp h
    have := units i
    omega
  case h_55 => simp only [decide_eq_true_eq] at h; omega
  all_goals
    obtain ⟨low, high⟩ := within_iff.mp h
    omega

theorem ofBeS_stored {v : Int} (fits : -2147483648 ≤ v ∧ v < 2147483648) : ofBeS (beS 4 v) = v :=
  ofBeS_beS 4 v (by norm_num; omega) (by norm_num; omega)

/-- Items stored one after another: what stands at the place of one. -/
theorem items_at (value : Ref → Int) (rest : List Byte) {refs : List Ref} {r : Ref} (mem : r ∈ refs) :
    (((refs.flatMap fun q => beS 4 (value q)) ++ rest).drop (4 * refs.idxOf r)).take 4 = beS 4 (value r) := by
  induction refs with
  | nil => simp at mem
  | cons x rs ih =>
    by_cases e : r = x
    · subst e
      rw [List.idxOf_cons_self, Nat.mul_zero, List.drop_zero, List.flatMap_cons, List.append_assoc]
      exact List.take_left' (beS_length 4 _)
    · rw [List.idxOf_cons_ne _ (Ne.symm e), Nat.mul_succ, Nat.add_comm, ← List.drop_drop, List.flatMap_cons,
        List.append_assoc, List.drop_left' (beS_length 4 _)]
      exact ih (List.mem_of_ne_of_mem e mem)

/-- The stored value of an item in an image area. -/
def storedAt (image : List Byte) (r : Ref) : Int := ofBeS (((areaOf image).drop (4 + 4 * allRefs.idxOf r)).take 4)

theorem storedOf_storedItems (image : List Byte) (r : Ref) : storedOf (storedItems image) r = storedAt image r := by
  rw [storedOf, storedItems, readItems_lookup _ _ (storedItems_room image) (mem_allRefs r), Option.getD_some, List.drop_drop]
  rfl

theorem areaOf_imageBytes (set : Settings) : areaOf (trimErased (imageBytes set)) = imageBytes set := by
  rw [areaOf_trimErased (imageBytes_length set).le, areaOf, imageLength, imageBytes_length,
    List.take_of_length_le (imageBytes_length set).le, Nat.sub_self, List.replicate_zero, List.append_nil]

/-- The CRC-32 that an image carries is the one that the load computes over it. -/
theorem imageBytes_crcAgrees (set : Settings) : crcAgrees (imageBytes set) = true := by
  have four : (be 4 (crc32 (imageBody set)).toNat).take 4 = be 4 (crc32 (imageBody set)).toNat :=
    List.take_of_length_le (be_length 4 _).le
  rw [crcAgrees, imageBytes, imageLength, List.take_left' (imageBody_length set), List.drop_left' (imageBody_length set),
    four, ofBe_be 4 _ (crc32 (imageBody set)).isLt, decide_eq_true rfl]

theorem imageBytes_format (set : Settings) : (imageBytes set).take 4 = [0#8, 0#8, 0#8, 1#8] := by
  rw [imageBytes, imageBody, List.append_assoc]
  exact List.take_left' (be_length 4 _)

theorem storedAt_image (set : Settings) {r : Ref} (range : inRange r (set.get r) = true) :
    storedAt (trimErased (imageBytes set)) r = set.get r := by
  rw [storedAt, areaOf_imageBytes, imageBytes, imageBody, List.append_assoc, ← List.drop_drop,
    List.drop_left' (be_length 4 _), imageItems, items_at _ _ (mem_allRefs r), ofBeS_stored (inRange_fits range)]

/-! ## The judgement (R175) -/

/-- The constrained pair that an item is of. -/
def pairOf (r : Ref) : Option (Ref × Ref) :=
  match r with
  | .chan c .minRate | .chan c .maxRate => some (.chan c .minRate, .chan c .maxRate)
  | .burner b .flameOff | .burner b .flameOn => some (.burner b .flameOff, .burner b .flameOn)
  | .burner b .purgeLow | .burner b .purgeHigh => some (.burner b .purgeLow, .burner b .purgeHigh)
  | .input i .scaleLow | .input i .scaleHigh => some (.input i .scaleLow, .input i .scaleHigh)
  | .grate g .rateMin | .grate g .rateMax => some (.grate g .rateMin, .grate g .rateMax)
  | _ => none

/-- The pairs are those of the items. -/
theorem pairOf_iff {r : Ref} {p : Ref × Ref} : pairOf r = some p ↔ p ∈ pairs ∧ (p.1 = r ∨ p.2 = r) := by
  have burners (b : Burner) : b ∈ bothBurners := by cases b <;> decide
  constructor
  · intro h
    unfold pairOf at h
    split at h
    case h_11 => cases h
    all_goals
      cases h
      exact ⟨by simp [pairs, burners], by simp⟩
  · rintro ⟨mem, own⟩
    simp only [pairs, List.mem_append, List.mem_map, List.mem_finRange, true_and] at mem
    rcases mem with (((⟨c, rfl⟩ | ⟨b, -, rfl⟩) | ⟨i, rfl⟩) | ⟨b, -, rfl⟩) | ⟨g, rfl⟩ <;>
      rcases own with rfl | rfl <;> rfl

/-- The terms of the statement for an item of a pair. -/
structure PairItem (r low high : Ref) : Prop where
  own : r = low ∧ partner r = some high ∨ r = high ∧ partner r = some low
  loaded : isLoaded low = isLoaded r ∧ isLoaded high = isLoaded r
  kept : ∀ value : Ref → Int, pairKept value r = pairHolds low (value low) (value high)

theorem pairItem_of {r : Ref} {p : Ref × Ref} (h : pairOf r = some p) : PairItem r p.1 p.2 := by
  obtain ⟨mem, own⟩ := pairOf_iff.mp h
  simp only [pairs, List.mem_append, List.mem_map, List.mem_finRange, true_and] at mem
  rcases mem with (((⟨c, rfl⟩ | ⟨b, -, rfl⟩) | ⟨i, rfl⟩) | ⟨b, -, rfl⟩) | ⟨g, rfl⟩ <;>
    rcases own with rfl | rfl <;>
      exact ⟨by simp [partner], ⟨rfl, rfl⟩, fun _ => rfl⟩

theorem unpaired_of {r : Ref} (h : pairOf r = none) : partner r = none ∧ ∀ value, pairKept value r = true := by
  cases r with
  | input i k => cases k <;> first | exact ⟨rfl, fun _ => rfl⟩ | cases h
  | chan c k => cases k <;> first | exact ⟨rfl, fun _ => rfl⟩ | cases h
  | burner b k => cases k <;> first | exact ⟨rfl, fun _ => rfl⟩ | cases h
  | grate g k => cases k <;> first | exact ⟨rfl, fun _ => rfl⟩ | cases h
  | _ => exact ⟨rfl, fun _ => rfl⟩

/-- Is a loaded item out of its range in an image area? -/
def outAt (image : List Byte) (r : Ref) : Bool := isLoaded r && !inRange r (storedAt image r)

/-- Is a loaded item at its default: itself or its partner out of range, or the constraint of the two broken? -/
def badAt (image : List Byte) (r : Ref) : Bool :=
  outAt image r || (isLoaded r && ((partner r).any (outAt image) || !pairKept (storedAt image) r))

theorem isOut_storedItems (image : List Byte) (r : Ref) : isOut (storedItems image) r = outAt image r := by
  rw [isOut, storedOf_storedItems, outAt]

theorem pairBroken_storedItems (image : List Byte) (p : Ref × Ref) : pairBroken (storedItems image) p
    = (isLoaded p.1 && (outAt image p.1 || outAt image p.2
      || !pairHolds p.1 (storedAt image p.1) (storedAt image p.2))) := by
  rw [pairBroken, isOut_storedItems, isOut_storedItems, storedOf_storedItems, storedOf_storedItems]

/-- An item is at its default by itself, or by the pair it is of. -/
theorem badAt_eq (image : List Byte) (r : Ref) :
    badAt image r = (outAt image r || (isLoaded r && (pairOf r).any (pairBroken (storedItems image)))) := by
  cases paired : pairOf r with
  | none =>
    obtain ⟨alone, kept⟩ := unpaired_of paired
    simp only [badAt, alone, kept, Option.any_none, Bool.not_true, Bool.or_false]
  | some p =>
    obtain ⟨own, ⟨low, high⟩, kept⟩ := pairItem_of paired
    rw [badAt, kept, Option.any_some, pairBroken_storedItems, low]
    rcases own with ⟨rfl, other⟩ | ⟨rfl, other⟩
    · rw [other, Option.any_some]
      cases isLoaded p.1 <;> cases outAt image p.1 <;> simp
    · rw [other, Option.any_some]
      cases isLoaded p.2 <;> cases outAt image p.2 <;> simp

theorem loadsAsStored_storedItems (image : List Byte) (r : Ref) :
    loadsAsStored (storedItems image) r = (isLoaded r && !badAt image r) := by
  have own : (pairs.any fun p => decide (p.1 = r ∨ p.2 = r) && pairBroken (storedItems image) p)
      = (pairOf r).any (pairBroken (storedItems image)) := by
    rw [Bool.eq_iff_iff, List.any_eq_true, Option.any_eq_true]
    constructor
    · rintro ⟨p, mem, broken⟩
      obtain ⟨of, broken⟩ := Bool.and_eq_true_iff.mp broken
      exact ⟨p, pairOf_iff.mpr ⟨mem, of_decide_eq_true of⟩, broken⟩
    · rintro ⟨p, of, broken⟩
      obtain ⟨mem, of⟩ := pairOf_iff.mp of
      exact ⟨p, mem, Bool.and_eq_true_iff.mpr ⟨decide_eq_true of, broken⟩⟩
  rw [loadsAsStored, own, isOut_storedItems, badAt_eq]
  cases isLoaded r <;> cases outAt image r <;> simp

/-- R175: an image is INVALID when an item of it is at its default. -/
theorem anyBad_iff (image : List Byte) :
    ((storedItems image).any (fun p => isOut (storedItems image) p.1) || pairs.any (pairBroken (storedItems image))) = true
      ↔ ∃ r, badAt image r = true := by
  rw [Bool.or_eq_true, List.any_eq_true, List.any_eq_true]
  constructor
  · rintro (⟨p, -, out⟩ | ⟨p, mem, broken⟩)
    · exact ⟨p.1, by rw [badAt, ← isOut_storedItems, out, Bool.true_or]⟩
    · have loaded : isLoaded p.1 = true := by
        rw [pairBroken, Bool.and_eq_true] at broken
        exact broken.1
      exact ⟨p.1, by rw [badAt_eq, pairOf_iff.mpr ⟨mem, .inl rfl⟩, Option.any_some, broken, loaded, Bool.and_self, Bool.or_true]⟩
  · rintro ⟨r, bad⟩
    rw [badAt_eq, Bool.or_eq_true, Bool.and_eq_true, Option.any_eq_true] at bad
    rcases bad with out | ⟨-, p, of, broken⟩
    · have key : r ∈ (storedItems image).map Prod.fst := storedItems_keys image ▸ mem_allRefs r
      obtain ⟨p, mem, rfl⟩ := List.mem_map.mp key
      exact .inl ⟨p, mem, (isOut_storedItems image p.1).trans out⟩
    · exact .inr ⟨p, (pairOf_iff.mp of).1, broken⟩

section
variable {image : List Byte}

/-- Does an image area stand by its CRC-32 and its format number? -/
def Sound (image : List Byte) : Prop := crcAgrees (areaOf image) = true ∧ (areaOf image).take 4 = [0#8, 0#8, 0#8, 1#8]

theorem ofBe_format {l : List Byte} (four : l.length = 4) : ofBe l = imageFormat ↔ l = [0#8, 0#8, 0#8, 1#8] := by
  obtain ⟨a, b, c, d, rfl⟩ : ∃ a b c d, l = [a, b, c, d] := List.length_eq_four.mp four
  have value : ofBe [a, b, c, d] = ((a.toNat * 256 + b.toNat) * 256 + c.toNat) * 256 + d.toNat := by simp [ofBe]
  rw [value, imageFormat]
  constructor
  · intro h
    have zero {x : Byte} (h : x.toNat = 0) : x = 0#8 := BitVec.eq_of_toNat_eq h
    have one {x : Byte} (h : x.toNat = 1) : x = 1#8 := BitVec.eq_of_toNat_eq h
    rw [zero (x := a) (by omega), zero (x := b) (by omega), zero (x := c) (by omega), one (x := d) (by omega)]
  · intro h
    simp only [List.cons.injEq, and_true] at h
    obtain ⟨rfl, rfl, rfl, rfl⟩ := h
    rfl

theorem sound_iff : (!crcAgrees (areaOf image) || decide (ofBe ((areaOf image).take 4) ≠ imageFormat)) = false
    ↔ Sound image := by
  have four : ((areaOf image).take 4).length = 4 := by rw [List.length_take, areaOf_length]; rfl
  rw [Bool.or_eq_false_iff, Bool.not_eq_false', decide_eq_false_iff_not, not_not, ofBe_format four, Sound]

theorem judgeImage_blank (blank : ∀ b ∈ areaOf image, b = 255#8) : judgeImage image = (.blank, defaultSettings) :=
  if_pos (List.all_eq_true.mpr fun b mem => decide_eq_true (blank b mem))

theorem written_iff : (areaOf image).all (fun b => decide (b = erased)) = false ↔ ∃ b ∈ areaOf image, b ≠ 255#8 := by
  rw [List.all_eq_false]
  exact exists_congr fun b => and_congr_right fun _ => not_congr decide_eq_true_iff

theorem judgeImage_unsound (written : ∃ b ∈ areaOf image, b ≠ 255#8) (unsound : ¬Sound image) :
    judgeImage image = (.invalid, defaultSettings) := by
  have wrong := Bool.of_not_eq_false (mt sound_iff.mp unsound)
  rw [judgeImage, written_iff.mpr written, wrong]
  rfl

theorem judgeImage_sound (sound : Sound image) : judgeImage image
    = (if (storedItems image).any (fun p => isOut (storedItems image) p.1) || pairs.any (pairBroken (storedItems image))
        then .invalid else .valid, setOf (storedItems image)) := by
  have written : ∃ b ∈ areaOf image, b ≠ 255#8 :=
    ⟨0#8, List.mem_of_mem_take (i := 4) (sound.2 ▸ List.mem_cons_self), by decide⟩
  rw [judgeImage, written_iff.mpr written, sound_iff.mpr sound, if_neg Bool.false_ne_true, if_neg Bool.false_ne_true]
  exact (apply_ite (fun state => (state, setOf (storedItems image))) _ _ _).symm

theorem judged_invalid (sound : Sound image) : (judgeImage image).1 = .invalid ↔ ∃ r, badAt image r = true := by
  rw [judgeImage_sound sound, ← anyBad_iff]
  dsimp only
  split
  next bad => exact iff_of_true rfl bad
  next good => exact iff_of_false nofun good

theorem judged_valid (sound : Sound image) : (judgeImage image).1 = .valid ↔ ∀ r, badAt image r = false := by
  have none_bad : (∀ r, badAt image r = false) ↔ ¬∃ r, badAt image r = true := by
    simp only [not_exists, Bool.not_eq_true]
  rw [none_bad, ← judged_invalid sound, judgeImage_sound sound]
  dsimp only
  split <;> simp

theorem judged_item (sound : Sound image) (r : Ref) : (judgeImage image).2.get r
    = if (!isLoaded r) = true ∨ badAt image r = true then defaultSettings.get r else storedAt image r := by
  rw [judgeImage_sound sound, setOf_get, loadsAsStored_storedItems, storedOf_storedItems]
  cases isLoaded r <;> cases badAt image r <;> rfl

/-- The default of an item that the load leaves aside is in its range. -/
theorem default_inRange {r : Ref} (aside : isLoaded r = false) : inRange r (defaultSettings.get r) = true := by
  cases r with
  | input i k => revert i; cases k <;> decide +kernel
  | grate g k => revert g; cases k <;> decide +kernel
  | _ => cases aside

/-- The image of a set in range, with its pairs kept and the items that the load leaves aside at their default, is VALID and
gives that set. -/
theorem judgeImage_imageBytes (set : Settings) (aside : ∀ r, isLoaded r = false → set.get r = defaultSettings.get r)
    (good : ∀ r, isLoaded r = true → inRange r (set.get r) = true ∧ pairKept set.get r = true) :
    judgeImage (trimErased (imageBytes set)) = (.valid, set) := by
  set image := trimErased (imageBytes set) with image_def
  have area : areaOf image = imageBytes set := areaOf_imageBytes set
  have sound : Sound image := by
    rw [Sound, area]
    exact ⟨imageBytes_crcAgrees set, imageBytes_format set⟩
  have range (r : Ref) : inRange r (set.get r) = true := by
    cases loaded : isLoaded r with
    | true => exact (good r loaded).1
    | false => exact aside r loaded ▸ default_inRange loaded
  have stored : storedAt image = set.get := funext fun r => storedAt_image set (range r)
  have inside (r : Ref) : outAt image r = false := by rw [outAt, stored, range, Bool.not_true, Bool.and_false]
  have fine (r : Ref) : badAt image r = false := by
    rw [badAt, inside, Bool.false_or, Bool.and_eq_false_iff]
    cases loaded : isLoaded r with
    | true =>
      refine .inr ?_
      have partnered : (partner r).any (outAt image) = false := by
        cases partner r with
        | none => rfl
        | some q => exact inside q
      rw [stored, (good r loaded).2, partnered]
      rfl
    | false => exact .inl rfl
  refine Prod.ext ((judged_valid sound).mpr fine) (Settings.eq_of_get fun r => ?_)
  rw [judged_item sound, fine, stored]
  split
  next left =>
    have unloaded : isLoaded r = false := (Bool.not_eq_true' _).mp (left.resolve_right Bool.false_ne_true)
    exact (aside r unloaded).symm
  next => rfl

end

/-- Settles O49: the CRC-32 of an image, the judgement of every image area, and a stored set that is loaded as it was. -/
theorem imageCrcAgrees : Obligations.ImageCrcAgrees := by
  unfold Obligations.ImageCrcAgrees
  intro unloaded
  have left : unloaded = fun r => !isLoaded r := by
    funext r
    have analog (i : AnalogIn) : decide (i.val < 8) = !decide (8 ≤ i.val) := by revert i; decide
    cases r with
    | input i k =>
      cases k with
      | scaleLow => exact analog i
      | scaleHigh => exact analog i
      | _ => rfl
    | grate g k => cases k <;> simp [unloaded, isLoaded]
    | _ => rfl
  clear_value unloaded
  subst left
  refine ⟨fun set => ⟨imageBytes_length set, ?_, fun aside good => ?_⟩, fun image => ?_⟩
  · rw [areaOf_imageBytes]
    exact imageBytes_crcAgrees set
  · exact judgeImage_imageBytes set (fun r h => aside r (congrArg not h)) fun r h => good r (congrArg not h)
  · intro area judged right stored out bad
    have out_eq : out = outAt image := by
      funext r
      exact congrArg (· && !inRange r (storedAt image r)) (Bool.not_not _)
    have bad_eq : bad = badAt image := by
      funext r
      have loaded : (!!isLoaded r) = isLoaded r := Bool.not_not _
      simp only [bad, out_eq, loaded, badAt]
      rfl
    refine ⟨areaOf_length image, judgeImage_blank, judgeImage_unsound, fun sound => ?_⟩
    rw [bad_eq]
    refine ⟨judged_valid sound, judged_invalid sound, judged_item sound⟩

end Sys2Proof.Machine
end

section
/-! PROOFS. The load completion: the blocks as a start sets them, and what an image that is not VALID, an open D4 and a low
D5 then do (R20, R108, R175). -/

namespace Sys2Proof.Machine

-- One proof at a time: proofs that wait for one another hold a thread each, and the threads' memory is bounded.
set_option Elab.async false

/-! ## What each report leaves of a started state -/

/-- The blocks as a start sets them, apart from what the reports of step 5 and 6 may have changed (R175). -/
structure Started (set : Settings) (tare : Bool) (s : State) : Prop where
  chans : ∀ c : Channel, s.chans[c] = startChan tare
  demand : s.planner.demand = ⟨startDemand, startDemand⟩
  planTimer : s.planner.planTimer = some 1000
  grates : ∀ g : Grate, s.cooler.grates[g] = startGrateOf set.grates[g]
  fans : ∀ f : Fan, s.cooler.fans[f].on = false ∧ s.cooler.fans[f].damper = 0
  shift : s.shift.secondTimer = some 1000 ∧ s.shift.isSet = false ∧ s.shift.ring = []

section
variable {set : Settings} {tare : Bool} {s : State}

theorem startBlocks_atStart (set : Settings) (tare : Bool) (s : State) : Started set tare (startBlocks set tare s) where
  chans _ := Vector.getElem_replicate _
  demand := rfl
  planTimer := rfl
  grates g := Vector.getElem_map _ g.isLt
  fans f := by
    have start : (startBlocks set tare s).cooler.fans[f] = startFan set.fans[f] := Vector.getElem_map _ f.isLt
    rw [start]
    exact ⟨rfl, rfl⟩
  shift := ⟨rfl, rfl, rfl⟩

/-- The totaliser of a start stays under what the alarms count. -/
theorem AlarmTotals.shift_started {t : State} (totals : AlarmTotals s t)
    (h : s.shift.secondTimer = some 1000 ∧ s.shift.isSet = false ∧ s.shift.ring = []) :
    t.shift.secondTimer = some 1000 ∧ t.shift.isSet = false ∧ t.shift.ring = [] := by
  rw [AlarmTotals] at totals
  rw [totals]
  exact h

theorem Started.reportCond (started : Started set tare s) (p : Point) (present : Bool) :
    Started set tare (reportCond p present s) := by
  have frame := reportCond_touches p present s
  have planner : (Machine.reportCond p present s).planner = s.planner := frame .planner (by decide)
  have cooler : (Machine.reportCond p present s).cooler = s.cooler := frame .cooler (by decide)
  have chans : (Machine.reportCond p present s).chans = s.chans := frame .chans (by decide)
  have totals := reportCond_alarmTotals p present s
  exact ⟨chans ▸ started.chans, planner ▸ started.demand, planner ▸ started.planTimer, cooler ▸ started.grates,
    cooler ▸ started.fans, totals.shift_started started.shift⟩

/-- Of the cooler, the stop of the sections moves the sections alone. -/
theorem stopGrates_cooler (s : State) :
    { (stopGrates s).cooler with grates := s.cooler.grates } = s.cooler :=
  forEach_keeps (f := stopGrate) (g := fun t : State => { t.cooler with grates := s.cooler.grates }) (fun _ _ => rfl) _ s

theorem emergencyStop_cooler (s : State) : { (emergencyStop s).cooler with grates := s.cooler.grates } = s.cooler := by
  have stages : (emergencyStop s).cooler = (stopGrates (stopHanded s)).cooler := abortStages_touches _ _ .cooler (by decide)
  have before : (stopHanded s).cooler = s.cooler := stopHanded_touches s .cooler (by decide)
  have stopped := stopGrates_cooler (stopHanded s)
  rw [before] at stopped
  rw [stages]
  exact stopped

theorem emergencyStop_calm (s : State) : (emergencyStop s).cooler.fans = s.cooler.fans
    ∧ (emergencyStop s).cooler.overload = s.cooler.overload ∧ (emergencyStop s).cooler.clearCount = s.cooler.clearCount
    ∧ (emergencyStop s).cooler.cap = s.cooler.cap := by
  have cooler := emergencyStop_cooler s
  generalize (emergencyStop s).cooler = x at *
  rw [← cooler]
  exact ⟨rfl, rfl, rfl, rfl⟩

theorem emergencyStop_alarmTotals (s : State) : AlarmTotals s (emergencyStop s) :=
  ((reportCond_alarmTotals (pt 79) true s).trans (onHanded_touches _ _).alarmTotals).trans
    ((stopGrates_touches (stopHanded s)).alarmTotals.trans (abortStages_touches _ _).alarmTotals)

theorem Started.emergencyStop (started : Started set tare s) : Started set tare (emergencyStop s) := by
  have planner : (Machine.emergencyStop s).planner = s.planner := emergencyStop_touches s .planner (by decide)
  have fans : (Machine.emergencyStop s).cooler.fans = s.cooler.fans := (emergencyStop_calm s).1
  have shift := (emergencyStop_alarmTotals s).shift_started started.shift
  have chans (c : Channel) : (Machine.emergencyStop s).chans[c] = startChan tare := by
    have out : ¬s.chans[c].state = .calib := by rw [started.chans]; exact nofun
    rw [emergencyStop_chan, if_neg out, started.chans]
  have grates (g : Grate) : (Machine.emergencyStop s).cooler.grates[g] = startGrateOf set.grates[g] := by
    rw [emergencyStop_grate, started.grates]
    rfl
  generalize Machine.emergencyStop s = t at *
  exact ⟨chans, planner ▸ started.demand, planner ▸ started.planTimer, grates, fans ▸ started.fans, shift⟩

theorem emergencyStop_cond (p : Point) (s : State) : (emergencyStop s).alarm.points[p].cond
    = if p = pt 79 then true else s.alarm.points[p].cond := by
  rw [points_congr (emergencyStop_alarm s)]
  exact cond_of_reportCond (pt 79) p true s

/-- An open stop loop is handed to both burners, as a cause of its own and by its point. -/
theorem emergencyStop_hands (absent : s.alarm.points[pt 79].cond = false) (b : Burner) :
    (b, Cause.emergencyStop) ∈ (emergencyStop s).handed ∧ (b, Cause.alarmPoint (pt 79)) ∈ (emergencyStop s).handed := by
  rw [emergencyStop_handed]
  refine ⟨List.mem_append_right _ (by cases b <;> decide), List.mem_append_left _ ?_⟩
  rw [handed_of_reportCond, if_pos ⟨absent, rfl⟩]
  exact List.mem_append_right _ (by cases b <;> exact List.mem_of_elem_eq_true rfl)

/-- What an entry to OVERLOAD does before it reports point 70. -/
def overloadEntered (s : State) : State :=
  forEach hotFans computeDamper
    (capEvent (overloadCap s) (s.onCooler fun x => { x with overload := true, cap := overloadCap s }))

theorem enterOverload_eq (s : State) : enterOverload s =
    (reportCond (pt 70) true (overloadEntered s)).onCooler fun x => { x with clearCount := some 0 } := rfl

theorem overloadEntered_touches (s : State) : Touches [.planner, .chans, .cooler] s (overloadEntered s) :=
  ((onCooler_touches _ s).mono.trans (capEvent_touches _ _).mono).trans (Touches.each computeDamper_touches hotFans _).mono

/-- A low D5 out of OVERLOAD, as its two reports. -/
theorem crusherStopped_overloads (clear : s.cooler.overload = false) : crusherStopped s =
    (reportCond (pt 70) true (overloadEntered (crusherReported s))).onCooler fun x => { x with clearCount := some 0 } :=
  (crusherStopped_enters s clear).trans (enterOverload_eq _)

theorem crusherReported_alarmTotals (s : State) : AlarmTotals s (crusherReported s) :=
  (reportCond_alarmTotals (pt 80) true s).trans (stopGrate_touches 2 _).alarmTotals

theorem crusherStopped_alarmTotals (clear : s.cooler.overload = false) : AlarmTotals s (crusherStopped s) := by
  rw [crusherStopped_overloads clear]
  exact ((crusherReported_alarmTotals s).trans (overloadEntered_touches _).alarmTotals).trans
    ((reportCond_alarmTotals (pt 70) true _).trans (onCooler_touches _ _).alarmTotals)

theorem crusherStopped_condAt (clear : s.cooler.overload = false) (p : Point) :
    (crusherStopped s).alarm.points[p].cond = if p = pt 80 ∨ p = pt 70 then true else s.alarm.points[p].cond := by
  have entered : (overloadEntered (crusherReported s)).alarm = (crusherReported s).alarm :=
    overloadEntered_touches _ .alarm (by decide)
  have stopped : (crusherReported s).alarm = (reportCond (pt 80) true s).alarm := stopGrate_touches 2 _ .alarm (by decide)
  have event : (crusherStopped s).alarm = (reportCond (pt 70) true (overloadEntered (crusherReported s))).alarm :=
    (congrArg State.alarm (crusherStopped_overloads clear)).trans rfl
  rw [points_congr event, cond_of_reportCond, points_congr (entered.trans stopped), cond_of_reportCond]
  by_cases seventy : p = pt 70
  · rw [if_pos seventy, if_pos (.inr seventy)]
  · rw [if_neg seventy]
    exact if_congr (or_iff_left seventy).symm rfl rfl

/-- A report hands causes, and takes none. -/
theorem reportCond_keepsHanded {x : Burner × Cause} (p : Point) (present : Bool) (handed : x ∈ s.handed) :
    x ∈ (reportCond p present s).handed := by
  rw [handed_of_reportCond]
  exact List.mem_append_left _ handed

theorem crusherStopped_keepsHanded (clear : s.cooler.overload = false) {x : Burner × Cause} (handed : x ∈ s.handed) :
    x ∈ (crusherStopped s).handed := by
  have event : (crusherStopped s).handed = (reportCond (pt 70) true (overloadEntered (crusherReported s))).handed :=
    (congrArg State.handed (crusherStopped_overloads clear)).trans rfl
  have entered : (overloadEntered (crusherReported s)).handed = (crusherReported s).handed :=
    overloadEntered_touches _ .handed (by decide)
  have stopped : (crusherReported s).handed = (reportCond (pt 80) true s).handed := stopGrate_touches 2 _ .handed (by decide)
  rw [event]
  refine reportCond_keepsHanded _ _ ?_
  rw [entered, stopped]
  exact reportCond_keepsHanded _ _ handed

/-- With nothing demanded of MAIN, a low D5 lowers nothing: the cap is 0. -/
theorem crusherStopped_capped (clear : s.cooler.overload = false) (idle : s.planner.demand.main.hApp = 0) :
    (crusherStopped s).planner = { s.planner with hCap := 0 } ∧ (crusherStopped s).chans = s.chans
    ∧ (crusherStopped s).cooler.cap = 0 := by
  have frame := crusherReported_touches s
  have planner : (crusherReported s).planner = s.planner := frame .planner (by decide)
  have chans : (crusherReported s).chans = s.chans := frame .chans (by decide)
  have nothing : overloadCap (crusherReported s) = 0 := by
    rw [overloadCap_eq, planner, idle, Nat.zero_mul, Nat.zero_div, Nat.min_zero, ite_self]
  let u : State := (crusherReported s).onCooler fun x => { x with overload := true, cap := 0 }
  have idles : ¬0 < u.planner.demand.main.hApp := by
    have same : u.planner = s.planner := planner
    rw [same, idle]
    exact Nat.lt_irrefl 0
  have event : capEvent 0 u = u.onPlanner fun x => { x with hCap := 0 } := if_neg idles
  rw [crusherStopped_enters s clear]
  refine ⟨?_, ?_, ?_⟩
  · rw [enterOverload_planner, nothing, event, ← planner]
    rfl
  · have dampers (t : State) : (forEach hotFans computeDamper t).chans = t.chans :=
      forEach_keeps (f := computeDamper) (g := State.chans) (fun _ _ => rfl) hotFans t
    have entered : (enterOverload (crusherReported s)).chans = (capEvent (overloadCap (crusherReported s))
        ((crusherReported s).onCooler fun x => { x with overload := true, cap := overloadCap (crusherReported s) })).chans :=
      (reportCond_touches (pt 70) true _ .chans (by decide)).trans (dampers _)
    rw [entered, nothing, event, ← chans]
    rfl
  · rw [enterOverload_cooler]
    exact nothing

theorem Started.crusherStopped (started : Started set tare s) (clear : s.cooler.overload = false) :
    Started set tare (crusherStopped s) := by
  have idle : s.planner.demand.main.hApp = 0 := by rw [started.demand]; rfl
  obtain ⟨planner, chans, -⟩ := crusherStopped_capped clear idle
  obtain ⟨-, -, -, -, -, -, hot, cold⟩ := crusherStopped_entry s clear
  have grates := crusherStopped_grates s
  have shift := (crusherStopped_alarmTotals clear).shift_started started.shift
  have off (f : Fan) : (Machine.crusherStopped s).cooler.fans[f].on = false
      ∧ (Machine.crusherStopped s).cooler.fans[f].damper = 0 := by
    by_cases low : f.val < 3
    · rw [hot f low, FanRec.dampered_hot s _ low]
      exact ⟨(started.fans f).1, if_pos (started.fans f).1⟩
    · rw [cold f (Nat.le_of_not_lt low)]
      exact started.fans f
  have stopped (g : Grate) : (Machine.crusherStopped s).cooler.grates[g] = startGrateOf set.grates[g] := by
    rw [grates]
    by_cases crusher : g = 2
    · subst crusher
      rw [onGrate_same, started.grates]
      rfl
    · rw [onGrate_other _ _ crusher, started.grates]
  generalize Machine.crusherStopped s = t at *
  exact ⟨fun c => chans ▸ started.chans c, planner ▸ started.demand, planner ▸ started.planTimer, stopped, off, shift⟩

/-! ## Steps 5 and 6 (R175) -/

/-- Step 6, an open D4. -/
def stopLoopReported (s : State) : State := if stopLoopClosed s then s else emergencyStop s

/-- Step 6, a low D5. -/
def crusherJudged (s : State) : State := if crusherRuns s then s else crusherStopped s

theorem reportPins_eq (s : State) : reportPins s = crusherJudged (stopLoopReported s) := rfl

theorem reportImage_eq (state : ImageState) (s : State) :
    reportImage state s = if state = .valid then s else reportCond (pt 83) true s := by
  cases state <;> rfl

theorem reportImage_touches (state : ImageState) (s : State) : Touches [.alarm, .shift, .handed] s (reportImage state s) := by
  rw [reportImage_eq]
  exact .ite (.refl _ _) (reportCond_touches _ _ _)

theorem Started.reportImage (started : Started set tare s) (state : ImageState) : Started set tare (reportImage state s) := by
  rw [reportImage_eq]
  split
  · exact started
  · exact started.reportCond _ _

theorem reportImage_cond (state : ImageState) (p : Point) (s : State) : (reportImage state s).alarm.points[p].cond
    = if p = pt 83 ∧ state ≠ .valid then true else s.alarm.points[p].cond := by
  rw [reportImage_eq]
  by_cases valid : state = .valid
  · rw [if_pos valid, if_neg fun h => h.2 valid]
  · rw [if_neg valid, cond_of_reportCond]
    exact if_congr (and_iff_left valid).symm rfl rfl

theorem stopLoopReported_touches (s : State) :
    Touches [.chans, .cooler, .alarm, .shift, .handed] s (stopLoopReported s) := .ite (.refl _ _) (emergencyStop_touches s)

theorem Started.stopLoopReported (started : Started set tare s) : Started set tare (stopLoopReported s) := by
  unfold Machine.stopLoopReported
  split
  · exact started
  · exact started.emergencyStop

theorem stopLoopReported_calm (s : State) : (stopLoopReported s).cooler.overload = s.cooler.overload
    ∧ (stopLoopReported s).cooler.clearCount = s.cooler.clearCount ∧ (stopLoopReported s).cooler.cap = s.cooler.cap := by
  unfold stopLoopReported
  split
  · exact ⟨rfl, rfl, rfl⟩
  · exact (emergencyStop_calm s).2

theorem stopLoopReported_cond (p : Point) (s : State) : (stopLoopReported s).alarm.points[p].cond
    = if p = pt 79 ∧ stopLoopClosed s = false then true else s.alarm.points[p].cond := by
  unfold stopLoopReported
  cases closed : stopLoopClosed s with
  | true => rw [if_pos rfl, if_neg fun h => Bool.noConfusion h.2]
  | false =>
    rw [if_neg Bool.false_ne_true, emergencyStop_cond]
    exact if_congr (and_iff_left rfl).symm rfl rfl

theorem stopLoopReported_hands (absent : s.alarm.points[pt 79].cond = false) (opened : stopLoopClosed s = false) (b : Burner) :
    (b, Cause.emergencyStop) ∈ (stopLoopReported s).handed
    ∧ (b, Cause.alarmPoint (pt 79)) ∈ (stopLoopReported s).handed := by
  unfold stopLoopReported
  rw [opened, if_neg Bool.false_ne_true]
  exact emergencyStop_hands absent b

theorem crusherJudged_touches (s : State) :
    Touches [.planner, .chans, .cooler, .alarm, .shift, .handed] s (crusherJudged s) :=
  .ite (.refl _ _) (crusherStopped_touches s)

theorem Started.crusherJudged (started : Started set tare s) (clear : s.cooler.overload = false) :
    Started set tare (crusherJudged s) := by
  unfold Machine.crusherJudged
  split
  · exact started
  · exact started.crusherStopped clear

theorem crusherJudged_cond (clear : s.cooler.overload = false) (p : Point) : (crusherJudged s).alarm.points[p].cond
    = if (p = pt 80 ∨ p = pt 70) ∧ crusherRuns s = false then true else s.alarm.points[p].cond := by
  unfold crusherJudged
  cases runs : crusherRuns s with
  | true => rw [if_pos rfl, if_neg fun h => Bool.noConfusion h.2]
  | false =>
    rw [if_neg Bool.false_ne_true, crusherStopped_condAt clear]
    exact if_congr (and_iff_left rfl).symm rfl rfl

theorem crusherJudged_keepsHanded (clear : s.cooler.overload = false) {x : Burner × Cause} (handed : x ∈ s.handed) :
    x ∈ (crusherJudged s).handed := by
  unfold crusherJudged
  split
  · exact handed
  · exact crusherStopped_keepsHanded clear handed

/-- The cooler and the cap after a start, by the level of D5. -/
theorem crusherJudged_overload (clear : s.cooler.overload = false) (count : s.cooler.clearCount = none)
    (cap : s.cooler.cap = 250000) (hCap : s.planner.hCap = 250000) (idle : s.planner.demand.main.hApp = 0) :
    (crusherJudged s).cooler.overload = !crusherRuns s
    ∧ (crusherJudged s).cooler.clearCount = (if crusherRuns s then none else some 0)
    ∧ (crusherJudged s).cooler.cap = (if crusherRuns s then 250000 else 0)
    ∧ (crusherJudged s).planner.hCap = (if crusherRuns s then 250000 else 0) := by
  unfold crusherJudged
  cases crusherRuns s with
  | true => exact ⟨clear, count, cap, hCap⟩
  | false =>
    obtain ⟨overload, counted⟩ := crusherStopped_overload s
    obtain ⟨planner, -, capped⟩ := crusherStopped_capped clear idle
    rw [if_neg Bool.false_ne_true]
    exact ⟨overload, counted, capped, congrArg Planner.hCap planner⟩

end

/-! ## The load completion -/

/-- Steps 1 to 4: the image installed and the blocks started. -/
def loadInstalled (s : State) : State :=
  { startBlocks (judgeImage s.store.image).2 (decide ((judgeImage s.store.image).1 = .valid))
      (installImage (judgeImage s.store.image) s) with phase := .running }

/-- Step 5: the image reported. -/
def loadReported (s : State) : State := reportImage (judgeImage s.store.image).1 (loadInstalled s)

/-- The state that a load completion leaves. -/
def loadCompleted (s : State) : State := crusherJudged (stopLoopReported (loadReported s))

theorem exec_loadCompletion {s : State} (loading : s.phase = .loading) :
    exec .loadCompletion s = .next (loadCompleted s) := congrArg Host.Outcome.next (if_pos loading)

section
variable (s : State)

theorem loadInstalled_started :
    Started (judgeImage s.store.image).2 (decide ((judgeImage s.store.image).1 = .valid)) (loadInstalled s) := by
  obtain ⟨chans, demand, planTimer, grates, fans, shift⟩ := startBlocks_atStart (judgeImage s.store.image).2
    (decide ((judgeImage s.store.image).1 = .valid)) (installImage (judgeImage s.store.image) s)
  exact ⟨chans, demand, planTimer, grates, fans, shift⟩

theorem loadInstalled_cond (p : Point) : (loadInstalled s).alarm.points[p].cond = false :=
  congrArg PointRec.cond (Vector.getElem_ofFn (f := fun p => startPoint (judgeImage s.store.image).2.points[p]) p.isLt)

theorem loadInstalled_analog (i : AnalogIn) :
    (loadInstalled s).scan.analog[i] = startAnalog (judgeImage s.store.image).2.inputs[i] :=
  Vector.getElem_ofFn (f := fun i => startAnalog (judgeImage s.store.image).2.inputs[i]) i.isLt

theorem loadInstalled_discrete (d : DiscreteIn) : (loadInstalled s).scan.discrete[d]
    = { pin := s.scan.discrete[d].pin, debounced := s.scan.discrete[d].pin, timer := none } :=
  Vector.getElem_map (fun d : DiscreteRec => startDiscrete d.pin) d.isLt

/-- What the blocks of a start say of the pins (R20). -/
theorem stopLoopClosed_start {t : State} (scan : t.scan = (loadInstalled s).scan) :
    stopLoopClosed t = s.scan.discrete[(3 : DiscreteIn)].pin := by
  have debounced := congrArg DiscreteRec.debounced (loadInstalled_discrete s 3)
  rw [← scan] at debounced
  exact debounced

theorem crusherRuns_start {t : State} (scan : t.scan = (loadInstalled s).scan) :
    crusherRuns t = s.scan.discrete[(4 : DiscreteIn)].pin := by
  have debounced := congrArg DiscreteRec.debounced (loadInstalled_discrete s 4)
  rw [← scan] at debounced
  exact debounced

theorem loadReported_touches : Touches [.alarm, .shift, .handed] (loadInstalled s) (loadReported s) :=
  reportImage_touches _ _

theorem loadReported_closed : stopLoopClosed (loadReported s) = s.scan.discrete[(3 : DiscreteIn)].pin :=
  stopLoopClosed_start s (loadReported_touches s .scan (by decide))

theorem loadReported_started :
    Started (judgeImage s.store.image).2 (decide ((judgeImage s.store.image).1 = .valid)) (loadReported s) :=
  (loadInstalled_started s).reportImage _

/-- The state before the level of D5 is judged. -/
theorem loadStopped_touches :
    Touches [.chans, .cooler, .alarm, .shift, .handed] (loadInstalled s) (stopLoopReported (loadReported s)) :=
  (loadReported_touches s).mono.trans (stopLoopReported_touches _)

theorem loadStopped_runs : crusherRuns (stopLoopReported (loadReported s)) = s.scan.discrete[(4 : DiscreteIn)].pin :=
  crusherRuns_start s (loadStopped_touches s .scan (by decide))

theorem loadStopped_calm : (stopLoopReported (loadReported s)).cooler.overload = false
    ∧ (stopLoopReported (loadReported s)).cooler.clearCount = none
    ∧ (stopLoopReported (loadReported s)).cooler.cap = 250000 := by
  have cooler : (loadReported s).cooler = (loadInstalled s).cooler := loadReported_touches s .cooler (by decide)
  have calm := stopLoopReported_calm (loadReported s)
  rw [cooler] at calm
  exact calm

theorem loadCompleted_touches :
    Touches [.planner, .chans, .cooler, .alarm, .shift, .handed] (loadInstalled s) (loadCompleted s) :=
  (loadStopped_touches s).mono.trans (crusherJudged_touches _)

theorem loadCompleted_started :
    Started (judgeImage s.store.image).2 (decide ((judgeImage s.store.image).1 = .valid)) (loadCompleted s) :=
  (loadReported_started s).stopLoopReported.crusherJudged (loadStopped_calm s).1

theorem loadCompleted_overload : (loadCompleted s).cooler.overload = !s.scan.discrete[(4 : DiscreteIn)].pin
    ∧ (loadCompleted s).cooler.clearCount = (if s.scan.discrete[(4 : DiscreteIn)].pin then none else some 0)
    ∧ (loadCompleted s).cooler.cap = (if s.scan.discrete[(4 : DiscreteIn)].pin then 250000 else 0)
    ∧ (loadCompleted s).planner.hCap = (if s.scan.discrete[(4 : DiscreteIn)].pin then 250000 else 0) := by
  have planner : (stopLoopReported (loadReported s)).planner = (loadInstalled s).planner :=
    loadStopped_touches s .planner (by decide)
  have idle : (stopLoopReported (loadReported s)).planner.demand.main.hApp = 0 := by rw [planner]; rfl
  have hCap : (stopLoopReported (loadReported s)).planner.hCap = 250000 := by rw [planner]; rfl
  obtain ⟨clear, count, cap⟩ := loadStopped_calm s
  rw [← loadStopped_runs]
  exact crusherJudged_overload clear count cap hCap idle

theorem loadCompleted_cond (p : Point) : (loadCompleted s).alarm.points[p].cond = decide
    ((p = pt 83 ∧ (judgeImage s.store.image).1 ≠ .valid) ∨ (p = pt 79 ∧ s.scan.discrete[(3 : DiscreteIn)].pin = false)
      ∨ ((p = pt 80 ∨ p = pt 70) ∧ s.scan.discrete[(4 : DiscreteIn)].pin = false)) := by
  rw [loadCompleted, crusherJudged_cond (loadStopped_calm s).1, stopLoopReported_cond, loadReported, reportImage_cond,
    loadInstalled_cond, ← loadReported, loadStopped_runs, loadReported_closed]
  split
  next low => exact (decide_eq_true (.inr (.inr low))).symm
  next high =>
    split
    next opened => exact (decide_eq_true (.inr (.inl opened))).symm
    next shut =>
      split
      next wrong => exact (decide_eq_true (.inl wrong)).symm
      next fine => exact (decide_eq_false (not_or.mpr ⟨fine, not_or.mpr ⟨shut, high⟩⟩)).symm

theorem loadCompleted_hands (opened : s.scan.discrete[(3 : DiscreteIn)].pin = false) (b : Burner) :
    (b, Cause.emergencyStop) ∈ (loadCompleted s).handed ∧ (b, Cause.alarmPoint (pt 79)) ∈ (loadCompleted s).handed := by
  have absent : (loadReported s).alarm.points[pt 79].cond = false := by
    rw [loadReported, reportImage_cond, loadInstalled_cond]
    exact if_neg fun h => absurd h.1 (by decide)
  obtain ⟨cause, point⟩ := stopLoopReported_hands absent ((loadReported_closed s).trans opened) b
  exact ⟨crusherJudged_keepsHanded (loadStopped_calm s).1 cause, crusherJudged_keepsHanded (loadStopped_calm s).1 point⟩

end

section
variable {s t : State} (frame : Touches [.planner, .chans, .cooler, .alarm, .shift, .handed] (loadInstalled s) t)
include frame

/-- The store after a load: what the image is judged to hold, and its own fields (R175). -/
theorem loadInstalled_store : t.store.imageState = (judgeImage s.store.image).1 ∧ t.live = (judgeImage s.store.image).2
    ∧ t.store.job = none ∧ t.store.lastSave = .nothing ∧ t.store.causeUnread = true
    ∧ t.store.duringSave = (s.store.duringSave || s.store.marker) := by
  have store : t.store = (loadInstalled s).store := frame .store (by decide)
  unfold State.live
  rw [store]
  exact ⟨rfl, rfl, rfl, rfl, rfl, rfl⟩

theorem loadInstalled_scan (i : AnalogIn) (d : DiscreteIn) :
    (t.scan.analog[i].quality = .unsettled ∧ t.scan.analog[i].lastGood = 0)
    ∧ t.scan.discrete[d] = { pin := s.scan.discrete[d].pin, debounced := s.scan.discrete[d].pin, timer := none } := by
  have scan : t.scan = (loadInstalled s).scan := frame .scan (by decide)
  rw [scan, loadInstalled_analog, loadInstalled_discrete]
  exact ⟨⟨rfl, rfl⟩, rfl⟩

theorem loadInstalled_floor : t.floor.mode = .normal ∧ t.floor.supervision = some (t.live.supervisionTime * 1000) := by
  have floor : t.floor = startFloor (judgeImage s.store.image).2.supervisionTime := frame .floor (by decide)
  rw [floor, (loadInstalled_store frame).2.1]
  exact ⟨rfl, rfl⟩

theorem loadInstalled_link : t.link = s.link := by
  have link : t.link = (loadInstalled s).link := frame .link (by decide)
  rw [link]
  dsimp only [loadInstalled, startBlocks, installImage, State.onStore]

theorem loadInstalled_off (b : Burner) : (t.burns.get b).state = .off := by
  have burns : t.burns = (loadInstalled s).burns := frame .burns (by decide)
  rw [burns]
  cases b <;> rfl

end

/-- Settles O47: what the load completion installs and starts, and what the image and the pins then report. -/
theorem loadStartsBlocks : Obligations.LoadStartsBlocks := by
  intro s loading
  have command := exec_loadCompletion loading
  have frame := loadCompleted_touches s
  have started := loadCompleted_started s
  have overload := loadCompleted_overload s
  have conds := loadCompleted_cond s
  have hands := loadCompleted_hands s
  generalize loadCompleted s = t at *
  obtain ⟨chans, demand, planTimer, grates, fans, second, isSet, ring⟩ := started
  obtain ⟨overload, count, cap, hCap⟩ := overload
  obtain ⟨state, live, job, lastSave, unread, duringSave⟩ := loadInstalled_store frame
  obtain ⟨mode, supervision⟩ := loadInstalled_floor frame
  have idle (b : Burner) : t.planner.demand.get b = startDemand := by rw [demand]; cases b <;> rfl
  exact ⟨t, command, frame .phase (by decide), state, live, job, lastSave, unread, duringSave,
    fun c => ⟨congrArg Chan.state (chans c), congrArg Chan.u (chans c), congrArg Chan.tareConfirmed (chans c)⟩,
    fun b => ⟨loadInstalled_off frame b, congrArg Demand.hReq (idle b), congrArg Demand.hApp (idle b)⟩,
    fun i => (loadInstalled_scan frame i 0).1, fun d => (loadInstalled_scan frame 0 d).2, mode, supervision, planTimer,
    second, isSet, ring,
    fun g => ⟨congrArg GrateRec.state (grates g), congrArg GrateRec.phase (grates g),
      congrArg (fun x : GrateRec => x.guard.isSome) (grates g)⟩,
    fans, overload, count, cap, hCap, conds, hands, loadInstalled_link frame⟩

end Sys2Proof.Machine
end

section
/-! PROOFS. The settings: what a write of one item is refused, what it stores, and its further effect (R171, R172). -/

namespace Sys2Proof.Machine

-- One proof at a time: proofs that wait for one another hold a thread each, and the threads' memory is bounded.
set_option Elab.async false

/-! ## What is refused (R4, R9, R25, R42, R67, R87, R99, R111, R118, R135, R149) -/

theorem isSettable_eq (r : Ref) : isSettable r = (admitted r).isSome := by
  cases r with
  | input i k => revert i; cases k <;> decide
  | heat b k => cases k <;> rfl
  | chan c k => cases k <;> rfl
  | burner b k => cases b <;> cases k <;> rfl
  | grate g k => revert g; cases k <;> decide
  | cooler k => cases k <;> rfl
  | fan f k => cases k <;> rfl
  | point p k =>
    cases k with
    | target => revert p; decide
    | _ => rfl
  | _ => rfl

/-- The range of an item is what its owner admits. -/
theorem inRange_admits {r : Ref} (v : Int) (settable : admitted r ≠ none) : inRange r v = admits r v := by
  by_cases length : r = .shiftLength
  · subst length
    simp only [inRange, admits, admitted, Option.any_some, List.contains_eq_mem]
    rw [Bool.eq_iff_iff]
    simp
    omega
  · have of_some {o : Option (Int × Int)} {x : Int × Int} (h : o = some x) :
        o.any (fun x => decide (x.1 ≤ v ∧ v ≤ x.2)) = within x.1 x.2 v := by rw [h]; rfl
    have same : (admitted r).any (fun x => decide (x.1 ≤ v ∧ v ≤ x.2)) = inRange r v := by
      cases r with
      | input i k =>
        cases k with
        | scaleLow => exact of_some (if_neg fun low => settable (if_pos low))
        | scaleHigh => exact of_some (if_neg fun low => settable (if_pos low))
        | _ => rfl
      | heat b k => cases k <;> rfl
      | chan c k => cases k <;> rfl
      | burner b k =>
        cases k with
        | permit => exact of_some (if_pos (Decidable.of_not_not fun main => settable (if_neg main)))
        | _ => rfl
      | grate g k =>
        cases k with
        | ratio => exact of_some (if_neg fun first => settable (if_pos first))
        | setpoint => exact of_some (if_pos (Decidable.of_not_not fun follows => settable (if_neg follows)))
        | rateGain => exact of_some (if_pos (Decidable.of_not_not fun follows => settable (if_neg follows)))
        | clinkerFactor => exact of_some (if_pos (Decidable.of_not_not fun follows => settable (if_neg follows)))
        | _ => rfl
      | cooler k => cases k <;> rfl
      | fan f k => cases k <;> rfl
      | point p k =>
        cases k with
        | target => exact of_some (if_pos (Decidable.of_not_not fun fixed => settable (if_neg fixed)))
        | _ => rfl
      | shiftLength => exact absurd rfl length
      | _ => rfl
    rw [admits, same, decide_eq_true length, Bool.true_or, Bool.and_true]

/-- The pairs of an item hold as its constraint says. -/
theorem pairsHold_eq (set : Settings) (r : Ref) : pairsHold set r = pairKept set.get r := by
  rw [Bool.eq_iff_iff, pairsHold, List.all_eq_true]
  cases paired : pairOf r with
  | none =>
    rw [(unpaired_of paired).2]
    refine iff_of_true (fun p mem => if_neg fun own => ?_) rfl
    rw [pairOf_iff.mpr ⟨mem, own⟩] at paired
    cases paired
  | some q =>
    rw [(pairItem_of paired).kept]
    obtain ⟨mem, own⟩ := pairOf_iff.mp paired
    constructor
    · intro all
      have holds := all q mem
      rwa [if_pos own] at holds
    · intro holds p mem
      split
      next own =>
        have same : p = q := Option.some.inj ((pairOf_iff.mpr ⟨mem, own⟩).symm.trans paired)
        exact same ▸ holds
      next => rfl

/-- The values of the items once `r` is stored. -/
def Settings.given (l : Settings) (r : Ref) (v : Int) (q : Ref) : Int := if q = r then v else l.get q

theorem Settings.get_put (l : Settings) {r : Ref} {v : Int} (range : inRange r v = true) : (l.put r v).get = l.given r v := by
  funext q
  unfold Settings.given
  split
  next own =>
    subst own
    exact Settings.get_put_same l range
  next other => exact Settings.get_put_other l v other

/-- A value is refused RANGE by its item's range, or by the constraint with its partner. -/
theorem rangeRefused_eq (s : State) (r : Ref) (v : Int) :
    rangeRefused s r v = !(inRange r v && pairKept (s.live.given r v) r) := by
  unfold rangeRefused
  cases range : inRange r v with
  | false => rfl
  | true => rw [pairsHold_eq, Settings.get_put _ range]

theorem targetBurnerActive_eq (s : State) {v : Int} (range : within 0 3 v = true) :
    targetBurnerActive s (targetOf v) = decide ((v = 1 ∨ v = 3) ∧ s.burns.main.state ≠ .off
      ∨ (v = 2 ∨ v = 3) ∧ s.burns.calciner.state ≠ .off) := by
  obtain ⟨low, high⟩ := within_iff.mp range
  obtain rfl | rfl | rfl | rfl : v = 0 ∨ v = 1 ∨ v = 2 ∨ v = 3 := by omega
  all_goals
    by_cases main : s.burns.main.state = .off <;> by_cases calciner : s.burns.calciner.state = .off <;>
      simp [targetBurnerActive, targetOf, bothBurners, TripTarget.includes, PerBurner.get, main, calciner]

/-- Does an owner admit a value of an item, with its constraint kept? -/
def admittedFor (s : State) (r : Ref) (v : Int) : Bool := admits r v && pairKept (s.live.given r v) r

theorem admittedFor_unsettable {s : State} {r : Ref} {v : Int} (fixed : isSettable r = false) : admittedFor s r v = false := by
  rw [isSettable_eq, Option.isSome_eq_false_iff, Option.isNone_iff_eq_none] at fixed
  rw [admittedFor, admits, fixed]
  rfl

theorem rangeRefused_admitted {s : State} {r : Ref} {v : Int} (settable : isSettable r = true) :
    rangeRefused s r v = !admittedFor s r v := by
  have given : admitted r ≠ none := Option.isSome_iff_ne_none.mp (isSettable_eq r ▸ settable)
  rw [rangeRefused_eq, inRange_admits v given, admittedFor]

/-- The refusal of a write that its owner gives for a reason of its own, apart from RANGE: an assignment, a flame level and a
trip target. -/
inductive OwnRefusal : Ref → Prop where
  | assign (c : Channel) : OwnRefusal (.chan c .assign)
  | flameOn (b : Burner) : OwnRefusal (.burner b .flameOn)
  | flameOff (b : Burner) : OwnRefusal (.burner b .flameOff)
  | target (p : Point) : OwnRefusal (.point p .target)

theorem writeRefusal_clamps {s : State} {r : Ref} (v : Int) (clamps : (clampRange r).isSome = true) :
    writeRefusal s r v = none := by
  have settable : isSettable r = true := by
    cases r with
    | heat b k => cases k <;> rfl
    | chan c k => cases k <;> rfl
    | shelveDefault => rfl
    | _ => cases clamps
  unfold writeRefusal
  rw [settable, clamps]
  rfl

theorem writeRefusal_plain {s : State} {r : Ref} (v : Int) (unclamped : (clampRange r).isSome = false) (own : ¬OwnRefusal r) :
    writeRefusal s r v = if admittedFor s r v = false then some (plain .range) else none := by
  unfold writeRefusal
  cases settable : isSettable r with
  | false => rw [admittedFor_unsettable settable]; rfl
  | true =>
    have refused : (if rangeRefused s r v then some (plain .range) else none)
        = if admittedFor s r v = false then some (plain .range) else none := by
      rw [rangeRefused_admitted settable]
      cases admittedFor s r v <;> rfl
    rw [unclamped, if_neg (by decide), if_neg (by decide)]
    split
    next b => exact absurd (.flameOn b) own
    next b => exact absurd (.flameOff b) own
    next c => exact absurd (.assign c) own
    next p => exact absurd (.target p) own
    next => exact refused

theorem writeRefusal_flame {s : State} {r : Ref} {b : Burner} (v : Int) (flame : r = .burner b .flameOn ∨ r = .burner b .flameOff) :
    writeRefusal s r v = if (s.burns.get b).state ≠ .off then some (refusedFor .burnerActive)
      else if admittedFor s r v = false then some (plain .range) else none := by
  have settable : isSettable r = true := by rcases flame with rfl | rfl <;> rfl
  have refused : rangeRefused s r v = true ↔ admittedFor s r v = false := by
    rw [rangeRefused_admitted settable, Bool.not_eq_true']
  have unclamped : (clampRange r).isSome = false := by rcases flame with rfl | rfl <;> rfl
  unfold writeRefusal
  rw [settable, unclamped, if_neg (by decide), if_neg (by decide)]
  rcases flame with rfl | rfl
  · exact if_congr Iff.rfl rfl (if_congr refused rfl rfl)
  · exact if_congr Iff.rfl rfl (if_congr refused rfl rfl)

theorem writeRefusal_assignment (s : State) (c : Channel) (v : Int) : writeRefusal s (.chan c .assign) v
    = if admittedFor s (.chan c .assign) v = false then some (plain .range)
      else if s.chans[c].state ≠ .out then some (refusedFor .notOut) else none := by
  have refused : rangeRefused s (.chan c .assign) v = true ↔ admittedFor s (.chan c .assign) v = false := by
    rw [rangeRefused_admitted rfl, Bool.not_eq_true']
  have settable : isSettable (.chan c .assign) = true := rfl
  have unclamped : (clampRange (.chan c .assign)).isSome = false := rfl
  unfold writeRefusal
  rw [settable, unclamped, if_neg (by decide), if_neg (by decide)]
  exact if_congr refused rfl rfl

theorem writeRefusal_tripTarget (s : State) (p : Point) (v : Int) : writeRefusal s (.point p .target) v
    = if admittedFor s (.point p .target) v = false then some (plain .range)
      else if v ≠ 0 ∧ s.alarm.points[p].state = .shelved then some (refusedFor .tripPoint)
      else if s.alarm.points[p].state = .disabled ∧ ((v = 1 ∨ v = 3) ∧ s.burns.main.state ≠ .off
          ∨ (v = 2 ∨ v = 3) ∧ s.burns.calciner.state ≠ .off) then some (refusedFor .burnerActive)
      else none := by
  unfold writeRefusal
  cases settable : isSettable (.point p .target) with
  | false => rw [admittedFor_unsettable settable]; rfl
  | true =>
    have given : admitted (.point p .target) ≠ none := Option.isSome_iff_ne_none.mp (isSettable_eq _ ▸ settable)
    have range : admittedFor s (.point p .target) v = within 0 3 v := by
      rw [admittedFor, ← inRange_admits v given]
      exact Bool.and_true _
    have clamps : (clampRange (.point p .target)).isSome = false := rfl
    rw [clamps, if_neg (by decide), if_neg (by decide), range]
    dsimp only
    unfold targetRefusal
    cases inside : within 0 3 v with
    | false => exact if_pos (by rw [inRange, inside]; rfl)
    | true =>
      have none_active : (v ≠ 0 ∧ s.alarm.points[p].state = .disabled ∧ targetBurnerActive s (targetOf v) = true)
          ↔ (s.alarm.points[p].state = .disabled ∧ ((v = 1 ∨ v = 3) ∧ s.burns.main.state ≠ .off
            ∨ (v = 2 ∨ v = 3) ∧ s.burns.calciner.state ≠ .off)) := by
        rw [targetBurnerActive_eq s inside, decide_eq_true_eq]
        constructor
        · rintro ⟨-, h⟩
          exact h
        · rintro ⟨disabled, active⟩
          exact ⟨by omega, disabled, active⟩
      rw [inRange, inside]
      refine (if_neg (by decide)).trans (Eq.trans ?_ (if_neg (by decide)).symm)
      exact if_congr Iff.rfl rfl (if_congr none_active rfl rfl)

/-- A refusal of an owner has nothing that follows its answer. -/
theorem writeRefusal_plainly {s : State} {r : Ref} {v : Int} {a : Ans} (refused : writeRefusal s r v = some a) :
    a.after = .nothing := by
  have one {c : Prop} [Decidable c] {x y : Option Ans} (hx : ∀ a ∈ x, a.after = .nothing) (hy : ∀ a ∈ y, a.after = .nothing) :
      ∀ a ∈ (if c then x else y), a.after = .nothing := by split <;> assumption
  have range : ∀ a ∈ some (plain .range), a.after = .nothing := fun a mem => Option.mem_some.mp mem ▸ rfl
  have reason (x : Reason) : ∀ a ∈ some (refusedFor x), a.after = .nothing := fun a mem => Option.mem_some.mp mem ▸ rfl
  have accepted : ∀ a ∈ (none : Option Ans), a.after = .nothing := fun a mem => absurd mem (Option.not_mem_none a)
  have plainly : ∀ a ∈ writeRefusal s r v, a.after = .nothing := by
    unfold writeRefusal
    refine one range (one accepted ?_)
    split
    · exact one (reason _) (one range accepted)
    · exact one (reason _) (one range accepted)
    · exact one range (one (reason _) accepted)
    · exact one range (one (reason _) (one (reason _) accepted))
    · exact one range accepted
  exact plainly a refused

/-! ## What an accepted write does (R25, R42, R88, R172) -/

/-- The value stored, by the three kinds that clamp. -/
theorem storedValue_eq (r : Ref) (v : Int) : storedValue r v = match r with
    | .heat _ .rampRate => max 10 (min 10000 v)
    | .chan _ .tolerance => max 1 (min 5000 v)
    | .shelveDefault => max 1 (min 480 v)
    | _ => v := by
  have clamped {lo hi : Int} (h : lo ≤ hi) : clampInt lo hi v = max lo (min hi v) := by unfold clampInt; omega
  cases r with
  | heat b k =>
    cases k with
    | rampRate => exact clamped (by decide)
    | _ => rfl
  | chan c k =>
    cases k with
    | tolerance => exact clamped (by decide)
    | _ => rfl
  | shelveDefault => exact clamped (by decide)
  | _ => rfl

theorem guardEnds_eq (g : Grate) (s : State) : guardEnds g s
    = if s.cooler.grates[g].phase = some .rest ∧ s.cooler.grates[g].phaseTimer = none
      then s.onGrate g fun _ => strokeBegun s g
      else s.onGrate g fun x => { x with guard := none } := by
  by_cases waits : s.cooler.grates[g].phase = some .rest ∧ s.cooler.grates[g].phaseTimer = none
  · rw [if_pos waits, guardEnds_waiting waits.1 waits.2, forwardStart_eq, onGrate_onGrate, strokeBegun_onGrate s rfl rfl rfl,
      strokeBegun_eq]
    rfl
  · rw [if_neg waits, guardEnds_other waits]

/-- R88: the timing of the rate staged, and a guard that the new dead time has outrun ended. -/
theorem restage_eq (g : Grate) (s : State) : restage g s = match s.cooler.grates[g].guard with
    | none => s.onGrate g (retimed s.live.grates[g])
    | some since => if s.live.grates[g].dead ≤ since then guardEnds g (s.onGrate g (retimed s.live.grates[g]))
      else s.onGrate g (retimed s.live.grates[g]) := by
  let set := s.live.grates[g]
  let rate (x : GrateRec) : Nat := if set.mode = .manual then set.manualRate else x.rate
  have rated : (if set.mode = .manual then s.onGrate g fun x => { x with rate := set.manualRate } else s)
      = s.onGrate g fun x => { x with rate := rate x } := by
    by_cases manual : set.mode = .manual
    · simp only [rate, manual, ↓reduceIte]
    · simp only [rate, manual, ↓reduceIte]
      exact (onGrate_eq_self s rfl).symm
  have staged : (s.onGrate g fun x => { x with rate := rate x }).onGrate g (fun x =>
      { x with staged := some (timingFor (s.onGrate g fun x => { x with rate := rate x }).cooler.grates[g].rate set) })
      = s.onGrate g (retimed set) := by
    rw [onGrate_same, onGrate_onGrate]
    exact onGrate_congr s rfl
  have guard : (s.onGrate g (retimed set)).cooler.grates[g].guard = s.cooler.grates[g].guard := by
    rw [onGrate_same]
    rfl
  unfold restage stageTiming
  dsimp only
  rw [rated, staged, guard]
  cases s.cooler.grates[g].guard <;> rfl

section
variable {item index : Nat} {r : Ref} {v : Int} {s : State}

theorem settingsRead_of (named : refOf item index = some r) :
    settingsRead item index s = (s, done (beS 4 (s.live.get r))) := by rw [settingsRead, named]

theorem settingsRead_out (unnamed : refOf item index = none) : settingsRead item index s = (s, plain .range) := by
  rw [settingsRead, unnamed]

theorem settingsWrite_out (single : index ≠ 255) (unnamed : refOf item index = none) :
    settingsWrite item index v s = (s, plain .range) := by rw [settingsWrite, if_neg single, unnamed]

theorem settingsWrite_all_out (none_named : ∀ n : Nat, indexKind item ≠ some (.instances n)) :
    settingsWrite item 255 v s = (s, plain .range) := by
  rw [settingsWrite, if_pos rfl]
  split
  next n named => exact absurd named (none_named n)
  next => rfl
  next => rfl

theorem settingsWrite_of (single : index < 255) (named : refOf item index = some r) :
    settingsWrite item index v s = writeOne r v s := by rw [settingsWrite, if_neg single.ne, named]

/-- A refused write is answered its owner's refusal, and changes nothing. -/
theorem exec_refusedWrite {a : Ans} (run : s.phase = .running) (single : index < 255) (named : refOf item index = some r)
    (refused : writeRefusal s r v = some a) :
    exec (.settingsWrite item index v) s = .next (answering a.status a.reason a.data s) :=
  exec_answers run rfl ((settingsWrite_of single named).trans (by rw [writeOne, refused])) (writeRefusal_plainly refused)

/-- An accepted write stores its value, and answers it as stored. -/
theorem exec_acceptedWrite (run : s.phase = .running) (single : index < 255) (named : refOf item index = some r)
    (accepted : writeRefusal s r v = none) : exec (.settingsWrite item index v) s
      = .next (answering (if storedValue r v = v then .done else .clamped) none
          (beS 4 (storedValue r v) ++ List.replicate 15 0#8) (storeItem r v s)) := by
  have service : settingsWrite item index v s = (storeItem r v s,
      { status := if isClamped r v then .clamped else .done, data := writeReply (some (storedValue r v)) [] }) :=
    (settingsWrite_of single named).trans (by rw [writeOne, accepted])
  have status : (if isClamped r v then Status.clamped else .done) = if storedValue r v = v then .done else .clamped := by
    by_cases same : storedValue r v = v
    · rw [if_pos same, isClamped, decide_eq_false (not_not.mpr same)]; rfl
    · rw [if_neg same, isClamped, decide_eq_true same]; rfl
  have data : writeReply (some (storedValue r v)) [] = beS 4 (storedValue r v) ++ List.replicate 15 0#8 :=
    List.append_assoc _ _ _
  rw [← status, ← data]
  exact exec_answers run rfl service

/-- A section with its settings stored, timed anew, and a guard that the new dead time has outrun ended. -/
theorem restage_guard {g : Grate} {s u : State} (stored : u.cooler = s.cooler) :
    let set := u.live.grates[g]
    let x := s.cooler.grates[g]
    let timed := u.onGrate g (retimed set)
    (x.guard = none → restage g u = timed)
    ∧ ∀ since : Nat, x.guard = some since → restage g u =
      if since < set.dead then timed
      else if x.phase = some .rest ∧ x.phaseTimer = none then timed.onGrate g fun _ => strokeBegun timed g
      else timed.onGrate g fun y => { y with guard := none } := by
  intro set x timed
  have same : u.cooler.grates[g] = x := congrArg (fun y : Cooler => y.grates[g]) stored
  have phase : timed.cooler.grates[g].phase = x.phase ∧ timed.cooler.grates[g].phaseTimer = x.phaseTimer := by
    have at_g : timed.cooler.grates[g] = retimed set x := (onGrate_same g _ u).trans (congrArg _ same)
    rw [at_g]
    exact ⟨rfl, rfl⟩
  refine ⟨fun free => ?_, fun since guard => ?_⟩
  · rw [restage_eq, same, free]
  · rw [restage_eq, same, guard]
    by_cases young : since < set.dead
    · rw [if_pos young]
      exact if_neg (Nat.not_le_of_lt young)
    · rw [if_neg young]
      refine (if_pos (Nat.le_of_not_lt young)).trans ?_
      rw [guardEnds_eq]
      exact if_congr (by rw [phase.1, phase.2]) rfl rfl

/-- The value of a trim limit that is not refused. -/
theorem trimLimit_accepted {c : Channel} {v : Int} {s : State} (accepted : writeRefusal s (.chan c .trimLimit) v = none) :
    0 ≤ v := by
  rw [writeRefusal_plain v rfl fun own => by cases own] at accepted
  have admitted : admittedFor s (.chan c .trimLimit) v = true := by
    by_contra refused
    rw [if_pos ((Bool.not_eq_true _).mp refused)] at accepted
    cases accepted
  rw [admittedFor, Bool.and_eq_true, ← inRange_admits (r := .chan c .trimLimit) v (Option.some_ne_none _)] at admitted
  exact (within_iff.mp admitted.1).1

end

/-! ## The statement, apart from ALL -/

/-- What a refusal answers. -/
def Ans.view (a : Ans) : Status × Option Reason × List Byte := (a.status, a.reason, a.data)

theorem writeRefusal_view (r : Ref) (v : Int) (s : State) : (writeRefusal s r v).map Ans.view = match r with
    | .heat _ .rampRate | .chan _ .tolerance | .shelveDefault => none
    | .chan c .assign =>
      if admittedFor s r v = false then some (.range, none, [])
      else if s.chans[c].state ≠ .out then some (.refused, some .notOut, []) else none
    | .burner b .flameOn | .burner b .flameOff =>
      if (s.burns.get b).state ≠ .off then some (.refused, some .burnerActive, [])
      else if admittedFor s r v = false then some (.range, none, []) else none
    | .point p .target =>
      if admittedFor s r v = false then some (.range, none, [])
      else if v ≠ 0 ∧ s.alarm.points[p].state = .shelved then some (.refused, some .tripPoint, [])
      else if s.alarm.points[p].state = .disabled ∧ ((v = 1 ∨ v = 3) ∧ s.burns.main.state ≠ .off
          ∨ (v = 2 ∨ v = 3) ∧ s.burns.calciner.state ≠ .off) then some (.refused, some .burnerActive, [])
      else none
    | _ => if admittedFor s r v = false then some (.range, none, []) else none := by
  have clamps {r : Ref} (h : (clampRange r).isSome = true) : (writeRefusal s r v).map Ans.view = none := by
    rw [writeRefusal_clamps v h]
    rfl
  have plainly {r : Ref} (h : (clampRange r).isSome = false) (own : ¬OwnRefusal r) : (writeRefusal s r v).map Ans.view
      = if admittedFor s r v = false then some (.range, none, []) else none := by
    rw [writeRefusal_plain v h own, apply_ite (Option.map Ans.view)]
    rfl
  cases r with
  | heat b k =>
    cases k with
    | rampRate => exact clamps rfl
    | _ => exact plainly rfl fun own => by cases own
  | chan c k =>
    cases k with
    | tolerance => exact clamps rfl
    | assign =>
      rw [writeRefusal_assignment, apply_ite (Option.map Ans.view), apply_ite (Option.map Ans.view)]
      rfl
    | _ => exact plainly rfl fun own => by cases own
  | burner b k =>
    cases k with
    | flameOn =>
      rw [writeRefusal_flame v (.inl rfl), apply_ite (Option.map Ans.view), apply_ite (Option.map Ans.view)]
      rfl
    | flameOff =>
      rw [writeRefusal_flame v (.inr rfl), apply_ite (Option.map Ans.view), apply_ite (Option.map Ans.view)]
      rfl
    | _ => exact plainly rfl fun own => by cases own
  | point p k =>
    cases k with
    | target =>
      rw [writeRefusal_tripTarget, apply_ite (Option.map Ans.view), apply_ite (Option.map Ans.view),
        apply_ite (Option.map Ans.view)]
      rfl
    | _ => exact plainly rfl fun own => by cases own
  | shelveDefault => exact clamps rfl
  | _ => exact plainly rfl fun own => by cases own

end Sys2Proof.Machine
end

section
/-! PROOFS. SETTINGS WRITE of ALL as the writes of its instances in ascending order (R172). -/

namespace Sys2Proof.Machine

-- One proof at a time: proofs that wait for one another hold a thread each, and the threads' memory is bounded.
set_option Elab.async false

/-! ## The instances of an item (R171, R179) -/

/-- The items that a number names by its instances: the k-th at index k, no two constrained against each other, and all
clamped alike. -/
structure Instances (item n : Nat) (at_ : Fin n → Ref) : Prop where
  named : ∀ k : Fin n, refOf item (k.val + 1) = some (at_ k)
  distinct : ∀ j k : Fin n, at_ j = at_ k → j = k
  apart : ∀ j k : Fin n, partner (at_ j) ≠ some (at_ k)
  alike : ∀ (j k : Fin n) (v : Int), storedValue (at_ j) v = storedValue (at_ k) v
  some_of : 0 < n ∧ n ≤ 96

theorem nth_some {α : Type} {l : List α} {k : Nat} (h : 1 ≤ k ∧ k ≤ l.length) : ∃ x, nth l k = some x :=
  ⟨l[k - 1]'(by omega), (if_neg (by omega)).trans (List.getElem?_eq_getElem (by omega))⟩

/-- The burner at an index. -/
def burnerAt (k : Fin 2) : Burner := if k = 0 then .main else .calciner

theorem burnerNo_at (k : Fin 2) : burnerNo (k.val + 1) = some (burnerAt k) := by revert k; decide

theorem burnerAt_inj (j k : Fin 2) (h : burnerAt j = burnerAt k) : j = k := by revert j k; decide

theorem instances_of {item n : Nat} (kind : indexKind item = some (.instances n)) : ∃ at_, Instances item n at_ := by
  unfold indexKind at kind
  generalize row : item % 256 = k at kind
  have single {c : Prop} [Decidable c] {m : Nat} (h : (if c then some IndexKind.single else none) = some (.instances m)) :
      False := by split at h <;> cases h
  have many {c : Prop} [Decidable c] {m : Nat} (h : (if c then some (IndexKind.instances m) else none) = some (.instances n)) :
      c ∧ m = n := by
    split at h
    next inside => exact ⟨inside, IndexKind.instances.inj (Option.some.inj h)⟩
    next => cases h
  dsimp only at kind
  split at kind
  case h_1 table =>
    obtain ⟨inside, rfl⟩ := many kind
    obtain ⟨it, found⟩ := nth_some (l := inputItems) inside
    refine ⟨fun k => .input k it, fun i => ?_, fun i j h => (Ref.input.inj h).1, fun i j => ?_, fun _ _ _ => ?_, by decide⟩
    · simp only [refOf, table, row, found, instNo_val, Option.bind_some, Option.map_some]
    · cases it <;> simp [partner]
    · cases it <;> rfl
  case h_2 table =>
    obtain ⟨inside, rfl⟩ := many kind
    obtain ⟨it, found⟩ := nth_some (l := heatItems) inside
    refine ⟨fun k => .heat (burnerAt k) it, fun i => ?_, fun i j h => burnerAt_inj i j (Ref.heat.inj h).1, fun i j => ?_, fun _ _ _ => ?_, by decide⟩
    · simp only [refOf, table, row, found, burnerNo_at, Option.bind_some, Option.map_some]
    · cases it <;> simp [partner]
    · cases it <;> rfl
  case h_3 table =>
    obtain ⟨inside, rfl⟩ := many kind
    obtain ⟨it, found⟩ := nth_some (l := chanItems) inside
    refine ⟨fun k => .chan k it, fun i => ?_, fun i j h => (Ref.chan.inj h).1, fun i j => ?_, fun _ _ _ => ?_, by decide⟩
    · simp only [refOf, table, row, found, instNo_val, Option.bind_some, Option.map_some]
    · cases it <;> simp [partner]
    · cases it <;> rfl
  case h_4 table =>
    obtain ⟨inside, rfl⟩ := many kind
    obtain ⟨it, found⟩ := nth_some (l := burnerItems) inside
    refine ⟨fun k => .burner (burnerAt k) it, fun i => ?_, fun i j h => burnerAt_inj i j (Ref.burner.inj h).1, fun i j => ?_, fun _ _ _ => ?_, by decide⟩
    · simp only [refOf, table, row, found, burnerNo_at, Option.bind_some, Option.map_some]
    · cases it <;> simp [partner]
    · cases it <;> rfl
  case h_5 table =>
    obtain ⟨inside, rfl⟩ := many kind
    obtain ⟨it, found⟩ := nth_some (l := grateItems) inside
    refine ⟨fun k => .grate k it, fun i => ?_, fun i j h => (Ref.grate.inj h).1, fun i j => ?_, fun _ _ _ => ?_, by decide⟩
    · simp only [refOf, table, row, found, instNo_val, Option.bind_some, Option.map_some]
    · cases it <;> simp [partner]
    · cases it <;> rfl
  case h_6 => exact (single kind).elim
  case h_7 table =>
    obtain ⟨inside, rfl⟩ := many kind
    obtain ⟨it, found⟩ := nth_some (l := fanItems) inside
    refine ⟨fun k => .fan k it, fun i => ?_, fun i j h => (Ref.fan.inj h).1, fun i j => ?_, fun _ _ _ => ?_, by decide⟩
    · simp only [refOf, table, row, found, instNo_val, Option.bind_some, Option.map_some]
    · cases it <;> simp [partner]
    · cases it <;> rfl
  case h_8 table =>
    split at kind
    next inside =>
      cases kind
      obtain ⟨it, found⟩ := nth_some (l := pointItems) inside
      refine ⟨fun k => .point k it, fun i => ?_, fun i j h => (Ref.point.inj h).1, fun i j => ?_, fun _ _ _ => ?_, by decide⟩
      · have row' : k ≠ 4 := by omega
        simp only [refOf, table, row, row', found, instNo_val, Option.bind_some, Option.map_some, ↓reduceIte]
      · simp [partner]
      · rfl
    next => exact (single kind).elim
  case h_9 => exact (single kind).elim
  case h_10 table =>
    split at kind
    next => cases kind
    next =>
      obtain ⟨third, rfl⟩ := many kind
      refine ⟨fun k => .fallbackHeat (burnerAt k), fun i => ?_, fun i j h => burnerAt_inj i j (Ref.fallbackHeat.inj h),
        fun i j => ?_, fun _ _ _ => rfl, by decide⟩
      · simp only [refOf, table, row, third, burnerNo_at, Option.map_some, ↓reduceIte]
      · simp [partner]
  case h_11 => cases kind

/-! ## What one write leaves of the others -/

section
variable {s t : State} {r q : Ref} {v w : Int}

/-- The items of a section whose write restages its timing (R88). -/
theorem writeEffect_grate (g : Grate) (k : GrateItem) (w : Int) (s : State) : writeEffect (.grate g k) w s
    = if k = .mode ∨ k = .manualRate ∨ k = .forward ∨ k = .ret ∨ k = .dead then restage g s else s := by
  cases k <;> rfl

theorem writeEffect_touches_blocks (r : Ref) (w : Int) (t : State) :
    Touches [.planner, .chans, .cooler] t (writeEffect r w t) := by
  refine (writeEffect_touches r w t).without (p := .store) ?_
  cases r with
  | grate g k =>
    rw [writeEffect_grate]
    exact Touches.ite (restage_touches g t) (.refl _ _) .store (by decide)
  | heat b k => cases k <;> rfl
  | chan c k => cases k <;> rfl
  | _ => rfl

theorem storeItem_live (r : Ref) (v : Int) (s : State) : (storeItem r v s).live = s.live.put r (storedValue r v) :=
  congrArg Store.live (writeEffect_touches_blocks r _ _ .store (by decide))

theorem writeEffect_state (r : Ref) (w : Int) (t : State) (c : Channel) : (writeEffect r w t).chans[c].state = t.chans[c].state := by
  have one (d : Channel) (f : Chan → Chan) (h : ∀ x, (f x).state = x.state) :
      (t.onChan d f).chans[c].state = t.chans[c].state := by
    by_cases same : c = d
    · subst same
      rw [onChan_chans_same, h]
    · rw [onChan_chans_other _ _ same]
  cases r with
  | chan d k => cases k <;> first | rfl | exact one d _ fun _ => rfl
  | grate g k =>
    rw [writeEffect_grate]
    exact congrArg (fun x : Vector Chan 6 => x[c].state)
      (Touches.ite (restage_touches g t) (.refl _ _) .chans (by decide))
  | heat b k => cases k <;> rfl
  | _ => rfl

/-- What the refusal of a write depends on. -/
theorem writeRefusal_congr (burns : t.burns = s.burns) (alarm : t.alarm = s.alarm)
    (states : ∀ c : Channel, t.chans[c].state = s.chans[c].state)
    (kept : pairKept (t.live.given q v) q = pairKept (s.live.given q v) q) : writeRefusal t q v = writeRefusal s q v := by
  have range : admittedFor t q v = admittedFor s q v := by rw [admittedFor, admittedFor, kept]
  by_cases own : OwnRefusal q
  · cases own with
    | assign c => rw [writeRefusal_assignment, writeRefusal_assignment, range, states]
    | flameOn b => rw [writeRefusal_flame v (.inl rfl), writeRefusal_flame v (.inl rfl), range, burns]
    | flameOff b => rw [writeRefusal_flame v (.inr rfl), writeRefusal_flame v (.inr rfl), range, burns]
    | target p => rw [writeRefusal_tripTarget, writeRefusal_tripTarget, range, burns, alarm]
  · cases clamps : (clampRange q).isSome with
    | true => rw [writeRefusal_clamps v clamps, writeRefusal_clamps v clamps]
    | false => rw [writeRefusal_plain v clamps own, writeRefusal_plain v clamps own, range]

/-- The constraint of an item speaks of it and its partner alone. -/
theorem pairKept_put (set : Settings) (apart : partner q ≠ some r) :
    pairKept ((set.put r w).given q v) q = pairKept (set.given q v) q := by
  cases paired : pairOf q with
  | none => rw [(unpaired_of paired).2, (unpaired_of paired).2]
  | some p =>
    obtain ⟨own, -, kept⟩ := pairItem_of paired
    have own_value (l : Settings) : l.given q v q = v := if_pos rfl
    have other_value {x : Ref} (partnered : partner q = some x) : (set.put r w).given q v x = set.given q v x := by
      have other : x ≠ r := fun same => apart (partnered.trans (congrArg some same))
      rw [Settings.given, Settings.given, Settings.get_put_other _ _ other]
    rw [kept, kept]
    rcases own with ⟨rfl, high⟩ | ⟨rfl, low⟩
    · rw [own_value, own_value, other_value high]
    · rw [own_value, own_value, other_value low]

/-- A write of one instance leaves the refusal of another. -/
theorem writeRefusal_storeItem (apart : partner q ≠ some r) : writeRefusal (storeItem r v s) q v = writeRefusal s q v := by
  have frame := storeItem_touches r v s
  refine writeRefusal_congr (frame .burns (by decide)) (frame .alarm (by decide)) (writeEffect_state r _ _) ?_
  rw [storeItem_live, pairKept_put _ apart]

end

/-! ## The answer stands apart from the state (log entry 8) -/

section
variable {s t : State} {r : Ref} {v : Int}

/-- `s` with another answer recorded. -/
def State.answeredBy (s : State) (x : Option Answered) : State := { s with answer := x }

theorem answeredBy_touches (s : State) (x : Option Answered) : Touches [.answer] s (s.answeredBy x) := by
  intro p out
  cases p <;> first | rfl | exact absurd (List.mem_singleton_self _) out

theorem Touches.symm {l : List Part} (h : Touches l s t) : Touches l t s := by
  intro p out
  have same := h p out
  cases p <;> exact Eq.symm same

theorem writeRefusal_answeredBy (x : Option Answered) : writeRefusal (s.answeredBy x) r v = writeRefusal s r v := rfl

theorem onGrate_answeredBy (g : Grate) (f : GrateRec → GrateRec) (x : Option Answered) :
    (s.answeredBy x).onGrate g f = (s.onGrate g f).answeredBy x := rfl

theorem guardEnds_answeredBy (g : Grate) (s : State) (x : Option Answered) :
    guardEnds g (s.answeredBy x) = (guardEnds g s).answeredBy x := by
  rw [guardEnds_eq, guardEnds_eq, apply_ite (State.answeredBy · x)]
  rfl

theorem restage_answeredBy (g : Grate) (s : State) (x : Option Answered) :
    restage g (s.answeredBy x) = (restage g s).answeredBy x := by
  have guard : (s.answeredBy x).cooler.grates[g].guard = s.cooler.grates[g].guard := rfl
  have live : (s.answeredBy x).live = s.live := rfl
  rw [restage_eq, restage_eq, guard, live, onGrate_answeredBy, guardEnds_answeredBy]
  cases s.cooler.grates[g].guard with
  | none => rfl
  | some since => exact (apply_ite (State.answeredBy · x) (s.live.grates[g].dead ≤ since) _ _).symm

theorem writeEffect_answeredBy (r : Ref) (w : Int) (s : State) (x : Option Answered) :
    writeEffect r w (s.answeredBy x) = (writeEffect r w s).answeredBy x := by
  cases r with
  | grate g k =>
    rw [writeEffect_grate, writeEffect_grate, apply_ite (State.answeredBy · x), restage_answeredBy]
  | heat b k => cases k <;> rfl
  | chan c k => cases k <;> rfl
  | _ => rfl

theorem storeItem_answeredBy (x : Option Answered) : storeItem r v (s.answeredBy x) = (storeItem r v s).answeredBy x :=
  writeEffect_answeredBy r (storedValue r v) (s.onLive fun l => l.put r (storedValue r v)) x

end

/-! ## The instances in ascending order -/

section
variable {item n : Nat} {at_ : Fin n → Ref} {v w : Int} {s : State}

/-- The refusals among instances. -/
def refusals (at_ : Fin n → Ref) (s : State) (v : Int) (l : List (Fin n)) : List (Nat × Ans) :=
  l.filterMap fun k => (writeRefusal s (at_ k) v).map fun a => (k.val + 1, a)

theorem refusals_length_le (l : List (Fin n)) : (refusals at_ s v l).length ≤ l.length := List.length_filterMap_le ..

/-- The write of ALL after these instances. -/
def writtenUpTo (item : Nat) (v : Int) (a : AllWrite) (l : List (Fin n)) : AllWrite :=
  l.foldl (fun a k => writeInstance item v a (k.val + 1)) a

/-- The writes of these instances, one by one. -/
def singleWrites (item : Nat) (v : Int) (l : List (Fin n)) : List Instr := l.map fun k => .settingsWrite item (k.val + 1) v

/-- The writes of instances one by one leave what a write of ALL leaves of them, but for the answer. -/
theorem writtenUpTo_spec (inst : Instances item n at_) (stored : ∀ k, storedValue (at_ k) v = w) (l : List (Fin n))
    (nodup : l.Nodup) (a : AllWrite) (x : Option Answered) (run : a.state.phase = .running)
    (still : ∀ k ∈ l, writeRefusal a.state (at_ k) v = writeRefusal s (at_ k) v) :
    (∃ y, execAll (singleWrites item v l) (a.state.answeredBy x) = .next ((writtenUpTo item v a l).state.answeredBy y))
    ∧ (writtenUpTo item v a l).skipped = a.skipped ++ refusals at_ s v l
    ∧ (writtenUpTo item v a l).value = (if (refusals at_ s v l).length = l.length then a.value else some w)
    ∧ (writtenUpTo item v a l).clamped
      = (if (refusals at_ s v l).length = l.length then a.clamped else a.clamped || decide (w ≠ v)) := by
  induction l generalizing a x with
  | nil => exact ⟨⟨x, rfl⟩, (List.append_nil _).symm, rfl, rfl⟩
  | cons k l ih =>
    obtain ⟨new, nodup⟩ := List.nodup_cons.mp nodup
    have index : k.val + 1 < 255 := by have := k.isLt; have := inst.some_of; omega
    have single (u : State) : execAll (singleWrites item v (k :: l)) u = match exec (.settingsWrite item (k.val + 1) v) u with
        | .next t => execAll (singleWrites item v l) t
        | .fault f => .fault f
        | .refused r => .refused r := rfl
    have here : writeRefusal a.state (at_ k) v = writeRefusal s (at_ k) v := still k List.mem_cons_self
    cases refused : writeRefusal s (at_ k) v with
    | some refusal =>
      let next : AllWrite := { a with skipped := a.skipped ++ [(k.val + 1, refusal)] }
      have written : writeInstance item v a (k.val + 1) = next := by
        rw [writeInstance, inst.named k]
        dsimp only
        rw [here, refused]
      have command := exec_refusedWrite (s := a.state.answeredBy x) run index (inst.named k)
        ((writeRefusal_answeredBy x).trans (here.trans refused))
      obtain ⟨⟨y, rest⟩, skipped, value, clamped⟩ := ih nodup next
        (answering refusal.status refusal.reason refusal.data (a.state.answeredBy x)).answer run
        fun j mem => still j (List.mem_cons_of_mem k mem)
      have more : refusals at_ s v (k :: l) = (k.val + 1, refusal) :: refusals at_ s v l :=
        List.filterMap_cons_some (by rw [refused]; rfl)
      have fold : writtenUpTo item v a (k :: l) = writtenUpTo item v next l := congrArg (writtenUpTo item v · l) written
      rw [fold, single, command, more, skipped, value, clamped]
      refine ⟨⟨y, rest⟩, List.append_assoc .., if_congr ?_ rfl rfl, if_congr ?_ rfl rfl⟩ <;>
        rw [List.length_cons, List.length_cons, Nat.add_right_cancel_iff]
    | none =>
      let next : AllWrite := { a with
        state := storeItem (at_ k) v a.state, value := some (storedValue (at_ k) v), clamped := a.clamped || isClamped (at_ k) v }
      have written : writeInstance item v a (k.val + 1) = next := by
        rw [writeInstance, inst.named k]
        dsimp only
        rw [here, refused]
      have command := exec_acceptedWrite (s := a.state.answeredBy x) run index (inst.named k)
        ((writeRefusal_answeredBy x).trans (here.trans refused))
      rw [storeItem_answeredBy] at command
      have runs : next.state.phase = .running := (storeItem_touches (at_ k) v a.state .phase (by decide)).trans run
      obtain ⟨⟨y, rest⟩, skipped, value, clamped⟩ := ih nodup next
        (answering (if storedValue (at_ k) v = v then .done else .clamped) none
          (beS 4 (storedValue (at_ k) v) ++ List.replicate 15 0#8) (next.state.answeredBy x)).answer runs
        fun j mem => (writeRefusal_storeItem (inst.apart j k)).trans (still j (List.mem_cons_of_mem k mem))
      have more : refusals at_ s v (k :: l) = refusals at_ s v l := List.filterMap_cons_none (by rw [refused]; rfl)
      have fold : writtenUpTo item v a (k :: l) = writtenUpTo item v next l := congrArg (writtenUpTo item v · l) written
      have fewer : ¬(refusals at_ s v l).length = (k :: l).length :=
        Nat.ne_of_lt (Nat.lt_succ_of_le (refusals_length_le l))
      rw [fold, single, command, more, skipped, value, clamped, if_neg fewer, if_neg fewer]
      have same : next.value = some w := congrArg some (stored k)
      have marked : next.clamped = (a.clamped || decide (w ≠ v)) := by rw [← stored k]; rfl
      refine ⟨⟨y, rest⟩, rfl, ?_, ?_⟩
      · rw [same, ite_self]
      · rw [marked, Bool.or_assoc, Bool.or_self, ite_self]

end

/-! ## The payload of the answer (R172, R176) -/

/-- A bit of a byte of marks. -/
theorem bits_testBit (l : List Bool) (i : Nat) : (bits l).testBit i = l.getD i false := by
  induction l generalizing i with
  | nil => simp [bits]
  | cons b l ih =>
    have step : bits (b :: l) = markCode b + 2 * bits l := rfl
    rw [step]
    cases i with
    | zero => cases b <;> simp [markCode, Nat.testBit_zero, Nat.add_mod]
    | succ i =>
      have half : (markCode b + 2 * bits l) / 2 = bits l := by cases b <;> simp [markCode]; omega
      rw [Nat.testBit_succ, half, ih, List.getD_cons_succ]

section
variable {l : List (Nat × Ans)}

theorem skipMask_length (m : List Nat) : (skipMask m).length = 12 := by rw [skipMask, List.length_map, List.length_range]

theorem refusalBytes_length (x : Option (Nat × Ans)) : (refusalBytes x).length = 3 := by
  cases x with
  | none => rfl
  | some x => simp [refusalBytes]

/-- The value of the answer: all ones where none is stored (log entry 26). -/
def valueOr1 : Option Int → List Byte
  | none => ones 4
  | some v => beS 4 v

theorem valueOr1_length (x : Option Int) : (valueOr1 x).length = 4 := by cases x <;> simp [valueOr1]

theorem writeReply_eq (x : Option Int) (l : List (Nat × Ans)) :
    writeReply x l = valueOr1 x ++ (skipMask (l.map Prod.fst) ++ refusalBytes l.head?) := by
  rw [← List.append_assoc]
  cases x <;> rfl

theorem writeReply_length (x : Option Int) : (writeReply x l).length = 19 := by
  rw [writeReply_eq, List.length_append, List.length_append, valueOr1_length, skipMask_length, refusalBytes_length]

theorem writeReply_value (x : Option Int) : (writeReply x l).take 4 = valueOr1 x := by
  rw [writeReply_eq]
  exact List.take_left' (valueOr1_length x)

theorem writeReply_refusal (x : Option Int) : (writeReply x l).drop 16 = refusalBytes l.head? := by
  rw [writeReply_eq, ← List.append_assoc]
  exact List.drop_left' (by rw [List.length_append, valueOr1_length, skipMask_length])

theorem writeReply_mask (x : Option Int) (k : Fin 96) :
    ((writeReply x l).getD (4 + k.val / 8) 0#8).getLsbD (k.val % 8) = l.any fun y => decide (y.1 = k.val + 1) := by
  have row : k.val / 8 < 12 := by omega
  have place : 8 * (k.val / 8) + k.val % 8 + 1 = k.val + 1 := by omega
  have byte : (writeReply x l).getD (4 + k.val / 8) 0#8 = BitVec.ofNat 8 (bits ((List.range 8).map fun j =>
      (l.map Prod.fst).contains (8 * (k.val / 8) + j + 1))) := by
    rw [writeReply_eq, List.getD_append_right _ _ _ _ (by rw [valueOr1_length]; omega), valueOr1_length,
      Nat.add_sub_cancel_left, List.getD_append _ _ _ _ (by rw [skipMask_length]; exact row), skipMask,
      List.getD_eq_getElem _ _ (by rw [List.length_map, List.length_range]; exact row), List.getElem_map, List.getElem_range]
  have bit : ((List.range 8).map fun j => (l.map Prod.fst).contains (8 * (k.val / 8) + j + 1)).getD (k.val % 8) false
      = (l.map Prod.fst).contains (k.val + 1) := by
    rw [List.getD_eq_getElem _ _ (by rw [List.length_map, List.length_range]; omega), List.getElem_map, List.getElem_range,
      place]
  rw [byte, BitVec.getLsbD_ofNat, bits_testBit, bit, decide_eq_true (by omega), Bool.true_and, Bool.eq_iff_iff,
    List.contains_iff_mem, List.mem_map, List.any_eq_true]
  simp only [decide_eq_true_eq]

end

/-! ## The write of ALL -/

section
variable {item n : Nat} {at_ : Fin n → Ref} {v : Int} {s : State}

theorem range_eq_finRange (n : Nat) : List.range n = (List.finRange n).map Fin.val := by simp

/-- The indices of ALL with what they name. -/
theorem named_refs (inst : Instances item n at_) : ((List.range n).filterMap fun k => (refOf item (k + 1)).map fun r => (k + 1, r))
    = (List.finRange n).map fun k => (k.val + 1, at_ k) := by
  rw [range_eq_finRange, List.filterMap_map, ← List.filterMap_eq_map]
  refine List.filterMap_congr fun k _ => ?_
  rw [Function.comp_apply, inst.named k]
  rfl

theorem refusals_eq (inst : Instances item n at_) :
    (((List.range n).filterMap fun k => (refOf item (k + 1)).map fun r => (k + 1, r)).filterMap
      fun x => (writeRefusal s x.2 v).map fun a => (x.1, a)) = refusals at_ s v (List.finRange n) := by
  rw [named_refs inst, List.filterMap_map]
  rfl

theorem singleWrites_eq (n : Nat) : ((List.range n).map fun k => Instr.settingsWrite item (k + 1) v)
    = singleWrites item v (List.finRange n) := by
  rw [range_eq_finRange, List.map_map]
  rfl

/-- The write of ALL before its first instance. -/
def AllWrite.start (s : State) : AllWrite := { state := s, skipped := [], value := none, clamped := false }

theorem settingsWrite_all (kind : indexKind item = some (.instances n)) : settingsWrite item 255 v s
    = ((writtenUpTo item v (.start s) (List.finRange n)).state, allAnswer (writtenUpTo item v (.start s) (List.finRange n))) := by
  rw [settingsWrite, if_pos rfl, kind]
  dsimp only
  rw [writeAll, range_eq_finRange, List.foldl_map]
  rfl

/-- The answer to a write of ALL, by what it has refused and stored. -/
theorem allAnswer_eq {a : AllWrite} {w : Int} {all : Prop} [Decidable all] (refused : all → a.skipped ≠ [])
    (plainly : ∀ x ∈ a.skipped, x.2.after = .nothing) (value : a.value = if all then none else some w)
    (clamped : a.clamped = if all then false else decide (w ≠ v)) :
    (allAnswer a).after = .nothing ∧ (allAnswer a).data = writeReply (if all then none else some w) a.skipped
    ∧ ((allAnswer a).status, (allAnswer a).reason) = match a.skipped.head? with
      | some (_, x) => if all then (x.status, x.reason) else (if decide (some w ≠ some v) then .clamped else .done, none)
      | none => (if decide (some w ≠ some v) then .clamped else .done, none) := by
  obtain ⟨state, skipped, _, _⟩ := a
  subst value clamped
  have same : (some w ≠ some v) ↔ (w ≠ v) := not_congr Option.some_inj
  by_cases every : all
  · match skipped, refused every with
    | x :: rest, _ =>
      simp only [if_pos every]
      exact ⟨plainly x List.mem_cons_self, rfl, rfl⟩
  · simp only [if_neg every, same]
    cases skipped <;> exact ⟨rfl, rfl, rfl⟩

/-- R172: a write of ALL is the writes of its instances in ascending order, but for its one answer. -/
theorem writeAll_spec (kind : indexKind item = some (.instances n)) (run : s.phase = .running) :
    let refs := (List.range n).filterMap fun k => (refOf item (k + 1)).map fun r => (k + 1, r)
    let refused := refs.filterMap fun x => (writeRefusal s x.2 v).map fun a => (x.1, a)
    let first := refused.head?
    let all := decide (refused.length = n)
    let clamps := decide (refs.head?.map (fun x => storedValue x.2 v) ≠ some v)
    ∃ t u a, exec (.settingsWrite item 255 v) s = .next t
      ∧ execAll ((List.range n).map fun k => .settingsWrite item (k + 1) v) s = .next u
      ∧ Touches [.answer] u t ∧ t.answer = some a
      ∧ refs.length = n ∧ a.data.length = 19
      ∧ a.data.take 4 = (if all then List.replicate 4 255#8
          else beS 4 ((refs.head?.map fun x => storedValue x.2 v).getD 0))
      ∧ (∀ k : Fin 96, ((a.data.getD (4 + k.val / 8) 0#8).getLsbD (k.val % 8)) =
          refused.any fun x => decide (x.1 = k.val + 1))
      ∧ a.data.drop 16 = (match first with
          | none => [0#8, 0#8, 0#8]
          | some (k, x) => be 1 x.status.code ++ be 1 ((x.reason.map Reason.code).getD 0) ++ be 1 k)
      ∧ (a.status, a.reason) = (match first with
          | some (_, x) => if all then (x.status, x.reason) else (if clamps then .clamped else .done, none)
          | none => (if clamps then .clamped else .done, none)) := by
  obtain ⟨at_, inst⟩ := instances_of kind
  let w := storedValue (at_ ⟨0, inst.some_of.1⟩) v
  let A := writtenUpTo item v (.start s) (List.finRange n)
  have size : (List.finRange n).length = n := List.length_finRange
  obtain ⟨⟨y, singles⟩, skipped, value, clamped⟩ := writtenUpTo_spec (s := s) (w := w) inst (fun k => inst.alike k _ v)
    (List.finRange n) (List.nodup_finRange n) (.start s) s.answer run fun _ _ => rfl
  have head : ((List.finRange n).map fun k => (k.val + 1, at_ k)).head?.map (fun x => storedValue x.2 v) = some w := by
    rw [List.head?_map, List.head?_eq_getElem?, List.getElem?_eq_getElem (by rw [size]; exact inst.some_of.1), List.getElem_finRange]
    rfl
  have refusalsOnly : A.skipped = refusals at_ s v (List.finRange n) := skipped
  have plainly (x : Nat × Ans) (mem : x ∈ A.skipped) : x.2.after = .nothing := by
    rw [refusalsOnly, refusals, List.mem_filterMap] at mem
    obtain ⟨k, -, named⟩ := mem
    obtain ⟨a, refused, rfl⟩ := Option.map_eq_some_iff.mp named
    exact writeRefusal_plainly refused
  rw [size] at value clamped
  obtain ⟨nothing, data, answer⟩ := allAnswer_eq (v := v) (a := A)
    (all := (refusals at_ s v (List.finRange n)).length = n)
    (fun all none_refused => by
      rw [refusalsOnly] at none_refused
      rw [none_refused] at all
      exact absurd all.symm inst.some_of.1.ne')
    plainly value clamped
  have command := exec_answers (i := .settingsWrite item 255 v) run rfl (settingsWrite_all kind) nothing
  dsimp only
  rw [refusals_eq inst, named_refs inst, singleWrites_eq, head]
  rw [refusalsOnly] at data
  refine ⟨_, _, _, command, singles, ?_, rfl, ?_, ?_, ?_, ?_, ?_, ?_⟩
  · exact (answeredBy_touches A.state y).symm.trans (Touches.answering (l := []) (.refl _ _))
  · rw [List.length_map, size]
  · exact (congrArg List.length data).trans (writeReply_length _)
  · refine (congrArg (List.take 4) data).trans ((writeReply_value _).trans ?_)
    by_cases all : (refusals at_ s v (List.finRange n)).length = n
    · rw [if_pos all, if_pos (decide_eq_true all)]
      rfl
    · rw [if_neg all, if_neg (mt of_decide_eq_true all)]
      rfl
  · intro k
    exact (congrArg (fun d : List Byte => (d.getD (4 + k.val / 8) 0#8).getLsbD (k.val % 8)) data).trans (writeReply_mask _ k)
  · refine (congrArg (List.drop 16) data).trans ((writeReply_refusal _).trans ?_)
    cases (refusals at_ s v (List.finRange n)).head? <;> rfl
  · refine answer.trans ?_
    rw [refusalsOnly]
    cases (refusals at_ s v (List.finRange n)).head? with
    | none => rfl
    | some x => exact if_congr decide_eq_true_iff.symm rfl rfl

end

/-- What an accepted write of one item leaves, by its kind (R25, R42, R88). -/
theorem storeItem_effect {r : Ref} {v : Int} {s : State} (accepted : writeRefusal s r v = none) :
    let w := storedValue r v
    let stored := s.onLive fun l => l.put r w
    match r with
    | .heat b .maxHeat => storeItem r v s = stored.onDemand b fun d => { d with hReq := min d.hReq w.toNat }
    | .chan c .ppm => storeItem r v s = stored.onChan c fun x => { x with gramResidue := 0 }
    | .chan c .trimLimit => storeItem r v s = stored.onChan c fun x => { x with trim := max (-w) (min w x.trim) }
    | .chan c .tare => storeItem r v s = stored.onChan c fun x => { x with tareConfirmed := true }
    | .grate g k => storeItem r v s = if k = .mode ∨ k = .manualRate ∨ k = .forward ∨ k = .ret ∨ k = .dead then restage g stored
        else stored
    | _ => storeItem r v s = stored := by
  intro w stored
  cases r with
  | heat b k => cases k <;> rfl
  | chan c k =>
    cases k with
    | trimLimit =>
      have limit : 0 ≤ v := trimLimit_accepted accepted
      refine onChan_congr stored ?_
      have clamped (x : Int) : clampInt (-v) v x = max (-v) (min v x) := by unfold clampInt; omega
      exact congrArg (fun trim => { stored.chans[c] with trim := trim }) (clamped _)
    | _ => rfl
  | grate g k => exact writeEffect_grate g k w stored
  | _ => rfl

/-- Settles O50: the items read back, the refusals by their owners, one write with its further effect, and ALL. -/
theorem settingsReadAndWrite : Obligations.SettingsReadAndWrite := by
  refine ⟨fun r v l range => ⟨Settings.get_put_same l range, fun q other => Settings.get_put_other l v other⟩,
    fun r v => storedValue_eq r v, fun r v s => ⟨inRange_admits v, writeRefusal_view r v s⟩,
    fun item index v s run => ⟨fun unnamed => ⟨?_, fun single => ?_⟩, fun single => ?_⟩,
    fun item index r v s run single named => ?_, fun item n v s run kind => writeAll_spec kind run⟩
  · exact exec_outside run rfl (settingsRead_out unnamed)
  · exact exec_outside run rfl (settingsWrite_out single unnamed)
  · exact exec_outside run rfl (settingsWrite_all_out single)
  · intro w stored written command
    refine ⟨exec_reads run rfl (settingsRead_of named), fun a refused => ⟨writeRefusal_plainly refused,
      exec_refusedWrite run single named refused⟩, fun clamps => ?_, fun accepted => ?_⟩
    · rcases clamps with ⟨b, rfl⟩ | ⟨c, rfl⟩ | rfl <;> exact writeRefusal_clamps v rfl
    · have service : exec command s = written (storeItem r v s) := exec_acceptedWrite run single named accepted
      have effect := storeItem_effect accepted
      cases r with
      | heat b k => cases k <;> exact service.trans (congrArg written effect)
      | chan c k => cases k <;> exact service.trans (congrArg written effect)
      | grate g k =>
        have stores := service.trans (congrArg written effect)
        dsimp only
        split
        next restages =>
          rw [if_pos restages] at stores
          obtain ⟨free, guarded⟩ := restage_guard (g := g) (s := s) (u := stored) rfl
          exact ⟨fun guard => stores.trans (congrArg written (free guard)),
            fun since guard => stores.trans (congrArg written (guarded since guard))⟩
        next other =>
          rw [if_neg other] at stores
          exact stores
      | _ => exact service.trans (congrArg written effect)

end Sys2Proof.Machine
end

section
/-! PROOFS. The heat split: its passes, and what they give each channel (R30 to R34). -/

namespace Sys2Proof.Machine

-- One proof at a time: proofs that wait for one another hold a thread each, and the threads' memory is bounded.
set_option Elab.async false

/-! ## Sums over lists -/

section
variable {α : Type} {f g : α → Nat} {l : List α}

theorem sumOf_nil (f : α → Nat) : sumOf f [] = 0 := rfl

theorem sumOf_cons (f : α → Nat) (a : α) (l : List α) : sumOf f (a :: l) = f a + sumOf f l := List.sum_cons

theorem sumOf_append (f : α → Nat) (l m : List α) : sumOf f (l ++ m) = sumOf f l + sumOf f m := by
  rw [sumOf, List.map_append, List.sum_append]
  rfl

theorem sumOf_map {β : Type} (f : α → Nat) (h : β → α) (l : List β) : sumOf f (l.map h) = sumOf (fun b => f (h b)) l :=
  congrArg List.sum List.map_map

theorem sumOf_le (le : ∀ a ∈ l, f a ≤ g a) : sumOf f l ≤ sumOf g l := List.sum_le_sum le

theorem sumOf_add (f g : α → Nat) (l : List α) : sumOf (fun a => f a + g a) l = sumOf f l + sumOf g l := List.sum_map_add

theorem sumOf_perm {m : List α} (f : α → Nat) (perm : l.Perm m) : sumOf f l = sumOf f m := (perm.map f).sum_eq

/-- The two parts of a list. -/
theorem sumOf_filter (f : α → Nat) (p : α → Bool) (l : List α) :
    sumOf f (l.filter p) + sumOf f (l.filter fun a => !p a) = sumOf f l := by
  rw [← sumOf_append]
  exact sumOf_perm f (List.filter_append_perm p l)

end

/-! ## One pass (R31) -/

/-- The proportional parts of a heat sum to at most the heat. -/
theorem proportions_le (demand weight : Nat) (l : List Fuel) :
    sumOf (fun f => demand * f.share / weight) l ≤ demand * sumOf Fuel.share l / weight := by
  induction l with
  | nil => exact Nat.zero_le _
  | cons f l ih =>
    rw [sumOf_cons, sumOf_cons, Nat.mul_add]
    exact (Nat.add_le_add_left ih _).trans (Nat.div_add_div_le_add_div ..)

/-- The remainder goes to one channel at most. -/
theorem remainder_le (taker : Option Channel) (rest : Nat) {l : List Fuel} (nodup : (l.map Fuel.chan).Nodup) :
    sumOf (fun f => if taker = some f.chan then rest else 0) l ≤ rest := by
  induction l with
  | nil => exact Nat.zero_le _
  | cons f l ih =>
    obtain ⟨new, nodup⟩ := List.nodup_cons.mp nodup
    rw [sumOf_cons]
    by_cases takes : taker = some f.chan
    · have others : sumOf (fun g => if taker = some g.chan then rest else 0) l ≤ sumOf (fun _ => 0) l :=
        sumOf_le fun g mem => by
          have other : ¬taker = some g.chan := fun same =>
            new (Option.some.inj (takes.symm.trans same) ▸ List.mem_map_of_mem mem)
          rw [if_neg other]
      have nothing : sumOf (fun _ : Fuel => 0) l = 0 := by simp [sumOf]
      rw [if_pos takes]
      omega
    · rw [if_neg takes, Nat.zero_add]
      exact ih nodup

section
variable {demand : Nat} {unfixed : List Fuel}

theorem splitPass_fuels (demand : Nat) (unfixed : List Fuel) : (splitPass demand unfixed).map PassShare.fuel = unfixed := by
  rw [splitPass, List.map_map]
  exact List.map_id _

theorem splitPass_rate {x : PassShare} (mem : x ∈ splitPass demand unfixed) : x.rate = x.heat * 3600 / x.fuel.cv := by
  obtain ⟨f, -, rfl⟩ := List.mem_map.mp mem
  rfl

theorem splitPass_fuel {x : PassShare} (mem : x ∈ splitPass demand unfixed) : x.fuel ∈ unfixed := by
  rw [← splitPass_fuels demand unfixed]
  exact List.mem_map_of_mem mem

/-- A pass divides no more heat than it is given. -/
theorem splitPass_heat (nodup : (unfixed.map Fuel.chan).Nodup) : sumOf PassShare.heat (splitPass demand unfixed) ≤ demand := by
  rw [splitPass, sumOf_map, sumOf_add]
  have parts := proportions_le demand (sumOf Fuel.share unfixed) unfixed
  have whole : demand * sumOf Fuel.share unfixed / sumOf Fuel.share unfixed ≤ demand :=
    Nat.div_le_of_le_mul (Nat.mul_comm _ _).le
  have remainder := remainder_le (remainderTaker unfixed)
    (demand - sumOf (fun f => demand * f.share / sumOf Fuel.share unfixed) unfixed) nodup
  omega

/-- A rate burns no more heat than it was made of. -/
theorem heat_of_rate {heat rate cv : Nat} (h : rate ≤ heat * 3600 / cv) : rate * cv / 3600 ≤ heat :=
  Nat.div_le_of_le_mul ((Nat.mul_le_mul_right cv h).trans ((Nat.div_mul_le_self _ _).trans (Nat.mul_comm _ _).le))

end

/-! ## What a pass plans (R32, R33) -/

/-- The heat of a planned channel that counts toward the demand (R34). -/
def Planned.carried (x : Planned) : Nat := if x.entry.role = .atMin then 0 else x.entry.heat

theorem carriedHeat_eq (plan : List Planned) : carriedHeat plan = sumOf Planned.carried plan := rfl

theorem carriedHeat_filter (plan : List Planned) :
    ((plan.filter fun x => decide (x.entry.role ≠ .atMin)).map fun x => x.entry.heat).sum = carriedHeat plan := by
  induction plan with
  | nil => rfl
  | cons x plan ih =>
    rw [carriedHeat_eq, sumOf_cons, ← carriedHeat_eq, ← ih, Planned.carried]
    by_cases least : x.entry.role = .atMin
    · rw [List.filter_cons_of_neg (by simp [least]), if_pos least, Nat.zero_add]
    · rw [List.filter_cons_of_pos (by simp [least]), if_neg least, List.map_cons, List.sum_cons]

/-- A plan entry of a fuel: at rate 0 or between its two rates. -/
def Fits (f : Fuel) (x : Planned) : Prop :=
  x.chan = f.chan ∧ (x.entry.rate = 0 ∨ f.minRate ≤ x.entry.rate ∧ x.entry.rate ≤ f.maxRate)

section
variable {f : Fuel} {x : PassShare}

theorem fixAtMax_fits (rates : f.minRate ≤ f.maxRate) : Fits f (fixAtMax f) := ⟨rfl, .inr ⟨rates, le_rfl⟩⟩

theorem settleShare_chan (x : PassShare) : (settleShare x).chan = x.fuel.chan := by
  unfold settleShare
  split
  · rfl
  · split <;> rfl

theorem settleShare_fits (rates : x.fuel.minRate ≤ x.fuel.maxRate) (within : x.rate ≤ x.fuel.maxRate) :
    Fits x.fuel (settleShare x) := by
  refine ⟨settleShare_chan x, ?_⟩
  unfold settleShare
  split
  next => exact .inl rfl
  next =>
    split
    next => exact .inr ⟨le_rfl, rates⟩
    next enough => exact .inr ⟨Nat.le_of_not_lt enough, within⟩

/-- A channel above its maximum is fixed at no more heat than the pass gave it. -/
theorem fixAtMax_heat (rate : x.rate = x.heat * 3600 / x.fuel.cv) (above : x.fuel.maxRate < x.rate) :
    (fixAtMax x.fuel).entry.heat ≤ x.heat := heat_of_rate (rate ▸ above.le)

theorem settleShare_carried (rate : x.rate = x.heat * 3600 / x.fuel.cv) : (settleShare x).carried ≤ x.heat := by
  unfold settleShare
  split
  next => exact Nat.zero_le _
  next =>
    split
    next => exact Nat.zero_le _
    next => exact heat_of_rate rate.le

end

/-- What a split that ends plans: every fuel once, within its rates, and no more heat than it divides. -/
structure Planning (heat : Nat) (fuels : List Fuel) (plan : List Planned) : Prop where
  chans : (plan.map Planned.chan).Perm (fuels.map Fuel.chan)
  fits : ∀ x ∈ plan, ∃ f ∈ fuels, Fits f x
  carried : sumOf Planned.carried plan ≤ heat

section
variable {heat : Nat} {shares : List PassShare} {p : PassShare → Bool}

/-- Channels fixed at their maximum, and a planning of the others with the heat that these leave. -/
theorem planning_of_parts {rest : List Planned} (limits : ∀ x ∈ shares, x.fuel.minRate ≤ x.fuel.maxRate)
    (fixedHeat : sumOf (fun x => x.entry.heat) ((shares.filter p).map fun x => fixAtMax x.fuel) ≤ heat)
    (others : Planning (heat - sumOf (fun x => x.entry.heat) ((shares.filter p).map fun x => fixAtMax x.fuel))
      ((shares.filter fun x => !p x).map PassShare.fuel) rest) :
    Planning heat (shares.map PassShare.fuel) (((shares.filter p).map fun x => fixAtMax x.fuel) ++ rest) := by
  obtain ⟨chans, fits, carried⟩ := others
  refine ⟨?_, fun x mem => ?_, ?_⟩
  · have split := (List.filter_append_perm p shares).map fun x => x.fuel.chan
    rw [List.map_append] at split
    rw [List.map_append, List.map_map, List.map_map]
    refine (List.Perm.append_left _ chans).trans ?_
    rw [List.map_map]
    exact split
  · rcases List.mem_append.mp mem with fixed | later
    · obtain ⟨y, given, rfl⟩ := List.mem_map.mp fixed
      have inside := List.mem_of_mem_filter given
      exact ⟨y.fuel, List.mem_map_of_mem inside, fixAtMax_fits (limits y inside)⟩
    · obtain ⟨f, among, fit⟩ := fits x later
      obtain ⟨y, given, rfl⟩ := List.mem_map.mp among
      exact ⟨y.fuel, List.mem_map_of_mem (List.mem_of_mem_filter given), fit⟩
  · have counted : sumOf Planned.carried ((shares.filter p).map fun x => fixAtMax x.fuel)
        = sumOf (fun x => x.entry.heat) ((shares.filter p).map fun x => fixAtMax x.fuel) := by
      rw [sumOf_map, sumOf_map]
      rfl
    rw [sumOf_append, counted]
    omega

/-- The channels that the last pass leaves unfixed. -/
theorem planning_settled (rates : ∀ x ∈ shares, x.rate = x.heat * 3600 / x.fuel.cv)
    (limits : ∀ x ∈ shares, x.fuel.minRate ≤ x.fuel.maxRate) (within : ∀ x ∈ shares, x.rate ≤ x.fuel.maxRate)
    (total : sumOf PassShare.heat shares ≤ heat) :
    Planning heat (shares.map PassShare.fuel) (shares.map settleShare) := by
  refine ⟨?_, fun x mem => ?_, ?_⟩
  · rw [List.map_map, List.map_map]
    exact .of_eq (List.map_congr_left fun x _ => settleShare_chan x)
  · obtain ⟨y, given, rfl⟩ := List.mem_map.mp mem
    exact ⟨y.fuel, List.mem_map_of_mem given, settleShare_fits (limits y given) (within y given)⟩
  · rw [sumOf_map]
    exact (sumOf_le fun x mem => settleShare_carried (rates x mem)).trans total

end

/-- R31 to R33: the passes plan every channel that is unfixed, with the heat that the fixed ones leave. -/
theorem splitPasses_planning (n heat fixedHeat : Nat) (unfixed : List Fuel) (short : unfixed.length ≤ n)
    (nodup : (unfixed.map Fuel.chan).Nodup) (limits : ∀ f ∈ unfixed, f.minRate ≤ f.maxRate) :
    Planning (heat - fixedHeat) unfixed (splitPasses n heat fixedHeat unfixed) := by
  induction n generalizing fixedHeat unfixed with
  | zero =>
    rw [List.eq_nil_of_length_eq_zero (Nat.le_zero.mp short)]
    exact ⟨.refl _, fun x mem => absurd mem List.not_mem_nil, Nat.zero_le _⟩
  | succ n ih =>
    let shares := splitPass (heat - fixedHeat) unfixed
    let aboveMax : PassShare → Bool := fun x => decide (x.fuel.maxRate < x.rate)
    let fixed := (shares.filter aboveMax).map fun x => fixAtMax x.fuel
    let rest := shares.filter fun x => !aboveMax x
    have fuels : shares.map PassShare.fuel = unfixed := splitPass_fuels _ _
    have rates (x : PassShare) (mem : x ∈ shares) : x.rate = x.heat * 3600 / x.fuel.cv := splitPass_rate mem
    have limited (x : PassShare) (mem : x ∈ shares) : x.fuel.minRate ≤ x.fuel.maxRate := limits _ (splitPass_fuel mem)
    have total : sumOf PassShare.heat shares ≤ heat - fixedHeat := splitPass_heat nodup
    have fixedHeats : sumOf (fun x => x.entry.heat) fixed + sumOf PassShare.heat rest ≤ heat - fixedHeat := by
      have bound : sumOf (fun x : PassShare => (fixAtMax x.fuel).entry.heat) (shares.filter aboveMax)
          ≤ sumOf PassShare.heat (shares.filter aboveMax) := sumOf_le fun x mem => by
        obtain ⟨given, above⟩ := List.mem_filter.mp mem
        exact fixAtMax_heat (rates x given) (of_decide_eq_true above)
      have parts := sumOf_filter PassShare.heat aboveMax shares
      rw [sumOf_map]
      exact (Nat.add_le_add_right bound _).trans (parts.le.trans total)
    have pass : splitPasses (n + 1) heat fixedHeat unfixed
        = if (shares.filter aboveMax).isEmpty || rest.isEmpty then fixed ++ rest.map settleShare
          else fixed ++ splitPasses n heat (fixedHeat + sumOf (fun x => x.entry.heat) fixed) (rest.map PassShare.fuel) := rfl
    have enough : sumOf (fun x => x.entry.heat) fixed ≤ heat - fixedHeat := (Nat.le_add_right _ _).trans fixedHeats
    rw [pass, ← fuels]
    split
    next =>
      refine planning_of_parts limited enough (planning_settled (fun x mem => rates x (List.mem_of_mem_filter mem))
        (fun x mem => limited x (List.mem_of_mem_filter mem)) (fun x mem => ?_) (Nat.le_sub_of_add_le' fixedHeats))
      obtain ⟨-, below⟩ := List.mem_filter.mp mem
      exact Nat.le_of_not_lt (of_decide_eq_false ((Bool.not_eq_true' _).mp below))
    next more =>
      have some_above : 0 < (shares.filter aboveMax).length := by
        refine List.length_pos_iff.mpr fun none_above => more ?_
        rw [none_above]
        rfl
      have lengths := (List.filter_append_perm aboveMax shares).length_eq
      rw [List.length_append, ← List.length_map (f := PassShare.fuel) (as := shares), fuels] at lengths
      have fewer : (rest.map PassShare.fuel).length ≤ n := by
        rw [List.length_map]
        have : rest.length = (shares.filter fun x => !aboveMax x).length := rfl
        omega
      have among : (rest.map PassShare.fuel).Sublist unfixed := fuels ▸ (List.filter_sublist (p := fun x => !aboveMax x)).map _
      refine planning_of_parts limited enough ?_
      rw [← Nat.sub_add_eq]
      exact ih _ _ fewer (nodup.sublist (among.map _)) fun f mem => limits f (among.subset mem)

/-- Settles O12: each channel once, within its rates, and no more heat than is divided. -/
theorem splitRespectsRates : Obligations.SplitRespectsRates := by
  intro heat l few nodup fuels
  obtain ⟨chans, fits, carried⟩ := splitPasses_planning 6 heat 0 l few nodup fun f mem => (fuels f mem).2.2
  refine ⟨chans, fun f mem x planned same => ?_, ?_⟩
  · obtain ⟨g, among, chan, rates⟩ := fits x planned
    have one : f = g := List.inj_on_of_nodup_map nodup mem among (same.symm.trans chan)
    exact one ▸ rates
  · rw [carriedHeat_filter]
    exact carried

end Sys2Proof.Machine
end

section
/-! PROOFS. The cap event and its replan, and the plan that a plan-cycle expiry makes for each burner (R21 to R35). -/

namespace Sys2Proof.Machine

-- One proof at a time: proofs that wait for one another hold a thread each, and the threads' memory is bounded.
set_option Elab.async false

/-! ## What a replan plans, and what it leaves standing (R28, R29, R38) -/

theorem sumOf_filter_eq {α : Type} (f : α → Nat) (p : α → Bool) (l : List α) :
    sumOf f (l.filter p) = sumOf (fun a => if p a then f a else 0) l := by
  induction l with
  | nil => rfl
  | cons a l ih =>
    rw [List.filter_cons, sumOf_cons, ← ih]
    split
    · rw [sumOf_cons]
    · rw [Nat.zero_add]

section
variable (s : State)

/-- Does a replan plan the channel (log entry 44)? -/
def isReplanned (c : Channel) : Bool := feeds s c .main && decide (s.chans[c].state = .dosing) && !s.chans[c].awaitsPlan

theorem replanned_eq : replanned s = (List.finRange 6).filter (isReplanned s) := by
  rw [replanned, channelsOf, List.filter_filter]
  exact List.filter_congr fun c _ => (Bool.and_comm _ _).trans (Bool.and_assoc _ _ _).symm

theorem mem_replanned {c : Channel} : c ∈ replanned s ↔ isReplanned s c = true := by
  rw [replanned_eq, List.mem_filter]
  exact and_iff_right (List.mem_finRange c)

theorem standing_eq : standing s = (List.finRange 6).filter fun c => feeds s c .main && !isReplanned s c := by
  rw [standing, channelsOf, List.filter_filter]
  refine List.filter_congr fun c _ => ?_
  have same : (replanned s).contains c = isReplanned s c := by
    rw [Bool.eq_iff_iff, List.contains_iff_mem]
    exact mem_replanned s
  rw [same]
  exact Bool.and_comm _ _

theorem standsClamped_eq (c : Channel) : standsClamped s c =
    (decide (s.planner.entries[c].role = .atMin) && decide (s.chans[c].state ≠ .hold)) := Bool.decide_and _ _

theorem standingHeat_eq : standingHeat s =
    (((List.finRange 6).filter fun c => feeds s c .main && !isReplanned s c).map fun c =>
      if standsClamped s c then 0 else s.planner.entries[c].heat).sum := by
  rw [standingHeat, sumOf_filter_eq, standing_eq]
  refine congrArg List.sum (List.map_congr_left fun c _ => ?_)
  cases standsClamped s c <;> rfl

theorem standingExcess_eq : standingExcess s =
    (((List.finRange 6).filter fun c => feeds s c .main && !isReplanned s c).map fun c =>
      if standsClamped s c then s.planner.excesses[c] else 0).sum := by
  rw [standingExcess, sumOf_filter_eq, standing_eq]
  rfl

theorem dosingEntry_eq (plan : List Planned) (c : Channel) :
    dosingEntry plan c = ((plan.find? fun x => decide (x.chan = c)).map Planned.entry).getD ⟨0, 0, .zeroShare⟩ := by
  unfold dosingEntry
  split <;> simp only [*] <;> rfl

theorem excessOf_eq (plan : List Planned) (c : Channel) :
    excessOf plan c = ((plan.find? fun x => decide (x.chan = c)).map Planned.excess).getD 0 := by
  unfold excessOf
  split <;> simp only [*] <;> rfl

/-! ## The replan and its hand-over (R28) -/

/-- One channel takes the rate of its entry as its target. -/
def targetTaken (c : Channel) (s : State) : State := s.onChan c fun x => { x with r := s.planner.entries[c].rate }

theorem targetsTaken_at (l : List Channel) (c : Channel) : (forEach l targetTaken s).chans[c] =
    if c ∈ l then { s.chans[c] with r := s.planner.entries[c].rate } else s.chans[c] := by
  induction l generalizing s with
  | nil => exact (if_neg List.not_mem_nil).symm
  | cons a l ih =>
    have rest : (forEach (a :: l) targetTaken s).chans[c] = (forEach l targetTaken (targetTaken a s)).chans[c] := rfl
    have entries : (targetTaken a s).planner = s.planner := rfl
    rw [rest, ih, entries]
    by_cases here : c = a
    · subst here
      rw [targetTaken, onChan_chans_same, if_pos List.mem_cons_self, ite_self]
    · simp only [targetTaken, onChan_chans_other s _ here, List.mem_cons, here, false_or]

theorem handReplan_chans (c : Channel) : (handReplan s).chans[c] =
    if isReplanned s c then { s.chans[c] with r := s.planner.entries[c].rate } else s.chans[c] := by
  have handed : (handReplan s).chans[c] = (forEach (replanned s) targetTaken s).chans[c] := rfl
  rw [handed, targetsTaken_at]
  exact if_congr (mem_replanned s) rfl rfl

/-- What the planner holds once a plan is stored, its entries and excesses apart. -/
theorem storePlan_planner (b : Burner) (aside excess : Nat) (plan : List Planned) (rewritten : List Channel)
    (entry : Channel → PlanEntry) :
    let t := storePlan b aside excess plan rewritten entry s
    t.planner.demand = s.planner.demand.upd b (fun d => { d with
        shortfall := (s.planner.demand.get b).hApp - carriedHeat plan - aside
        surplus := min 250000 (surplusOf plan + excess) })
    ∧ t.planner.hCap = s.planner.hCap ∧ t.planner.fuels = s.planner.fuels ∧ t.planner.planTimer = s.planner.planTimer := by
  have kept := storePlan_outline s b aside excess plan rewritten entry
  exact ⟨congrArg Planner.demand kept, (congrArg Planner.hCap kept :), (congrArg Planner.fuels kept :),
    (congrArg Planner.planTimer kept :)⟩

theorem storePlan_at (b : Burner) (aside excess : Nat) (plan : List Planned) (rewritten : List Channel)
    (entry : Channel → PlanEntry) (c : Channel) :
    let t := storePlan b aside excess plan rewritten entry s
    t.planner.entries[c] = (if c ∈ rewritten then entry c else s.planner.entries[c])
    ∧ t.planner.excesses[c] = (if c ∈ rewritten then excessOf plan c else s.planner.excesses[c]) :=
  entriesStored_at s plan entry rewritten c

/-! ## The cap event (R27, R28) -/

variable (cap : Nat)

/-- The demand as a cap event lowers it. -/
def capped : State := (s.onPlanner fun x => { x with hCap := cap }).onDemand .main fun d => { d with hApp := cap }

/-- The split of a replan at a cap. -/
def replanSplit : List Planned := splitHeat (cap - standingHeat s) (replanFuels s)

variable {s cap}

theorem capEvent_keeps (h : s.planner.demand.main.hApp ≤ cap) :
    capEvent cap s = s.onPlanner fun x => { x with hCap := cap } := if_neg (Nat.not_lt.mpr h)

theorem capEvent_lowers (h : cap < s.planner.demand.main.hApp) : capEvent cap s = handReplan (storePlan .main
    (standingHeat s) (standingExcess s) (replanSplit s cap) (replanned s) (dosingEntry (replanSplit s cap)) (capped s cap)) :=
  if_pos h

/-- What a cap event below H_app of MAIN leaves in the planner, the entries apart. -/
theorem capEvent_planner (h : cap < s.planner.demand.main.hApp) :
    (capEvent cap s).planner.hCap = cap
    ∧ (capEvent cap s).planner.demand = { s.planner.demand with main := { s.planner.demand.main with
        hApp := cap, shortfall := cap - carriedHeat (replanSplit s cap) - standingHeat s
        surplus := min 250000 (surplusOf (replanSplit s cap) + standingExcess s) } }
    ∧ (capEvent cap s).planner.fuels = s.planner.fuels ∧ (capEvent cap s).planner.planTimer = s.planner.planTimer := by
  rw [capEvent_lowers h, handReplan_planner]
  obtain ⟨demand, hCap, fuels, timer⟩ := storePlan_planner (capped s cap) .main (standingHeat s) (standingExcess s)
    (replanSplit s cap) (replanned s) (dosingEntry (replanSplit s cap))
  exact ⟨hCap, demand, fuels, timer⟩

/-- What it leaves of each channel. -/
theorem capEvent_channel (h : cap < s.planner.demand.main.hApp) (c : Channel) :
    (capEvent cap s).planner.entries[c] =
      (if isReplanned s c then dosingEntry (replanSplit s cap) c else s.planner.entries[c])
    ∧ (capEvent cap s).planner.excesses[c] =
      (if isReplanned s c then excessOf (replanSplit s cap) c else s.planner.excesses[c])
    ∧ (capEvent cap s).chans[c] =
      (if isReplanned s c then { s.chans[c] with r := (capEvent cap s).planner.entries[c].rate } else s.chans[c]) := by
  have event := capEvent_lowers h
  have stored := storePlan_at (capped s cap) .main (standingHeat s) (standingExcess s) (replanSplit s cap) (replanned s)
    (dosingEntry (replanSplit s cap)) c
  have touched := storePlan_touches .main (standingHeat s) (standingExcess s) (replanSplit s cap) (replanned s)
    (dosingEntry (replanSplit s cap)) (capped s cap)
  generalize storePlan .main (standingHeat s) (standingExcess s) (replanSplit s cap) (replanned s)
    (dosingEntry (replanSplit s cap)) (capped s cap) = u at *
  have chans : u.chans = s.chans := touched .chans (by decide)
  have store : u.store = s.store := touched .store (by decide)
  have same : isReplanned u c = isReplanned s c := by rw [isReplanned, isReplanned, feeds_congr store, chans]
  have handed := handReplan_chans u c
  rw [same, chans] at handed
  rw [event, handReplan_planner]
  exact ⟨stored.1.trans (if_congr (mem_replanned s) rfl rfl), stored.2.trans (if_congr (mem_replanned s) rfl rfl), handed⟩

/-- A channel that no replan plans is as it was, its entry and its excess too. -/
theorem capEvent_untouched (cap : Nat) {c : Channel} (out : isReplanned s c = false) :
    (capEvent cap s).chans[c] = s.chans[c] ∧ (capEvent cap s).planner.entries[c] = s.planner.entries[c]
    ∧ (capEvent cap s).planner.excesses[c] = s.planner.excesses[c] := by
  rcases Nat.lt_or_ge cap s.planner.demand.main.hApp with lowers | keeps
  · obtain ⟨entry, excess, chan⟩ := capEvent_channel lowers c
    rw [out] at entry excess chan
    exact ⟨chan, entry, excess⟩
  · rw [capEvent_keeps keeps]
    exact ⟨rfl, rfl, rfl⟩

end

/-- The second part of O13: a cap event. -/
theorem capEvent_spec (cap : Nat) (s : State) :
    (s.planner.demand.main.hApp ≤ cap → capEvent cap s = s.onPlanner fun x => { x with hCap := cap })
    ∧ (cap < s.planner.demand.main.hApp →
      let clamped (c : Channel) : Bool :=
        decide (s.planner.entries[c].role = .atMin) && decide (s.chans[c].state ≠ .hold)
      let fuels := (((List.finRange 6).filter (isReplanned s)).map fun c => s.planner.fuels[c]).filter
        fun f => decide (0 < f.share)
      let aside := (((List.finRange 6).filter fun c => feeds s c .main && !isReplanned s c).map fun c =>
        if clamped c then 0 else s.planner.entries[c].heat).sum
      let excess := (((List.finRange 6).filter fun c => feeds s c .main && !isReplanned s c).map fun c =>
        if clamped c then s.planner.excesses[c] else 0).sum
      let plan := splitHeat (cap - aside) fuels
      let t := capEvent cap s
      t.planner.hCap = cap ∧ t.planner.demand.calciner = s.planner.demand.calciner
      ∧ t.planner.demand.main = { s.planner.demand.main with
          hApp := cap, shortfall := cap - carriedHeat plan - aside
          surplus := min 250000 ((plan.map Planned.excess).sum + excess) }
      ∧ (∀ c : Channel, isReplanned s c = true →
          t.planner.entries[c] =
            ((plan.find? fun x => decide (x.chan = c)).map Planned.entry).getD ⟨0, 0, .zeroShare⟩
          ∧ t.planner.excesses[c] = ((plan.find? fun x => decide (x.chan = c)).map Planned.excess).getD 0
          ∧ t.chans[c] = { s.chans[c] with r := t.planner.entries[c].rate })
      ∧ (∀ c : Channel, isReplanned s c = false → t.chans[c] = s.chans[c]
          ∧ t.planner.entries[c] = s.planner.entries[c] ∧ t.planner.excesses[c] = s.planner.excesses[c])
      ∧ t.planner.fuels = s.planner.fuels ∧ t.planner.planTimer = s.planner.planTimer
      ∧ Touches [.planner, .chans] s t) := by
  refine ⟨capEvent_keeps, fun lowers => ?_⟩
  intro clamped fuels aside excess plan t
  have isClamped (c : Channel) : clamped c = standsClamped s c := (standsClamped_eq s c).symm
  have isAside : aside = standingHeat s := by simp only [aside, isClamped, standingHeat_eq]
  have isExcess : excess = standingExcess s := by simp only [excess, isClamped, standingExcess_eq]
  have isPlan : plan = replanSplit s cap := by simp only [plan, fuels, isAside, replanSplit, replanFuels, replanned_eq]
  rw [isAside, isExcess, isPlan]
  obtain ⟨hCap, demand, kept, timer⟩ := capEvent_planner lowers
  refine ⟨hCap, (congrArg PerBurner.calciner demand :), congrArg PerBurner.main demand, fun c replans => ?_,
    fun c out => capEvent_untouched cap out, kept, timer, capEvent_touches cap s⟩
  obtain ⟨entry, stored, chan⟩ := capEvent_channel lowers c
  rw [replans, if_pos rfl] at entry stored chan
  exact ⟨entry.trans (dosingEntry_eq _ c), stored.trans (excessOf_eq _ c), chan⟩

end Sys2Proof.Machine
end

section
/-! PROOFS. The plan of one burner at a plan-cycle expiry, and of both (R24 to R36). -/

namespace Sys2Proof.Machine

-- One proof at a time: proofs that wait for one another hold a thread each, and the threads' memory is bounded.
set_option Elab.async false

/-! ## A condition that follows its record, and what reports leave of the totals -/

section
variable {p q : Point} {before after : Bool} {s t : State}

theorem reportChange_cond (p : Point) (before after : Bool) (s : State) : (reportChange p before after s).alarm.points[p].cond
    = if after = before then s.alarm.points[p].cond else after := by
  unfold reportChange
  split
  · rfl
  · exact (cond_of_reportCond p p after s).trans (if_pos rfl)

theorem reportChange_points_other (before after : Bool) (s : State) (ne : q ≠ p) :
    (reportChange p before after s).alarm.points[q] = s.alarm.points[q] := by
  unfold reportChange
  split
  · rfl
  · exact reportCond_points_other after s ne

theorem reportChange_alarmTotals (p : Point) (before after : Bool) (s : State) :
    AlarmTotals s (reportChange p before after s) :=
  .ite (.of_shift rfl) (reportCond_alarmTotals p after s)

theorem AlarmTotals.chans (h : AlarmTotals s t) : t.shift.totals.chans = s.shift.totals.chans :=
  (congrArg (fun x : Shift => x.totals.chans) h :)

theorem AlarmTotals.overload (h : AlarmTotals s t) : t.shift.totals.overload = s.shift.totals.overload :=
  (congrArg (fun x : Shift => x.totals.overload) h :)

end

/-! ## Changes of a demand record -/

section
variable (b : Burner) (s : State)

theorem onDemand_get (f : Demand → Demand) : (s.onDemand b f).planner.demand.get b = f (s.planner.demand.get b) :=
  PerBurner.get_upd _ _ _

theorem onDemand_onDemand (f g : Demand → Demand) : (s.onDemand b f).onDemand b g = s.onDemand b fun d => g (f d) := by
  cases b <;> rfl

theorem onDemand_congr {f g : Demand → Demand} (h : f (s.planner.demand.get b) = g (s.planner.demand.get b)) :
    s.onDemand b f = s.onDemand b g :=
  congrArg (fun v => s.onPlanner fun x => { x with demand := v }) (PerBurner.upd_congr s.planner.demand b h)

/-! ## The shortfall check (R35) -/

/-- The demand record after a check against a limit. -/
def Demand.checked (limit : Nat) (d : Demand) : Demand :=
  if limit < d.shortfall then
    { d with
      shortfallCount := satInc 10 d.shortfallCount
      shortfallCond := d.shortfallCond || decide (satInc 10 d.shortfallCount = 10) }
  else { d with shortfallCount := 0, shortfallCond := false }

theorem shortfallCheck_eq : shortfallCheck b s =
    let limit := (s.live.burners.get b).shortfallLimit
    reportChange (shortfallPoint b) (s.planner.demand.get b).shortfallCond
      ((s.planner.demand.get b).checked limit).shortfallCond (s.onDemand b (Demand.checked limit)) := by
  unfold shortfallCheck reportChange Demand.checked
  dsimp only
  by_cases beyond : (s.live.burners.get b).shortfallLimit < (s.planner.demand.get b).shortfall
  · rw [if_pos beyond, if_pos beyond]
    have checks (cond : Bool) (is : ((s.planner.demand.get b).shortfallCond || decide (satInc 10
        (s.planner.demand.get b).shortfallCount = 10)) = cond) :
        (s.onDemand b fun d => if (s.live.burners.get b).shortfallLimit < d.shortfall then
          { d with shortfallCount := satInc 10 d.shortfallCount
                   shortfallCond := d.shortfallCond || decide (satInc 10 d.shortfallCount = 10) }
          else { d with shortfallCount := 0, shortfallCond := false })
        = s.onDemand b fun d => { d with
            shortfallCount := satInc 10 (s.planner.demand.get b).shortfallCount, shortfallCond := cond } :=
      onDemand_congr b s (by rw [if_pos beyond, is])
    by_cases met : satInc 10 (s.planner.demand.get b).shortfallCount = 10
    · cases present : (s.planner.demand.get b).shortfallCond with
      | true =>
        rw [if_neg (by simp), if_pos (by simp), checks true (by simp [present])]
        exact onDemand_congr b s (by rw [← present])
      | false =>
        rw [if_pos ⟨met, rfl⟩, if_neg (by simp [met]), checks true (by simp [met]), onDemand_onDemand]
        simp only [met, decide_true, Bool.or_true]
    · have same : ((s.planner.demand.get b).shortfallCond || decide (satInc 10 (s.planner.demand.get b).shortfallCount = 10))
          = (s.planner.demand.get b).shortfallCond := by simp [met]
      rw [if_neg (fun h => met h.1), if_pos same, checks _ same]
      exact onDemand_congr b s rfl
  · rw [if_neg beyond, if_neg beyond]
    have checks : (s.onDemand b fun d => if (s.live.burners.get b).shortfallLimit < d.shortfall then
          { d with shortfallCount := satInc 10 d.shortfallCount
                   shortfallCond := d.shortfallCond || decide (satInc 10 d.shortfallCount = 10) }
          else { d with shortfallCount := 0, shortfallCond := false })
        = s.onDemand b fun d => { d with shortfallCount := 0, shortfallCond := false } :=
      onDemand_congr b s (by rw [if_neg beyond])
    rw [checks]
    cases (s.planner.demand.get b).shortfallCond <;> rfl

/-! ## The plan of one burner (R24, R28 to R34) -/

/-- The demand record as the plan leaves it. -/
def demandPlanned : Demand :=
  if fires s b then
    { s.planner.demand.get b with
      hApp := rampedHeat s b, shortfall := shortMade s b, surplus := min 250000 (surplusOf (planMade s b)) }
  else { s.planner.demand.get b with hApp := 0, shortfall := 0, surplus := 0 }

/-- The plan entry that the plan gives a channel of the burner. -/
def entryPlanned (c : Channel) : PlanEntry := if fires s b then entryOf s (planMade s b) c else emptyEntry

/-- The ramp and the plan of one burner. -/
def planFor : State :=
  if fires s b then planBurner b (s.onDemand b fun d => { d with hApp := rampedHeat s b })
  else emptyPlan b (s.onDemand b fun d => { d with hApp := 0 })

theorem rampedHeat_eq : rampedHeat s b =
    rampStep (s.planner.demand.get b).hApp (rampTarget s b) (s.live.burners.get b).rampRate := by
  cases b <;> rfl

/-- The plan made with the ramped heat. -/
theorem planBurner_ramped : planBurner b (s.onDemand b fun d => { d with hApp := rampedHeat s b }) =
    storePlan b (heldHeat s b) 0 (planMade s b) (channelsOf s b) (entryOf s (planMade s b))
      (s.onDemand b fun d => { d with hApp := rampedHeat s b }) := by
  have split : splitOf (s.onDemand b fun d => { d with hApp := rampedHeat s b }) b = planMade s b := by
    rw [splitOf, onDemand_get]
    rfl
  rw [planBurner, split]
  rfl

theorem planFor_touches : Touches [.planner] s (planFor b s) := by
  unfold planFor
  exact .ite ((onDemand_touches b _ s).trans (planBurner_touches b _)) ((onDemand_touches b _ s).trans (emptyPlan_touches b _))

theorem planFor_planner : (planFor b s).planner.demand = s.planner.demand.upd b (fun _ => demandPlanned b s)
    ∧ (planFor b s).planner.hCap = s.planner.hCap ∧ (planFor b s).planner.fuels = s.planner.fuels
    ∧ (planFor b s).planner.planTimer = s.planner.planTimer := by
  unfold planFor demandPlanned
  by_cases firing : fires s b = true
  · rw [if_pos firing, if_pos firing, planBurner_ramped]
    have stored := storePlan_planner (s.onDemand b fun d => { d with hApp := rampedHeat s b }) b (heldHeat s b) 0 (planMade s b)
      (channelsOf s b) (entryOf s (planMade s b))
    obtain ⟨demand, kept⟩ := stored
    refine ⟨demand.trans ?_, kept⟩
    rw [onDemand_get, shortMade, if_pos firing]
    cases b <;> rfl
  · rw [if_neg firing, if_neg firing]
    have kept (l : List Channel) (t : State) : (forEach l (fun c t => t.onEntry c fun _ => emptyEntry) t).planner.demand
          = t.planner.demand
        ∧ (forEach l (fun c t => t.onEntry c fun _ => emptyEntry) t).planner.fuels = t.planner.fuels :=
      ⟨forEach_keeps (f := fun c t => t.onEntry c fun _ => emptyEntry) (g := fun t => t.planner.demand) (fun _ _ => rfl) l t,
        forEach_keeps (f := fun c t => t.onEntry c fun _ => emptyEntry) (g := fun t => t.planner.fuels) (fun _ _ => rfl) l t⟩
    have empty (l : List Channel) (t : State) :=
      And.intro (kept l t) (forEach_onEntry_planner l (fun _ => emptyEntry) t)
    obtain ⟨⟨demand, fuels⟩, hCap, timer⟩ := empty (channelsOf s b) (s.onDemand b fun d => { d with hApp := 0 })
    refine ⟨?_, hCap, fuels, timer⟩
    refine (congrArg (fun v : PerBurner Demand => v.upd b fun d => { d with shortfall := 0, surplus := 0 }) demand).trans ?_
    cases b <;> rfl

theorem mem_channelsOf {c : Channel} : c ∈ channelsOf s b ↔ feeds s c b = true :=
  List.mem_filter.trans (and_iff_right (List.mem_finRange c))

theorem planFor_entries (c : Channel) : (planFor b s).planner.entries[c] =
    if feeds s c b then entryPlanned b s c else s.planner.entries[c] := by
  unfold planFor entryPlanned
  by_cases firing : fires s b = true
  · rw [if_pos firing, if_pos firing, planBurner_ramped]
    exact (storePlan_at _ b _ 0 _ _ _ c).1.trans (if_congr (mem_channelsOf b s) rfl rfl)
  · rw [if_neg firing, if_neg firing, emptyPlan_entries]
    rfl

theorem planFor_excesses (firing : fires s b = true) (c : Channel) : (planFor b s).planner.excesses[c] =
    if feeds s c b then excessOf (planMade s b) c else s.planner.excesses[c] := by
  unfold planFor
  rw [if_pos firing, planBurner_ramped]
  exact (storePlan_at _ b _ 0 _ _ _ c).2.trans (if_congr (mem_channelsOf b s) rfl rfl)

theorem planFor_excesses_other {c : Channel} (out : feeds s c b = false) :
    (planFor b s).planner.excesses[c] = s.planner.excesses[c] := by
  by_cases firing : fires s b = true
  · rw [planFor_excesses b s firing, out]
    rfl
  · have kept (l : List Channel) (t : State) : (forEach l (fun c t => t.onEntry c fun _ => emptyEntry) t).planner.excesses
        = t.planner.excesses :=
      forEach_keeps (f := fun c t => t.onEntry c fun _ => emptyEntry) (g := fun t => t.planner.excesses) (fun _ _ => rfl) l t
    unfold planFor
    rw [if_neg firing]
    exact congrArg (fun v : Vector Nat 6 => v[c]) (kept (channelsOf s b) (s.onDemand b fun d => { d with hApp := 0 }))

/-! ## With the shortfall check and the seconds (R35, R36) -/

/-- The demand record as a plan-cycle expiry leaves it for a burner. -/
def demandMade : Demand := (demandPlanned b s).checked (s.live.burners.get b).shortfallLimit

/-- The plan, and the point that follows its shortfall. -/
def planChecked : State :=
  reportChange (shortfallPoint b) (s.planner.demand.get b).shortfallCond (demandMade b s).shortfallCond
    ((planFor b s).onDemand b (Demand.checked (s.live.burners.get b).shortfallLimit))

theorem shortfallCheck_planFor : shortfallCheck b (planFor b s) = planChecked b s := by
  have live : (planFor b s).live = s.live := congrArg Store.live (planFor_touches b s .store (by decide))
  have demand : (planFor b s).planner.demand.get b = demandPlanned b s := by
    rw [(planFor_planner b s).1, PerBurner.get_upd]
  have cond : (demandPlanned b s).shortfallCond = (s.planner.demand.get b).shortfallCond := by
    unfold demandPlanned
    split <;> rfl
  rw [shortfallCheck_eq, live, demand, cond]
  rfl

theorem secondsCounted (surplus : Nat) (t : State) : ∃ f : PerBurner BurnTotal → PerBurner BurnTotal,
    addSurplus b surplus (if 0 < (t.planner.demand.get b).shortfall then addShortfallSecond b t else t)
      = t.onTotals fun x => { x with burns := f x.burns } := by
  split
  · exact ⟨fun v => (v.upd b fun x => { x with shortfall := satInc top32 x.shortfall }).upd b fun x =>
      { x with surplus := satAdd top64 x.surplus surplus }, rfl⟩
  · exact ⟨fun v => v.upd b fun x => { x with surplus := satAdd top64 x.surplus surplus }, rfl⟩

/-- A plan cycle of a burner is its plan and its check, and counts for the burner's totals. -/
theorem planCycleOf_eq : ∃ f : PerBurner BurnTotal → PerBurner BurnTotal,
    planCycleOf b s = (planChecked b s).onTotals fun t => { t with burns := f t.burns } := by
  rw [← shortfallCheck_planFor]
  unfold planCycleOf planFor
  by_cases firing : fires s b = true
  · rw [if_pos firing, if_pos firing, rampedHeat_eq]
    dsimp only
    have ramped : (s.onDemand b fun d => { d with hApp := rampStep d.hApp (rampTarget s b) (s.live.burners.get b).rampRate })
        = s.onDemand b fun d => { d with
            hApp := rampStep (s.planner.demand.get b).hApp (rampTarget s b) (s.live.burners.get b).rampRate } :=
      onDemand_congr b s rfl
    rw [ramped]
    exact secondsCounted b _ _
  · rw [if_neg firing, if_neg firing]
    exact ⟨id, rfl⟩

theorem planChecked_touches : Touches [.planner, .alarm, .shift, .handed] s (planChecked b s) :=
  ((planFor_touches b s).trans (onDemand_touches b _ _)).mono.trans (Touches.mono (reportChange_touches _ _ _ _))

theorem planChecked_planner : (planChecked b s).planner =
    { (planFor b s).planner with demand := s.planner.demand.upd b fun _ => demandMade b s } := by
  have kept : (planChecked b s).planner =
      ((planFor b s).onDemand b (Demand.checked (s.live.burners.get b).shortfallLimit)).planner :=
    reportChange_touches _ _ _ _ .planner (by decide)
  have demand := (planFor_planner b s).1
  rw [kept]
  generalize planFor b s = u at *
  rw [onDemand_planner, demand]
  cases b <;> rfl

theorem planChecked_cond : (planChecked b s).alarm.points[shortfallPoint b].cond =
    if (demandMade b s).shortfallCond = (s.planner.demand.get b).shortfallCond then s.alarm.points[shortfallPoint b].cond
    else (demandMade b s).shortfallCond := by
  have kept := points_congr (planFor_touches b s .alarm (by decide)) (shortfallPoint b)
  rw [planChecked, reportChange_cond]
  exact congrArg (fun p : PointRec => if (demandMade b s).shortfallCond = (s.planner.demand.get b).shortfallCond then p.cond
    else (demandMade b s).shortfallCond) kept

theorem planChecked_points_other {p : Point} (ne : p ≠ shortfallPoint b) :
    (planChecked b s).alarm.points[p] = s.alarm.points[p] :=
  (reportChange_points_other _ _ _ ne).trans (points_congr (planFor_touches b s .alarm (by decide)) p)

theorem planChecked_totals : (planChecked b s).shift.totals.chans = s.shift.totals.chans
    ∧ (planChecked b s).shift.totals.overload = s.shift.totals.overload := by
  have planned : AlarmTotals s (planFor b s) := (planFor_touches b s).alarmTotals
  have kept : AlarmTotals s (planChecked b s) := (planned.trans ((onDemand_touches b _ _).alarmTotals)).trans
    (reportChange_alarmTotals _ _ _ _)
  exact ⟨kept.chans, kept.overload⟩

end

end Sys2Proof.Machine
end

section
/-! PROOFS. Both plans of a plan-cycle expiry, and the entries of the channels without a burner (R21, R24 to R36, R38). -/

namespace Sys2Proof.Machine

-- One proof at a time: proofs that wait for one another hold a thread each, and the threads' memory is bounded.
set_option Elab.async false

/-! ## What one burner's plan leaves -/

/-- What the plan cycle of one burner does. -/
structure PlanStep (b : Burner) (s t : State) : Prop where
  touches : Touches [.planner, .alarm, .shift, .handed] s t
  demand : t.planner.demand = s.planner.demand.upd b fun _ => demandMade b s
  kept : t.planner.hCap = s.planner.hCap ∧ t.planner.fuels = s.planner.fuels ∧ t.planner.planTimer = s.planner.planTimer
  entries : ∀ c : Channel, t.planner.entries[c] = if feeds s c b then entryPlanned b s c else s.planner.entries[c]
  excesses : fires s b = true → ∀ c : Channel, feeds s c b = true → t.planner.excesses[c] = excessOf (planMade s b) c
  excessesOther : ∀ c : Channel, feeds s c b = false → t.planner.excesses[c] = s.planner.excesses[c]
  cond : t.alarm.points[shortfallPoint b].cond =
    if (demandMade b s).shortfallCond = (s.planner.demand.get b).shortfallCond then s.alarm.points[shortfallPoint b].cond
    else (demandMade b s).shortfallCond
  points : ∀ p : Point, p ≠ shortfallPoint b → t.alarm.points[p] = s.alarm.points[p]
  totals : t.shift.totals.chans = s.shift.totals.chans ∧ t.shift.totals.overload = s.shift.totals.overload

section
variable (b : Burner) (s : State)

theorem planChecked_step : PlanStep b s (planChecked b s) := by
  obtain ⟨-, kept⟩ := planFor_planner b s
  refine ⟨planChecked_touches b s, ?_, ?_, ?_, ?_, ?_, planChecked_cond b s, fun p => planChecked_points_other b s,
    planChecked_totals b s⟩ <;> rw [planChecked_planner]
  · exact kept
  · exact planFor_entries b s
  · exact fun firing c fed => (planFor_excesses b s firing c).trans (if_pos fed)
  · exact fun c => planFor_excesses_other b s

theorem planCycleOf_step : PlanStep b s (planCycleOf b s) := by
  obtain ⟨f, eq⟩ := planCycleOf_eq b s
  have step := planChecked_step b s
  rw [eq]
  have counted : Touches [.planner, .alarm, .shift, .handed] (planChecked b s)
      ((planChecked b s).onTotals fun t => { t with burns := f t.burns }) := (onTotals_touches _ _).mono
  exact { step with touches := step.touches.trans counted }

end

/-! ## The plan depends on the burner's own inputs alone -/

/-- Do two states give a burner's plan the same inputs? -/
structure SamePlan (b : Burner) (s t : State) : Prop where
  store : t.store = s.store
  burns : t.burns = s.burns
  chans : t.chans = s.chans
  demand : t.planner.demand.get b = s.planner.demand.get b
  hCap : t.planner.hCap = s.planner.hCap
  entries : ∀ c : Channel, feeds s c b = true → t.planner.entries[c] = s.planner.entries[c]

section
variable {b : Burner} {s t : State}

theorem fires_congr (h : t.burns = s.burns) (b : Burner) : fires t b = fires s b := by rw [fires, h, fires]

theorem channelsOf_congr (h : t.store = s.store) (b : Burner) : channelsOf t b = channelsOf s b :=
  List.filter_congr fun c _ => feeds_congr h c b

theorem SamePlan.ramped (same : SamePlan b s t) : rampedHeat t b = rampedHeat s b := by
  have live : t.live = s.live := congrArg Store.live same.store
  have target : rampTarget t b = rampTarget s b := by
    unfold rampTarget
    rw [same.demand, live, same.hCap]
  rw [rampedHeat_eq, same.demand, target, live, rampedHeat_eq]

theorem SamePlan.held (same : SamePlan b s t) : heldHeat t b = heldHeat s b := by
  unfold heldHeat
  rw [channelsOf_congr same.store, same.chans]
  refine congrArg List.sum (List.map_congr_left fun c mem => ?_)
  have fed : feeds s c b = true := (mem_channelsOf b s).mp (List.mem_filter.mp mem).1
  rw [same.entries c fed]

theorem SamePlan.eligible (same : SamePlan b s t) : eligible t b = eligible s b := by
  have live : t.live = s.live := congrArg Store.live same.store
  have fuel : fuelOf t = fuelOf s := by
    funext c
    rw [fuelOf, live, fuelOf]
  unfold Machine.eligible
  rw [channelsOf_congr same.store, same.chans, live, fuel]

theorem SamePlan.plan (same : SamePlan b s t) : planMade t b = planMade s b := by
  rw [planMade, same.ramped, same.held, same.eligible, planMade]

theorem SamePlan.short (same : SamePlan b s t) : shortMade t b = shortMade s b := by
  rw [shortMade, fires_congr same.burns, same.ramped, same.plan, same.held, shortMade]

theorem SamePlan.made (same : SamePlan b s t) : demandMade b t = demandMade b s := by
  have live : t.live = s.live := congrArg Store.live same.store
  rw [demandMade, demandPlanned, fires_congr same.burns, same.demand, same.ramped, same.short, same.plan, live, demandMade,
    demandPlanned]

theorem SamePlan.entry (same : SamePlan b s t) {c : Channel} (fed : feeds s c b = true) :
    entryPlanned b t c = entryPlanned b s c := by
  rw [entryPlanned, fires_congr same.burns, same.plan, entryOf, same.chans, same.entries c fed, entryPlanned, entryOf]

theorem feeds_iff (s : State) (c : Channel) (b : Burner) : feeds s c b = true ↔ burnerOf s c = some b := by
  unfold feeds burnerOf
  cases s.live.chans[c].assign <;> cases b <;> decide

/-- No channel has two burners. -/
theorem feeds_other {c : Channel} {d : Burner} (fed : feeds s c b = true) (ne : d ≠ b) : feeds s c d = false := by
  refine (Bool.not_eq_true _).mp fun other => ne ?_
  exact Option.some.inj (((feeds_iff s c d).mp other).symm.trans ((feeds_iff s c b).mp fed))

end

/-! ## Both plans -/

/-- One channel without a burner gets the empty entry. -/
def unassignedEmptied (c : Channel) (s : State) : State :=
  if burnerOf s c = none then s.onEntry c fun _ => emptyEntry else s

theorem burnerOf_congr {s t : State} (h : t.store = s.store) (c : Channel) : burnerOf t c = burnerOf s c := by
  rw [burnerOf, State.live, h, burnerOf, State.live]

theorem unassignedEmptied_touches (c : Channel) (s : State) : Touches [.planner] s (unassignedEmptied c s) :=
  .ite (onEntry_touches c _ s) (.refl _ _)

theorem unassignedEmptied_same (c : Channel) (s : State) : (unassignedEmptied c s).planner.entries[c] =
    if burnerOf s c = none then emptyEntry else s.planner.entries[c] := by
  unfold unassignedEmptied
  split
  · exact upd_same s.planner.entries c _
  · rfl

theorem unassignedEmptied_other {a c : Channel} (ne : a ≠ c) (s : State) :
    (unassignedEmptied a s).planner.entries[c] = s.planner.entries[c] := by
  unfold unassignedEmptied
  split
  · exact upd_other s.planner.entries _ ne
  · rfl

/-- The planner but for its entries. -/
def Planner.besidesEntries (p : Planner) : PerBurner Demand × Nat × Vector Nat 6 × Vector Fuel 6 × Timer :=
  (p.demand, p.hCap, p.excesses, p.fuels, p.planTimer)

theorem planner_besides {p q : Planner} (h : p.besidesEntries = q.besidesEntries) : p.demand = q.demand ∧ p.hCap = q.hCap
    ∧ p.excesses = q.excesses ∧ p.fuels = q.fuels ∧ p.planTimer = q.planTimer := by
  simpa only [Planner.besidesEntries, Prod.mk.injEq] using h

theorem unassignedEmptied_rest (c : Channel) (s : State) :
    (unassignedEmptied c s).planner.besidesEntries = s.planner.besidesEntries := by
  unfold unassignedEmptied
  split <;> rfl

theorem unassigned_entries {l : List Channel} {c : Channel} (once : l.Nodup) (mem : c ∈ l) (s : State) :
    (forEach l unassignedEmptied s).planner.entries[c] = if burnerOf s c = none then emptyEntry else s.planner.entries[c] :=
  forEach_at (f := unassignedEmptied) (g := fun t => t.planner.entries[c])
    (F := fun e => if burnerOf s c = none then emptyEntry else e) (fun t => t.store = s.store) once mem
    (fun a t store => (unassignedEmptied_touches a t .store (by decide)).trans store)
    (fun _ t _ ne => unassignedEmptied_other ne t)
    (fun t store => (unassignedEmptied_same c t).trans (by rw [burnerOf_congr store])) rfl

theorem emptyUnassigned_eq (s : State) : emptyUnassigned s = forEach (List.finRange 6) unassignedEmptied s := rfl

theorem emptyUnassigned_entries (s : State) (c : Channel) : (emptyUnassigned s).planner.entries[c] =
    if burnerOf s c = none then emptyEntry else s.planner.entries[c] := by
  rw [emptyUnassigned_eq, unassigned_entries (List.nodup_finRange 6) (List.mem_finRange c)]

theorem emptyUnassigned_touches (s : State) : Touches [.planner] s (emptyUnassigned s) := by
  rw [emptyUnassigned_eq]
  exact .each unassignedEmptied_touches _ s

theorem unassigned_rest (l : List Channel) (s : State) :
    (forEach l unassignedEmptied s).planner.besidesEntries = s.planner.besidesEntries :=
  forEach_keeps (f := unassignedEmptied) (g := fun t => t.planner.besidesEntries) unassignedEmptied_rest l s

theorem emptyUnassigned_rest (s : State) : (emptyUnassigned s).planner.besidesEntries = s.planner.besidesEntries := by
  rw [emptyUnassigned_eq, unassigned_rest]

/-- The planner's part of a plan-cycle expiry. -/
def plansOf (s : State) : State := emptyUnassigned (planCycleOf .calciner (planCycleOf .main (readFuels s)))

/-- What both plans leave. -/
structure PlansMade (s t : State) : Prop where
  touches : Touches [.planner, .alarm, .shift, .handed] s t
  demand : ∀ b, t.planner.demand.get b = demandMade b s
  hCap : t.planner.hCap = s.planner.hCap
  planTimer : t.planner.planTimer = s.planner.planTimer
  fuels : ∀ c : Channel, t.planner.fuels[c] = fuelOf s c
  entries : ∀ (b : Burner) (c : Channel), feeds s c b = true → t.planner.entries[c] = entryPlanned b s c
  unassigned : ∀ c : Channel, burnerOf s c = none → t.planner.entries[c] = emptyEntry
  excesses : ∀ b, fires s b = true → ∀ c : Channel, feeds s c b = true →
    t.planner.excesses[c] = excessOf (planMade s b) c
  cond : ∀ b, t.alarm.points[shortfallPoint b].cond =
    if (demandMade b s).shortfallCond = (s.planner.demand.get b).shortfallCond then s.alarm.points[shortfallPoint b].cond
    else (demandMade b s).shortfallCond
  points : ∀ p : Point, (∀ b, p ≠ shortfallPoint b) → t.alarm.points[p] = s.alarm.points[p]
  totals : t.shift.totals.chans = s.shift.totals.chans ∧ t.shift.totals.overload = s.shift.totals.overload

/-- The plan of CALC is made from inputs that MAIN's plan leaves. -/
theorem PlanStep.samePlan {s t : State} (step : PlanStep .main s t) : SamePlan .calciner s t where
  store := step.touches .store (by decide)
  burns := step.touches .burns (by decide)
  chans := step.touches .chans (by decide)
  demand := (congrArg PerBurner.calciner step.demand :)
  hCap := step.kept.1
  entries c fed := by rw [step.entries c, feeds_other fed (by decide)]; rfl

theorem shortfallPoint_ne {b d : Burner} (ne : b ≠ d) : shortfallPoint b ≠ shortfallPoint d := by
  cases b with
  | main => cases d with
    | main => exact absurd rfl ne
    | calciner => decide
  | calciner => cases d with
    | main => decide
    | calciner => exact absurd rfl ne

/-- What the planner's reading of the fuel parameters does. -/
structure FuelsRead (s t : State) : Prop where
  touches : Touches [.planner] s t
  planner : t.planner = { s.planner with fuels := Vector.ofFn (fuelOf s) }

/-- What the empty entries of the channels without a burner do. -/
structure UnassignedEmptied (s t : State) : Prop where
  touches : Touches [.planner] s t
  besides : t.planner.besidesEntries = s.planner.besidesEntries
  entries : ∀ c : Channel, t.planner.entries[c] = if burnerOf s c = none then emptyEntry else s.planner.entries[c]

section
variable {s r m k t : State}

theorem FuelsRead.samePlan (read : FuelsRead s r) (b : Burner) : SamePlan b s r := by
  have planner := read.planner
  refine ⟨read.touches .store (by decide), read.touches .burns (by decide), read.touches .chans (by decide), ?_, ?_,
    fun _ _ => ?_⟩ <;> rw [planner]

/-- The inputs of CALC's plan, which MAIN's leaves. -/
theorem FuelsRead.samePlan_calciner (read : FuelsRead s r) (main : PlanStep .main r m) : SamePlan .calciner s m := by
  have first := read.samePlan .calciner
  have second := main.samePlan
  exact ⟨second.store.trans first.store, second.burns.trans first.burns, second.chans.trans first.chans,
    second.demand.trans first.demand, second.hCap.trans first.hCap, fun c fed =>
      (second.entries c ((feeds_congr first.store c .calciner).trans fed)).trans (first.entries c fed)⟩

theorem plans_demand (read : FuelsRead s r) (main : PlanStep .main r m) (calciner : PlanStep .calciner m k) (b : Burner) :
    k.planner.demand.get b = demandMade b s := by
  have made : k.planner.demand = ⟨demandMade .main s, demandMade .calciner s⟩ := by
    rw [calciner.demand, main.demand, (read.samePlan .main).made, (read.samePlan_calciner main).made]
    rfl
  rw [made]
  cases b <;> rfl

theorem plans_entries (read : FuelsRead s r) (main : PlanStep .main r m) (calciner : PlanStep .calciner m k) (b : Burner)
    {c : Channel} (fed : feeds s c b = true) : k.planner.entries[c] = entryPlanned b s c := by
  have same := read.samePlan .main
  have sameCalciner := read.samePlan_calciner main
  rw [calciner.entries c, feeds_congr sameCalciner.store]
  cases b with
  | main =>
    rw [feeds_other fed (by decide), if_neg Bool.false_ne_true, main.entries c, feeds_congr same.store, fed, if_pos rfl]
    exact same.entry fed
  | calciner =>
    rw [fed, if_pos rfl]
    exact sameCalciner.entry fed

theorem plans_excesses (read : FuelsRead s r) (main : PlanStep .main r m) (calciner : PlanStep .calciner m k) {b : Burner}
    (firing : fires s b = true) {c : Channel} (fed : feeds s c b = true) :
    k.planner.excesses[c] = excessOf (planMade s b) c := by
  have same := read.samePlan .main
  have sameCalciner := read.samePlan_calciner main
  cases b with
  | main =>
    rw [calciner.excessesOther c ((feeds_congr sameCalciner.store c _).trans (feeds_other fed (by decide))),
      main.excesses ((fires_congr same.burns _).trans firing) c ((feeds_congr same.store c _).trans fed), same.plan]
  | calciner =>
    rw [calciner.excesses ((fires_congr sameCalciner.burns _).trans firing) c
      ((feeds_congr sameCalciner.store c _).trans fed), sameCalciner.plan]

theorem plans_cond (read : FuelsRead s r) (main : PlanStep .main r m) (calciner : PlanStep .calciner m k) (b : Burner) :
    k.alarm.points[shortfallPoint b].cond =
      if (demandMade b s).shortfallCond = (s.planner.demand.get b).shortfallCond then s.alarm.points[shortfallPoint b].cond
      else (demandMade b s).shortfallCond := by
  have same := read.samePlan .main
  have sameCalciner := read.samePlan_calciner main
  have alarm : r.alarm = s.alarm := read.touches .alarm (by decide)
  cases b with
  | main =>
    rw [calciner.points _ (shortfallPoint_ne (by decide)), main.cond, same.made, same.demand, alarm]
  | calciner =>
    rw [calciner.cond, sameCalciner.made, sameCalciner.demand, main.points _ (shortfallPoint_ne (by decide)), alarm]

theorem plansMade_of_steps (read : FuelsRead s r) (main : PlanStep .main r m) (calciner : PlanStep .calciner m k)
    (emptied : UnassignedEmptied k t) : PlansMade s t := by
  obtain ⟨demand, hCap, excesses, fuels, timer⟩ := planner_besides emptied.besides
  have alarm : t.alarm = k.alarm := emptied.touches .alarm (by decide)
  have shift : t.shift = k.shift := emptied.touches .shift (by decide)
  have readShift : r.shift = s.shift := read.touches .shift (by decide)
  have store : k.store = s.store :=
    (calciner.touches .store (by decide)).trans (read.samePlan_calciner main).store
  have kept : k.planner.hCap = s.planner.hCap ∧ k.planner.fuels = Vector.ofFn (fuelOf s)
      ∧ k.planner.planTimer = s.planner.planTimer := by
    rw [calciner.kept.1, calciner.kept.2.1, calciner.kept.2.2, main.kept.1, main.kept.2.1, main.kept.2.2, read.planner]
    exact ⟨rfl, rfl, rfl⟩
  obtain ⟨keptCap, keptFuels, keptTimer⟩ := kept
  refine
    { touches := read.touches.mono.trans (main.touches.trans (calciner.touches.trans emptied.touches.mono))
      demand := fun b => ?_, hCap := hCap.trans keptCap, planTimer := timer.trans keptTimer, fuels := fun c => ?_
      entries := fun b c fed => ?_, unassigned := fun c none => ?_, excesses := fun b firing c fed => ?_
      cond := fun b => ?_, points := fun p ne => ?_, totals := ?_ }
  · rw [demand, plans_demand read main calciner b]
  · rw [fuels, keptFuels]
    exact Vector.getElem_ofFn _
  · have assigned : burnerOf k c ≠ none := by
      rw [burnerOf_congr store, (feeds_iff s c b).mp fed]
      exact Option.some_ne_none b
    rw [emptied.entries c, if_neg assigned, plans_entries read main calciner b fed]
  · rw [emptied.entries c, if_pos ((burnerOf_congr store c).trans none)]
  · rw [excesses, plans_excesses read main calciner firing fed]
  · rw [alarm, plans_cond read main calciner b]
  · rw [alarm, calciner.points p (ne _), main.points p (ne _), read.touches .alarm (by decide)]
  · rw [shift, calciner.totals.1, calciner.totals.2, main.totals.1, main.totals.2, readShift]
    exact ⟨rfl, rfl⟩

end

theorem readFuels_read (s : State) : FuelsRead s (readFuels s) := ⟨onPlanner_touches _ s, rfl⟩

theorem emptyUnassigned_emptied (s : State) : UnassignedEmptied s (emptyUnassigned s) :=
  ⟨emptyUnassigned_touches s, emptyUnassigned_rest s, emptyUnassigned_entries s⟩

theorem plansOf_made (s : State) : PlansMade s (plansOf s) := by
  have read := readFuels_read s
  have main := planCycleOf_step .main (readFuels s)
  have calciner := planCycleOf_step .calciner (planCycleOf .main (readFuels s))
  have emptied := emptyUnassigned_emptied (planCycleOf .calciner (planCycleOf .main (readFuels s)))
  unfold plansOf
  exact plansMade_of_steps read main calciner emptied

end Sys2Proof.Machine
end

section
/-! PROOFS. The work of one channel at a plan-cycle expiry: what it reads and what it leaves (R52 to R58). -/

namespace Sys2Proof.Machine

-- One proof at a time: proofs that wait for one another hold a thread each, and the threads' memory is bounded.
set_option Elab.async false

/-! ## What a channel's work may change -/

/-- Between two states, only what belongs to the channel has changed: its record, which awaits a plan as before, its totals and
its three points. -/
structure Works (c : Channel) (s t : State) : Prop where
  touches : Touches [.chans, .alarm, .shift, .handed] s t
  awaits : t.chans[c].awaitsPlan = s.chans[c].awaitsPlan
  chan : ∀ d : Channel, d ≠ c → t.chans[d] = s.chans[d]
  total : ∀ d : Channel, d ≠ c → t.shift.totals.chans[d] = s.shift.totals.chans[d]
  overload : t.shift.totals.overload = s.shift.totals.overload
  points : ∀ p : Point, p ≠ deviationPoint c → p ≠ faultPoint c → p ≠ holdPoint c → t.alarm.points[p] = s.alarm.points[p]

section
variable {c : Channel} {s t u : State}

theorem Works.trans (h : Works c s t) (k : Works c t u) : Works c s u where
  touches := h.touches.trans k.touches
  awaits := k.awaits.trans h.awaits
  chan d ne := (k.chan d ne).trans (h.chan d ne)
  total d ne := (k.total d ne).trans (h.total d ne)
  overload := k.overload.trans h.overload
  points p deviation fault hold := (k.points p deviation fault hold).trans (h.points p deviation fault hold)

theorem Works.ite {p : Prop} [Decidable p] (h : Works c s t) (k : Works c s u) : Works c s (if p then t else u) := by
  split <;> assumption

theorem onChan_works (c : Channel) (f : Chan → Chan) (s : State)
    (awaits : (f s.chans[c]).awaitsPlan = s.chans[c].awaitsPlan := by rfl) : Works c s (s.onChan c f) :=
  ⟨(onChan_touches c f s).mono, by rw [onChan_chans_same, awaits], fun _ ne => onChan_chans_other s f ne, fun _ _ => rfl, rfl,
    fun _ _ _ _ => rfl⟩

theorem onTotals_works (f : Totals → Totals) (s : State)
    (chans : ∀ d : Channel, d ≠ c → (f s.shift.totals).chans[d] = s.shift.totals.chans[d])
    (overload : (f s.shift.totals).overload = s.shift.totals.overload) : Works c s (s.onTotals f) :=
  ⟨(onTotals_touches f s).mono, rfl, fun _ _ => rfl, chans, overload, fun _ _ _ _ => rfl⟩

theorem chanTotal_works (c : Channel) (f : ChanTotal → ChanTotal) (s : State) :
    Works c s (s.onTotals fun t => { t with chans := upd t.chans c f }) :=
  onTotals_works _ s (fun _ ne => upd_other s.shift.totals.chans f (Ne.symm ne)) rfl

theorem burnTotal_works (c : Channel) (b : Burner) (f : BurnTotal → BurnTotal) (s : State) :
    Works c s (s.onTotals fun t => { t with burns := t.burns.upd b f }) :=
  onTotals_works _ s (fun _ _ => rfl) rfl

theorem reportCond_works {p : Point} (present : Bool) (s : State)
    (own : p = deviationPoint c ∨ p = faultPoint c ∨ p = holdPoint c) : Works c s (reportCond p present s) where
  touches := (reportCond_touches p present s).mono
  awaits := by rw [reportCond_chans]
  chan d _ := by rw [reportCond_chans]
  total d _ := by rw [(reportCond_alarmTotals p present s).chans]
  overload := (reportCond_alarmTotals p present s).overload
  points q deviation fault hold := by
    rcases own with rfl | rfl | rfl
    · exact reportCond_points_other present s deviation
    · exact reportCond_points_other present s fault
    · exact reportCond_points_other present s hold

theorem enterFault_works (c : Channel) (cause : FaultCause) (s : State) : Works c s (enterFault c cause s) := by
  unfold enterFault
  dsimp only
  have faulted := (onChan_works c (fun x => { x.lockDropped.countsCleared with
    state := .fault, u := 0, r := 0, trim := 0, cause := some cause, holdTimer := none, devCond := false }) s).trans
      (reportCond_works true _ (.inr (.inl rfl)))
  have judged := Works.ite (p := s.chans[c].devCond = true) (faulted.trans (reportCond_works false _ (.inl rfl))) faulted
  exact .ite (judged.trans (reportCond_works false _ (.inr (.inr rfl)))) judged

theorem addDosed_works (c : Channel) (b : Option Burner) (grams kj : Nat) (s : State) :
    Works c s (addDosed c b grams kj s) := by
  cases b with
  | none => exact chanTotal_works c _ s
  | some b => exact (chanTotal_works c _ s).trans (burnTotal_works c b _ _)

/-- The accounting, with what it reads of the state given. -/
def accounted (c : Channel) (set : ChanSet) (x : Chan) (sample : Nat) (b : Option Burner) (p : Int) (s : State) : State :=
  let dosed := gramsOf set sample x.gramResidue p
  let heat := dosed.1 * set.cv + x.kjResidue
  let t := addDosed c b dosed.1 (heat / 1000) (s.onChan c fun x =>
    { x with m := rateOf set sample p, gramResidue := dosed.2, kjResidue := heat % 1000 })
  markInService c (if x.state = .dosing then addDosingSecond c t else t)

/-- The load cell of a channel (R53). -/
def cellOf (s : State) (c : Channel) : AnalogRec := s.scan.analog[(⟨c.val, by omega⟩ : AnalogIn)]

theorem account_eq (c : Channel) (p : Int) (s : State) :
    account c p s = accounted c s.live.chans[c] s.chans[c] (cellOf s c).lastGood (burnerOf s c) p s := rfl

theorem account_works (c : Channel) (p : Int) (s : State) : Works c s (account c p s) := by
  have dosed (m residue kjResidue : Nat) (b : Option Burner) (grams kj : Nat) := (onChan_works c (fun x =>
    { x with m := m, gramResidue := residue, kjResidue := kjResidue }) s).trans (addDosed_works c b grams kj _)
  rw [account_eq]
  exact (Works.ite ((dosed _ _ _ _ _ _).trans (chanTotal_works c _ _)) (dosed _ _ _ _ _ _)).trans (chanTotal_works c _ _)

theorem updateDeviation_works (c : Channel) (s : State) : Works c s (updateDeviation c s) := by
  have counted (count : Nat) := onChan_works c (fun x => { x with devCount := count }) s
  have moved (count : Nat) (present : Bool) := onChan_works c (fun x => { x with devCount := count, devCond := present }) s
  have reported (count : Nat) (present : Bool) := (moved count present).trans (reportCond_works present _ (.inl rfl))
  unfold updateDeviation
  exact .ite (.ite ((reported _ true).trans (chanTotal_works c _ _)) (counted _)) (.ite (reported _ false) (moved _ _))

theorem lockUpdated_awaits (x : Chan) (tolerance : Nat) : (x.lockUpdated tolerance).awaitsPlan = x.awaitsPlan := by
  unfold Chan.lockUpdated
  split <;> rfl

theorem driven_awaits (x : Chan) (set : ChanSet) : (x.driven set).awaitsPlan = x.awaitsPlan := by
  unfold Chan.driven
  split <;> rfl

theorem supervise_works (c : Channel) (p : Int) (s : State) : Works c s (supervise c p s) := by
  have counted := (onChan_works c (fun x => x.lockUpdated s.live.chans[c].tolerance) s (lockUpdated_awaits _ _)).trans
    ((updateDeviation_works c _).trans (onChan_works c (fun x => x.countsUpdated s.live.chans[c] p) _))
  unfold supervise
  dsimp only
  split
  · exact counted
  · exact counted.trans (enterFault_works c _ _)

/-! ## A channel's work in its two parts -/

/-- A channel's work begins with the target handed and the take. -/
def workBegun (c : Channel) (s : State) : State :=
  takeCount c (s.onChan c fun x => { x with r := s.planner.entries[c].rate, awaitsPlan := false })

/-- A channel's work after the take, with the count taken. -/
def workGoesOn (c : Channel) (p : Int) (s : State) : State :=
  match s.chans[c].state with
  | .out => s.onChan c fun x => { x with m := 0 }
  | .idle => markInService c (s.onChan c fun x => { x with m := 0 })
  | .fault => markInService c (s.onChan c fun x => { x with m := 0 })
  | .calib => markInService c (s.onChan c fun x => { x with m := 0 })
  | .hold => account c p s
  | .dosing =>
    let t := supervise c p (account c p s)
    if t.chans[c].state = .dosing then t.onChan c fun x => x.driven t.live.chans[c] else t

theorem cycleWork_eq (c : Channel) (s : State) :
    cycleWork c s = workGoesOn c (s.scan.pulse[c].force.getD s.scan.pulse[c].count) (workBegun c s) := rfl

theorem workGoesOn_works (c : Channel) (p : Int) (s : State) : Works c s (workGoesOn c p s) := by
  have idle := onChan_works c (fun x => { x with m := 0 }) s
  have dosed := (account_works c p s).trans (supervise_works c p _)
  unfold workGoesOn
  split
  · exact idle
  · exact idle.trans (chanTotal_works c _ _)
  · exact idle.trans (chanTotal_works c _ _)
  · exact idle.trans (chanTotal_works c _ _)
  · exact account_works c p s
  · exact .ite (dosed.trans (onChan_works c _ _ (driven_awaits _ _))) dosed

theorem takeCount_pulse (c : Channel) (s : State) : (takeCount c s).scan.pulse[c] =
    { s.scan.pulse[c] with count := 0, lastTaken := s.scan.pulse[c].force.getD s.scan.pulse[c].count } :=
  upd_same s.scan.pulse c _

/-- After its work no channel awaits its plan, and its count is taken (R11, R37, R52). -/
theorem cycleWork_taken (c : Channel) (s : State) : (cycleWork c s).chans[c].awaitsPlan = false
    ∧ (cycleWork c s).scan.pulse[c] =
      { s.scan.pulse[c] with count := 0, lastTaken := s.scan.pulse[c].force.getD s.scan.pulse[c].count } := by
  have works := workGoesOn_works c (s.scan.pulse[c].force.getD s.scan.pulse[c].count) (workBegun c s)
  rw [cycleWork_eq, works.awaits, works.touches .scan (by decide)]
  have handed : (workBegun c s).chans[c] = { s.chans[c] with r := s.planner.entries[c].rate, awaitsPlan := false } :=
    onChan_chans_same s c _
  exact ⟨by rw [handed], takeCount_pulse c _⟩

/-- What the whole work of a channel leaves as it was. -/
structure Confined (c : Channel) (s t : State) : Prop where
  touches : Touches [.scan, .chans, .alarm, .shift, .handed] s t
  analog : t.scan.analog = s.scan.analog
  discrete : t.scan.discrete = s.scan.discrete
  pulse : ∀ d : Channel, d ≠ c → t.scan.pulse[d] = s.scan.pulse[d]
  chan : ∀ d : Channel, d ≠ c → t.chans[d] = s.chans[d]
  total : ∀ d : Channel, d ≠ c → t.shift.totals.chans[d] = s.shift.totals.chans[d]
  overload : t.shift.totals.overload = s.shift.totals.overload
  points : ∀ p : Point, p ≠ deviationPoint c → p ≠ faultPoint c → p ≠ holdPoint c → t.alarm.points[p] = s.alarm.points[p]

theorem cycleWork_confined (c : Channel) (s : State) : Confined c s (cycleWork c s) := by
  have works := workGoesOn_works c (s.scan.pulse[c].force.getD s.scan.pulse[c].count) (workBegun c s)
  have begun : Touches [.scan, .chans, .alarm, .shift, .handed] s (workBegun c s) :=
    (onChan_touches c _ s).mono.trans (onPulse_touches c _ _).mono
  have scan : (workGoesOn c (s.scan.pulse[c].force.getD s.scan.pulse[c].count) (workBegun c s)).scan = (workBegun c s).scan :=
    works.touches .scan (by decide)
  rw [cycleWork_eq]
  exact ⟨begun.trans works.touches.mono, (congrArg Scanner.analog scan :), (congrArg Scanner.discrete scan :),
    fun d ne => (congrArg (fun x : Scanner => x.pulse[d]) scan).trans (upd_other s.scan.pulse _ (Ne.symm ne)),
    fun d ne => (works.chan d ne).trans (onChan_chans_other s _ ne), works.total, works.overload, works.points⟩

end

/-! ## What a channel's work reads -/

/-- Do two states agree in all that a channel's work reads and in what it leaves? -/
structure Alike (c : Channel) (s t : State) : Prop where
  store : t.store = s.store
  chan : t.chans[c] = s.chans[c]
  entry : t.planner.entries[c] = s.planner.entries[c]
  pulse : t.scan.pulse[c] = s.scan.pulse[c]
  cell : (cellOf t c).lastGood = (cellOf s c).lastGood
  total : t.shift.totals.chans[c] = s.shift.totals.chans[c]
  deviation : t.alarm.points[deviationPoint c].cond = s.alarm.points[deviationPoint c].cond
  fault : t.alarm.points[faultPoint c].cond = s.alarm.points[faultPoint c].cond

section
variable {c : Channel} {s t u : State}

theorem Alike.trans (h : Alike c s t) (k : Alike c t u) : Alike c s u where
  store := k.store.trans h.store
  chan := k.chan.trans h.chan
  entry := k.entry.trans h.entry
  pulse := k.pulse.trans h.pulse
  cell := k.cell.trans h.cell
  total := k.total.trans h.total
  deviation := k.deviation.trans h.deviation
  fault := k.fault.trans h.fault

theorem Alike.live (h : Alike c s t) : t.live = s.live := congrArg Store.live h.store

theorem channelPoints_ne {a : Channel} (ne : c ≠ a) :
    deviationPoint c ≠ deviationPoint a ∧ deviationPoint c ≠ faultPoint a ∧ deviationPoint c ≠ holdPoint a
    ∧ faultPoint c ≠ deviationPoint a ∧ faultPoint c ≠ faultPoint a ∧ faultPoint c ≠ holdPoint a := by
  simp only [deviationPoint, faultPoint, holdPoint, ne_eq, Fin.ext_iff] at ne ⊢
  omega

/-- The work of another channel leaves all that a channel's work reads. -/
theorem Confined.alike {a : Channel} (h : Confined a s t) (ne : c ≠ a) : Alike c s t := by
  obtain ⟨d1, d2, d3, f1, f2, f3⟩ := channelPoints_ne ne
  have cell : cellOf t c = cellOf s c := by rw [cellOf, h.analog, cellOf]
  exact ⟨h.touches .store (by decide), h.chan c ne, by rw [h.touches .planner (by decide)], h.pulse c ne,
    congrArg AnalogRec.lastGood cell, h.total c ne, congrArg PointRec.cond (h.points _ d1 d2 d3),
    congrArg PointRec.cond (h.points _ f1 f2 f3)⟩

theorem Alike.ite {p : Prop} [Decidable p] {s' t' : State} (h : Alike c s t) (k : Alike c s' t') :
    Alike c (if p then s else s') (if p then t else t') := by
  split <;> assumption

theorem Alike.onChan_congr (h : Alike c s t) {f g : Chan → Chan} (same : g s.chans[c] = f s.chans[c]) :
    Alike c (s.onChan c f) (t.onChan c g) :=
  { h with chan := by rw [onChan_chans_same, onChan_chans_same, h.chan, same] }

theorem Alike.onChan (h : Alike c s t) (f : Chan → Chan) : Alike c (s.onChan c f) (t.onChan c f) := h.onChan_congr rfl

theorem Alike.takeCount (h : Alike c s t) : Alike c (takeCount c s) (takeCount c t) :=
  { h with pulse := by rw [takeCount_pulse, takeCount_pulse, h.pulse] }

theorem Alike.chanTotal (h : Alike c s t) (f : ChanTotal → ChanTotal) :
    Alike c (s.onTotals fun x => { x with chans := upd x.chans c f }) (t.onTotals fun x => { x with chans := upd x.chans c f }) := by
  have counted (u : State) : (u.onTotals fun x => { x with chans := upd x.chans c f }).shift.totals.chans[c]
      = f u.shift.totals.chans[c] := upd_same u.shift.totals.chans c f
  exact { h with total := by rw [counted, counted, h.total] }

theorem Alike.reportCond (h : Alike c s t) (p : Point) (present : Bool) :
    Alike c (reportCond p present s) (reportCond p present t) where
  store := (reportCond_touches p present t .store (by decide)).trans
    (h.store.trans (reportCond_touches p present s .store (by decide)).symm)
  chan := by rw [reportCond_chans, reportCond_chans, h.chan]
  entry := by
    rw [reportCond_touches p present t .planner (by decide), reportCond_touches p present s .planner (by decide), h.entry]
  pulse := by rw [reportCond_touches p present t .scan (by decide), reportCond_touches p present s .scan (by decide), h.pulse]
  cell := by
    rw [cellOf, cellOf, reportCond_touches p present t .scan (by decide), reportCond_touches p present s .scan (by decide)]
    exact h.cell
  total := by rw [(reportCond_alarmTotals p present t).chans, (reportCond_alarmTotals p present s).chans, h.total]
  deviation := by rw [cond_of_reportCond, cond_of_reportCond, h.deviation]
  fault := by rw [cond_of_reportCond, cond_of_reportCond, h.fault]

theorem Alike.enterFault (h : Alike c s t) (cause : FaultCause) : Alike c (enterFault c cause s) (enterFault c cause t) := by
  unfold Machine.enterFault
  dsimp only
  rw [h.chan]
  have faulted := (h.onChan fun x => { x.lockDropped.countsCleared with
    state := .fault, u := 0, r := 0, trim := 0, cause := some cause, holdTimer := none, devCond := false }).reportCond
      (faultPoint c) true
  exact .ite ((Alike.ite (faulted.reportCond _ _) faulted).reportCond _ _) (.ite (faulted.reportCond _ _) faulted)

theorem Alike.addDosed (h : Alike c s t) (b : Option Burner) (grams kj : Nat) :
    Alike c (addDosed c b grams kj s) (addDosed c b grams kj t) := by
  cases b with
  | none => exact h.chanTotal _
  | some b => exact { h.chanTotal _ with }

theorem Alike.account (h : Alike c s t) (p : Int) : Alike c (account c p s) (account c p t) := by
  rw [account_eq, account_eq, h.live, h.chan, burnerOf_congr h.store, h.cell]
  have dosed (f : Chan → Chan) (b : Option Burner) (grams kj : Nat) := (h.onChan f).addDosed b grams kj
  exact (Alike.ite ((dosed _ _ _ _).chanTotal _) (dosed _ _ _ _)).chanTotal _

theorem Alike.updateDeviation (h : Alike c s t) : Alike c (updateDeviation c s) (updateDeviation c t) := by
  unfold Machine.updateDeviation
  dsimp only
  rw [h.chan, h.live]
  exact .ite (.ite (((h.onChan _).reportCond _ _).chanTotal _) (h.onChan _)) (.ite ((h.onChan _).reportCond _ _) (h.onChan _))

theorem Alike.supervise (h : Alike c s t) (p : Int) : Alike c (supervise c p s) (supervise c p t) := by
  unfold Machine.supervise
  rw [h.live]
  have counted := ((h.onChan fun x => x.lockUpdated s.live.chans[c].tolerance).updateDeviation).onChan
    fun x => x.countsUpdated s.live.chans[c] p
  dsimp only
  rw [counted.chan]
  generalize faultFound _ _ = found
  cases found with
  | none => exact counted
  | some cause => exact counted.enterFault cause

theorem Alike.workGoesOn (h : Alike c s t) (p : Int) : Alike c (workGoesOn c p s) (workGoesOn c p t) := by
  have idle := (h.onChan fun x => { x with m := 0 })
  have dosed := (h.account p).supervise p
  unfold Machine.workGoesOn
  rw [h.chan]
  generalize s.chans[c].state = state
  cases state with
  | out => exact idle
  | idle => exact idle.chanTotal _
  | fault => exact idle.chanTotal _
  | calib => exact idle.chanTotal _
  | hold => exact h.account p
  | dosing =>
    dsimp only
    rw [dosed.chan, dosed.live]
    exact .ite (dosed.onChan _) dosed

/-- The work of a channel is the same in states that agree in what it reads. -/
theorem Alike.cycleWork (h : Alike c s t) : Alike c (cycleWork c s) (cycleWork c t) := by
  have begun : Alike c (workBegun c s) (workBegun c t) := (h.onChan_congr (by rw [h.entry])).takeCount
  rw [cycleWork_eq, cycleWork_eq, h.pulse]
  exact begun.workGoesOn _

/-- The work of other channels leaves all that a channel's work reads. -/
theorem cycleWorks_alike_other (l : List Channel) (out : c ∉ l) (s : State) : Alike c s (forEach l Machine.cycleWork s) := by
  induction l generalizing s with
  | nil => exact ⟨rfl, rfl, rfl, rfl, rfl, rfl, rfl, rfl⟩
  | cons a l ih =>
    have ne : c ≠ a := fun same => out (same ▸ List.mem_cons_self)
    exact ((cycleWork_confined a s).alike ne).trans (ih (fun later => out (List.mem_cons_of_mem a later)) _)

/-- Of the work of several channels, a channel has its own. -/
theorem cycleWorks_alike {l : List Channel} (once : l.Nodup) (mem : c ∈ l) (h : Alike c s t) :
    Alike c (Machine.cycleWork c s) (forEach l Machine.cycleWork t) := by
  induction l generalizing t with
  | nil => exact absurd mem List.not_mem_nil
  | cons a l ih =>
    obtain ⟨new, once⟩ := List.nodup_cons.mp once
    rcases List.mem_cons.mp mem with rfl | later
    · exact h.cycleWork.trans (cycleWorks_alike_other l new _)
    · have ne : c ≠ a := fun same => new (same ▸ later)
      exact ih once later (h.trans ((cycleWork_confined a t).alike ne))

end

end Sys2Proof.Machine
end

section
/-! PROOFS. The fans at a plan-cycle expiry: the tables that come into use, the failure, the trim and the damper (R99 to
R101). -/

namespace Sys2Proof.Machine

-- One proof at a time: proofs that wait for one another hold a thread each, and the threads' memory is bounded.
set_option Elab.async false

/-! ## The failure of a fan (R101, step 1) -/

/-- The record of a fan judged by its flow. -/
def FanRec.judged (flow : Int) (set : FanSet) (x : FanRec) : FanRec :=
  if flow < (set.failLevel : Int) then
    if 100 < x.damper then
      let count := if x.failCount < set.failTime then x.failCount + 1 else x.failCount
      { x with failCount := count, failCond := x.failCond || decide (set.failTime ≤ count) }
    else { x with failCount := 0 }
  else { x with failCount := 0, failCond := false }

section
variable (f : Fan) (s : State)

theorem judgeFan_eq : judgeFan f s = if s.scan.analog[flowInput f].quality.usable then
    reportChange (fanPoint f) s.cooler.fans[f].failCond
      (s.cooler.fans[f].judged s.scan.analog[flowInput f].value s.live.fans[f]).failCond
      (s.onFan f (FanRec.judged s.scan.analog[flowInput f].value s.live.fans[f]))
    else s := by
  unfold judgeFan
  dsimp only
  by_cases usable : s.scan.analog[flowInput f].quality.usable = true
  · rw [if_pos usable, if_pos usable]
    have judges (y : FanRec) (is : s.cooler.fans[f].judged s.scan.analog[flowInput f].value s.live.fans[f] = y) :
        s.onFan f (FanRec.judged s.scan.analog[flowInput f].value s.live.fans[f]) = s.onFan f fun _ => y :=
      onFan_congr s is
    unfold reportChange
    by_cases low : s.scan.analog[flowInput f].value < (s.live.fans[f].failLevel : Int)
    · rw [if_pos low]
      by_cases moved : 100 < s.cooler.fans[f].damper
      · rw [if_pos moved]
        generalize count : (if s.cooler.fans[f].failCount < s.live.fans[f].failTime then s.cooler.fans[f].failCount + 1
          else s.cooler.fans[f].failCount) = n
        have judged : s.cooler.fans[f].judged s.scan.analog[flowInput f].value s.live.fans[f] =
            { s.cooler.fans[f] with
              failCount := n, failCond := s.cooler.fans[f].failCond || decide (s.live.fans[f].failTime ≤ n) } := by
          rw [FanRec.judged, if_pos low, if_pos moved, count]
        rw [judges _ judged, judged]
        by_cases full : s.live.fans[f].failTime ≤ n
        · have counted := decide_eq_true full
          cases present : s.cooler.fans[f].failCond with
          | true =>
            rw [if_neg fun h => Bool.false_ne_true h.2.symm, if_pos (Bool.true_or _)]
            exact onFan_congr s (by rw [Bool.true_or, ← present])
          | false =>
            rw [if_pos ⟨full, rfl⟩, Bool.false_or, counted, if_neg Bool.false_ne_true.symm, onFan_onFan]
            exact congrArg (reportCond (fanPoint f) true) (onFan_congr s rfl)
        · have counting := decide_eq_false full
          rw [if_neg fun h => full h.1, counting, Bool.or_false, if_pos rfl]
          exact onFan_congr s rfl
      · have judged : s.cooler.fans[f].judged s.scan.analog[flowInput f].value s.live.fans[f] =
            { s.cooler.fans[f] with failCount := 0 } := by rw [FanRec.judged, if_pos low, if_neg moved]
        rw [if_neg moved, judges _ judged, judged, if_pos rfl]
        exact onFan_congr s rfl
    · have judged : s.cooler.fans[f].judged s.scan.analog[flowInput f].value s.live.fans[f] =
          { s.cooler.fans[f] with failCount := 0, failCond := false } := by rw [FanRec.judged, if_neg low]
      have cleared : (s.onFan f fun x => { x with failCount := 0, failCond := false }) =
          s.onFan f fun _ => { s.cooler.fans[f] with failCount := 0, failCond := false } := onFan_congr s rfl
      rw [if_neg low, judges _ judged, judged, cleared]
      cases s.cooler.fans[f].failCond <;> rfl
  · rw [if_neg usable, if_neg usable]

/-! ## The update of a fan (R101) -/

/-- The record of a fan trimmed by its flow (R101, step 2). -/
def FanRec.trimmed (flow : Int) (gain : Nat) (x : FanRec) : FanRec :=
  { x with trim := clampInt (-100) 100 (x.trim + truncDiv (((x.effTarget : Int) - flow) * gain) 1000) }

/-- The record of a fan as its update leaves it, the damper apart. -/
def FanRec.measured (s : State) (f : Fan) (x : FanRec) : FanRec :=
  let a := s.scan.analog[flowInput f]
  if a.quality.usable then (x.judged a.value s.live.fans[f]).trimmed a.value s.live.fans[f].gain else x

/-- Is the fan updated (R101)? -/
def FanRec.updates (s : State) (x : FanRec) : Bool := x.on && decide (s.floor.mode = .normal ∨ s.floor.mode = .fallback)

/-- The record of a fan as a plan-cycle expiry leaves it, OVERLOAD standing. -/
def FanRec.updated (s : State) (f : Fan) (x : FanRec) : FanRec :=
  if x.updates s then (x.measured s f).dampered s.cooler.overload s f else x

variable {f s}

theorem judgeFan_fan (usable : s.scan.analog[flowInput f].quality.usable = true) : (judgeFan f s).cooler =
    (s.onFan f (FanRec.judged s.scan.analog[flowInput f].value s.live.fans[f])).cooler := by
  rw [judgeFan_eq, if_pos usable]
  exact reportChange_touches _ _ _ _ .cooler (by decide)

theorem onFan_cooler_congr {s t : State} (h : FanRec → FanRec) (same : t.cooler = s.cooler) :
    (t.onFan f h).cooler = (s.onFan f h).cooler :=
  congrArg (fun x : Cooler => { x with fans := upd x.fans f h }) same

/-- The cooler after a fan's measurement. -/
theorem measured_cooler : (trimFan f (judgeFan f s)).cooler = (s.onFan f (FanRec.measured s f)).cooler := by
  have scan : (judgeFan f s).scan = s.scan := judgeFan_touches f s .scan (by decide)
  have live : (judgeFan f s).live = s.live := congrArg Store.live (judgeFan_touches f s .store (by decide))
  unfold trimFan
  dsimp only
  rw [scan, live]
  by_cases usable : s.scan.analog[flowInput f].quality.usable = true
  · rw [if_pos usable]
    have judged := judgeFan_fan usable
    refine Eq.trans (b := ((s.onFan f (FanRec.judged s.scan.analog[flowInput f].value s.live.fans[f])).onFan f
      (FanRec.trimmed s.scan.analog[flowInput f].value s.live.fans[f].gain)).cooler) ?_ ?_
    · exact onFan_cooler_congr _ judged
    · rw [onFan_onFan]
      exact congrArg State.cooler (onFan_congr s (if_pos usable).symm)
  · have same : s.cooler.fans[f].measured s f = s.cooler.fans[f] := if_neg usable
    rw [if_neg usable, judgeFan_eq, if_neg usable]
    refine congrArg State.cooler (Eq.symm ?_)
    exact congrArg (fun v => s.onCooler fun x => { x with fans := v }) (upd_eq_self _ _ _ same)

theorem measured_touches (f : Fan) (s : State) : Touches [.cooler, .alarm, .shift, .handed] s (trimFan f (judgeFan f s)) :=
  (judgeFan_touches f s).trans (trimFan_touches f _).mono

theorem updateFan_eq (f : Fan) (s : State) : updateFan f s =
    if s.cooler.fans[f].updates s then computeDamper f (trimFan f (judgeFan f s)) else s := rfl

theorem updateFan_same : (updateFan f s).cooler.fans[f] = s.cooler.fans[f].updated s f := by
  have frame := measured_touches f s
  rw [updateFan_eq]
  by_cases updates : s.cooler.fans[f].updates s = true
  · rw [FanRec.updated, if_pos updates, if_pos updates, computeDamper_same, measured_cooler,
      FanRec.dampered_congr _ (frame .store (by decide)) (frame .floor (by decide))]
    exact congrArg (FanRec.dampered s.cooler.overload s f) (onFan_same f _ s)
  · rw [FanRec.updated, if_neg updates, if_neg updates]

theorem updateFan_other {n : Fan} (ne : n ≠ f) : (updateFan f s).cooler.fans[n] = s.cooler.fans[n] := by
  unfold updateFan
  split
  · rw [computeDamper_other _ ne, measured_cooler]
    exact onFan_other _ s ne
  · rfl

/-- The cooler but for its fans. -/
def Cooler.besidesFans (x : Cooler) : Vector GrateRec 3 × List Int × Bool × Nat × Bool × Option Nat × Nat :=
  (x.grates, x.window, x.overload, x.pressureCount, x.pressureCond, x.clearCount, x.cap)

theorem updateFan_rest (f : Fan) (s : State) : (updateFan f s).cooler.besidesFans = s.cooler.besidesFans := by
  unfold updateFan
  split
  · have measured := measured_cooler (f := f) (s := s)
    rw [computeDamper_eq]
    generalize trimFan f (judgeFan f s) = t at *
    exact (congrArg Cooler.besidesFans measured :)
  · rfl

/-! ### The point of a fan -/

theorem updateFan_alarm_eq (f : Fan) (s : State) : (updateFan f s).alarm =
    if s.cooler.fans[f].updates s then (judgeFan f s).alarm else s.alarm := by
  have trims (t : State) : (trimFan f t).alarm = t.alarm := trimFan_touches f t .alarm (by decide)
  have computes (t : State) : (computeDamper f t).alarm = t.alarm := computeDamper_touches f t .alarm (by decide)
  rw [updateFan_eq]
  by_cases updates : s.cooler.fans[f].updates s = true
  · rw [if_pos updates, if_pos updates, computes, trims]
  · rw [if_neg updates, if_neg updates]

theorem updateFan_points_other {p : Point} (ne : p ≠ fanPoint f) : (updateFan f s).alarm.points[p] = s.alarm.points[p] := by
  rw [updateFan_alarm_eq, judgeFan_eq]
  split
  · split
    · exact reportChange_points_other _ _ _ ne
    · rfl
  · rfl

/-- The condition of a fan's point follows the fan's own. -/
theorem updateFan_cond : (updateFan f s).alarm.points[fanPoint f].cond =
    if (s.cooler.fans[f].updated s f).failCond = s.cooler.fans[f].failCond then s.alarm.points[fanPoint f].cond
    else (s.cooler.fans[f].updated s f).failCond := by
  rw [updateFan_alarm_eq, judgeFan_eq]
  unfold FanRec.updated
  by_cases updates : s.cooler.fans[f].updates s = true
  · rw [if_pos updates, if_pos updates]
    have damper (o : Bool) (x : FanRec) : (x.dampered o s f).failCond = x.failCond := rfl
    rw [damper, FanRec.measured]
    by_cases usable : s.scan.analog[flowInput f].quality.usable = true
    · rw [if_pos usable, if_pos usable, reportChange_cond]
      rfl
    · rw [if_neg usable, if_neg usable, if_pos rfl]
  · rw [if_neg updates, if_neg updates, if_pos rfl]

theorem judgeFan_alarmTotals (f : Fan) (s : State) : AlarmTotals s (judgeFan f s) := by
  rw [judgeFan_eq]
  exact .ite ((onFan_touches f _ s).alarmTotals.trans (reportChange_alarmTotals _ _ _ _)) (.of_shift rfl)

theorem updateFan_alarmTotals (f : Fan) (s : State) : AlarmTotals s (updateFan f s) :=
  .ite ((judgeFan_alarmTotals f s).trans ((trimFan_touches f _).alarmTotals.trans (computeDamper_touches f _).alarmTotals))
    (.of_shift rfl)

end

end Sys2Proof.Machine
end

section
/-! PROOFS. The cooler's work of a plan-cycle expiry: all fans, the pressure test, OVERLOAD and its clear time (R99 to
R106). -/

namespace Sys2Proof.Machine

-- One proof at a time: proofs that wait for one another hold a thread each, and the threads' memory is bounded.
set_option Elab.async false

/-! ## All fans (R99, R101) -/

/-- Do two states give the update of a fan the same inputs? -/
structure SameFanInputs (s t : State) : Prop where
  scan : t.scan = s.scan
  store : t.store = s.store
  floor : t.floor = s.floor
  overload : t.cooler.overload = s.cooler.overload

theorem SameFanInputs.updated {s t : State} (same : SameFanInputs s t) (f : Fan) (x : FanRec) :
    x.updated t f = x.updated s f := by
  have live : t.live = s.live := congrArg Store.live same.store
  rw [FanRec.updated, FanRec.updates, FanRec.measured, same.overload, same.scan, live,
    FanRec.dampered_congr _ same.store same.floor, same.floor, FanRec.updated, FanRec.updates, FanRec.measured]

theorem besidesFans_overload {x y : Cooler} (h : x.besidesFans = y.besidesFans) : x.grates = y.grates ∧ x.window = y.window
    ∧ x.overload = y.overload ∧ x.pressureCount = y.pressureCount ∧ x.pressureCond = y.pressureCond
    ∧ x.clearCount = y.clearCount ∧ x.cap = y.cap := by
  simpa only [Cooler.besidesFans, Prod.mk.injEq] using h

section
variable {s t : State}

theorem SameFanInputs.step (same : SameFanInputs s t) (f : Fan) : SameFanInputs s (updateFan f t) := by
  have frame := updateFan_touches f t
  obtain ⟨-, -, overload, -⟩ := besidesFans_overload (updateFan_rest f t)
  exact ⟨(frame .scan (by decide)).trans same.scan, (frame .store (by decide)).trans same.store,
    (frame .floor (by decide)).trans same.floor, overload.trans same.overload⟩

/-- The record of a fan and the condition of its point, as its update leaves them. -/
def fanTurned (s : State) (f : Fan) (x : FanRec × Bool) : FanRec × Bool :=
  (x.1.updated s f, if (x.1.updated s f).failCond = x.1.failCond then x.2 else (x.1.updated s f).failCond)

theorem fanPoint_ne {f n : Fan} (ne : n ≠ f) : fanPoint f ≠ fanPoint n := by
  simp only [fanPoint, ne_eq, Fin.ext_iff] at ne ⊢
  omega

theorem fansUpdated_fan {l : List Fan} {f : Fan} (once : l.Nodup) (mem : f ∈ l) (same : SameFanInputs s t) :
    (forEach l updateFan t).cooler.fans[f] = t.cooler.fans[f].updated s f
    ∧ (forEach l updateFan t).alarm.points[fanPoint f].cond =
      if (t.cooler.fans[f].updated s f).failCond = t.cooler.fans[f].failCond then t.alarm.points[fanPoint f].cond
      else (t.cooler.fans[f].updated s f).failCond := by
  refine Prod.ext_iff.mp (forEach_at (f := updateFan) (g := fun t => (t.cooler.fans[f], t.alarm.points[fanPoint f].cond)) (F := fanTurned s f)
    (SameFanInputs s) once mem (fun n u h => h.step n) (fun n u _ ne => ?_) (fun u h => ?_) same)
  · exact Prod.ext (updateFan_other (Ne.symm ne)) (congrArg PointRec.cond (updateFan_points_other (fanPoint_ne ne)))
  · have updated := h.updated f u.cooler.fans[f]
    exact Prod.ext (updateFan_same.trans updated) (updateFan_cond.trans (by rw [updated]; rfl))

theorem fansUpdated_rest (l : List Fan) (t : State) : (forEach l updateFan t).cooler.besidesFans = t.cooler.besidesFans :=
  forEach_keeps (f := updateFan) (g := fun t => t.cooler.besidesFans) updateFan_rest l t

theorem fansUpdated_points {p : Point} (other : ∀ f, p ≠ fanPoint f) (l : List Fan) (t : State) :
    (forEach l updateFan t).alarm.points[p] = t.alarm.points[p] :=
  forEach_keeps (f := updateFan) (g := fun t => t.alarm.points[p]) (fun f _ => updateFan_points_other (other f)) l t

theorem fansUpdated_totals (l : List Fan) (t : State) : AlarmTotals t (forEach l updateFan t) :=
  forEach_preserves (P := AlarmTotals t) (fun f _ h => h.trans (updateFan_alarmTotals f _)) l (.of_shift rfl)

/-- The fans' part of the cooler's work. -/
def fansCycled (s : State) : State := forEach (List.finRange 8) updateFan (takeTables s)

theorem takeTables_fan (s : State) (f : Fan) :
    (takeTables s).cooler.fans[f] = { s.cooler.fans[f] with table := s.live.fans[f].table } := Vector.getElem_ofFn _

/-- What the fans' part leaves. -/
structure FansCycled (s t : State) : Prop where
  touches : Touches [.cooler, .alarm, .shift, .handed] s t
  fan : ∀ f : Fan, t.cooler.fans[f] = ({ s.cooler.fans[f] with table := s.live.fans[f].table } : FanRec).updated s f
  cond : ∀ f : Fan, t.alarm.points[fanPoint f].cond =
    if t.cooler.fans[f].failCond = s.cooler.fans[f].failCond then s.alarm.points[fanPoint f].cond
    else t.cooler.fans[f].failCond
  rest : t.cooler.besidesFans = s.cooler.besidesFans
  points : ∀ p : Point, (∀ f, p ≠ fanPoint f) → t.alarm.points[p] = s.alarm.points[p]
  totals : AlarmTotals s t

theorem fansCycled_cycled (s : State) : FansCycled s (fansCycled s) := by
  have same : SameFanInputs s (takeTables s) := ⟨rfl, rfl, rfl, rfl⟩
  have turned (f : Fan) := fansUpdated_fan (List.nodup_finRange 8) (List.mem_finRange f) same
  have fan (f : Fan) : (forEach (List.finRange 8) updateFan (takeTables s)).cooler.fans[f]
      = ({ s.cooler.fans[f] with table := s.live.fans[f].table } : FanRec).updated s f := by
    rw [(turned f).1, takeTables_fan]
  have touched : Touches [.cooler, .alarm, .shift, .handed] (takeTables s) (forEach (List.finRange 8) updateFan (takeTables s)) :=
    .each updateFan_touches _ _
  have rest := fansUpdated_rest (List.finRange 8) (takeTables s)
  have points (p : Point) (other : ∀ f, p ≠ fanPoint f) := fansUpdated_points other (List.finRange 8) (takeTables s)
  have totals := fansUpdated_totals (List.finRange 8) (takeTables s)
  have cond (f : Fan) := (turned f).2
  unfold fansCycled
  generalize forEach (List.finRange 8) updateFan (takeTables s) = t at *
  refine ⟨(takeTables_touches s).mono.trans touched, fan, fun f => ?_, rest, points, totals⟩
  refine (cond f).trans ?_
  rw [fan f, takeTables_fan]
  rfl

end

/-! ## The pressure test (R104) -/

section
variable (s : State)

/-- Is the pressure test met, by the rate of G1 and the average of its window? -/
def pressureMet : Bool :=
  decide (s.live.grates[(0 : Grate)].rateMax ≤ s.cooler.grates[(0 : Grate)].rate ∧ s.cooler.window ≠ []
    ∧ (s.live.cooler.overloadPressure : Int) < s.cooler.window.sum / s.cooler.window.length)

/-- The count of the pressure test. -/
def pressureCounted : Nat :=
  if pressureMet s = false then 0
  else if s.cooler.pressureCount < s.live.cooler.overloadTime then s.cooler.pressureCount + 1 else s.cooler.pressureCount

/-- The pressure condition. -/
def pressureFound : Bool := pressureMet s && decide (s.live.cooler.overloadTime ≤ pressureCounted s)

theorem pressureTestMet_eq : pressureTestMet s = pressureMet s := by
  unfold pressureTestMet windowAverage pressureMet
  cases s.cooler.window with
  | nil => simp
  | cons a l => simp

theorem pressureTest_eq : pressureTest s = s.onCooler fun x =>
    { x with pressureCount := pressureCounted s, pressureCond := pressureFound s } := by
  unfold pressureTest pressureFound pressureCounted
  rw [pressureTestMet_eq]
  cases pressureMet s <;> rfl

variable {s} {t : State}

theorem pressure_congr (rest : t.cooler.besidesFans = s.cooler.besidesFans) (store : t.store = s.store) :
    pressureCounted t = pressureCounted s ∧ pressureFound t = pressureFound s := by
  obtain ⟨grates, window, -, count, -⟩ := besidesFans_overload rest
  have live : t.live = s.live := congrArg Store.live store
  have met : pressureMet t = pressureMet s := by rw [pressureMet, live, grates, window, pressureMet]
  have counted : pressureCounted t = pressureCounted s := by rw [pressureCounted, met, live, count, pressureCounted]
  exact ⟨counted, by rw [pressureFound, met, live, counted, pressureFound]⟩

end

/-! ## OVERLOAD and its clear time (R104 to R106) -/

section
variable (s : State)

/-- Is one of the entering conditions present? -/
def enteringNow : Bool := s.cooler.pressureCond || decide (s.cooler.grates[(0 : Grate)].state = .stalled)
  || s.cooler.fans[(0 : Fan)].failCond || s.cooler.fans[(1 : Fan)].failCond || s.cooler.fans[(2 : Fan)].failCond
  || !s.scan.discrete[(4 : DiscreteIn)].debounced

theorem enteringConditions_eq : (enteringConditions s).any id = enteringNow s := by
  simp only [enteringConditions, List.any_cons, List.any_nil, id_eq, hotFanFailed, hotFans, Bool.or_false, enteringNow,
    Bool.or_assoc]
  rfl

/-- The clear count of a plan-cycle expiry in OVERLOAD. -/
def clearCounted : Nat := if enteringNow s then 0 else s.cooler.clearCount.getD 0 + 1

theorem clearTest_in (overload : s.cooler.overload = true) : clearTest s =
    let t := s.onCooler fun x => { x with clearCount := some (clearCounted s) }
    if s.live.cooler.clearTime ≤ clearCounted s then leaveOverload t else t := by
  unfold clearTest
  rw [if_pos overload, enteringConditions_eq]
  rfl

theorem clearTest_out (overload : s.cooler.overload = false) : clearTest s = s :=
  if_neg (by rw [overload]; exact Bool.false_ne_true)

theorem enterOverload_entering : enteringNow (enterOverload s) = enteringNow s := by
  have scan : (enterOverload s).scan = s.scan := enterOverload_touches s .scan (by decide)
  have fan (f : Fan) : (enterOverload s).cooler.fans[f].failCond = s.cooler.fans[f].failCond := by
    rw [enterOverload_fan]
    split <;> rfl
  rw [enteringNow, fan, fan, fan, scan, enterOverload_cooler]
  rfl

/-- The entry to OVERLOAD and the clear test, with an entering condition newly present or not. -/
def overloadTurned (newly : Bool) : State := clearTest (if newly then enteringEvent s else s)

variable {s} {newly : Bool} (implied : newly = true → enteringNow s = true)
include implied

/-- In OVERLOAD a plan-cycle expiry counts, and leaves at the clear time. -/
theorem overloadTurned_in (overload : s.cooler.overload = true) : overloadTurned s newly =
    let t := s.onCooler fun x => { x with clearCount := some (clearCounted s) }
    if s.live.cooler.clearTime ≤ clearCounted s then leaveOverload t else t := by
  unfold overloadTurned
  cases newly with
  | false => exact clearTest_in s overload
  | true =>
    have event : enteringEvent s = s.onCooler fun x => { x with clearCount := some 0 } := if_pos overload
    have count : clearCounted s = 0 := if_pos (implied rfl)
    have again : clearCounted (s.onCooler fun x => { x with clearCount := some 0 }) = 0 := if_pos (implied rfl)
    rw [if_pos rfl, event]
    refine (clearTest_in (s.onCooler fun x => { x with clearCount := some 0 }) overload).trans ?_
    rw [again, count]
    rfl

/-- Out of OVERLOAD a new entering condition enters it, and the clear count stays at 0. -/
theorem overloadTurned_enters (overload : s.cooler.overload = false) (is : newly = true)
    (time : 1 ≤ s.live.cooler.clearTime) :
    overloadTurned s newly = (enterOverload s).onCooler fun x => { x with clearCount := some 0 } := by
  have event : enteringEvent s = enterOverload s := if_neg (by rw [overload]; exact Bool.false_ne_true)
  have entered : (enterOverload s).cooler.overload = true := by rw [enterOverload_cooler]; rfl
  have count : clearCounted (enterOverload s) = 0 := if_pos ((enterOverload_entering s).trans (implied is))
  have live : (enterOverload s).live = s.live := congrArg Store.live (enterOverload_touches s .store (by decide))
  rw [overloadTurned, is, if_pos rfl, event, clearTest_in _ entered, count, live]
  exact if_neg (by omega)

omit implied in
theorem overloadTurned_out (overload : s.cooler.overload = false) (is : newly = false) : overloadTurned s newly = s := by
  rw [overloadTurned, is]
  exact clearTest_out s overload

end

end Sys2Proof.Machine
end

section
/-! PROOFS. The turn of OVERLOAD with its cap event, and all of the cooler's work of a plan-cycle expiry (R27, R99 to R106). -/

namespace Sys2Proof.Machine

-- One proof at a time: proofs that wait for one another hold a thread each, and the threads' memory is bounded.
set_option Elab.async false

/-! ## What a cap event may change of the plan and of the channels (R27, R28) -/

/-- The channels' records and entries as a cap event, or none, leaves them, and the demands. -/
structure CapEffect (s t : State) : Prop where
  target : ∀ c : Channel, t.chans[c] = { s.chans[c] with r := t.chans[c].r }
    ∧ (t.chans[c].r = s.chans[c].r ∧ t.planner.entries[c] = s.planner.entries[c]
      ∨ t.chans[c].r = t.planner.entries[c].rate)
  others : ∀ c : Channel, isReplanned s c = false ∨ s.planner.demand.main.hApp = 0 →
    t.chans[c] = s.chans[c] ∧ t.planner.entries[c] = s.planner.entries[c] ∧ t.planner.excesses[c] = s.planner.excesses[c]
  calciner : t.planner.demand.calciner = s.planner.demand.calciner
  main : t.planner.demand.main.hReq = s.planner.demand.main.hReq
    ∧ t.planner.demand.main.shortfallCount = s.planner.demand.main.shortfallCount
    ∧ t.planner.demand.main.shortfallCond = s.planner.demand.main.shortfallCond
  idle : s.planner.demand.main.hApp = 0 → t.planner.demand.main = s.planner.demand.main
  kept : t.planner.fuels = s.planner.fuels ∧ t.planner.planTimer = s.planner.planTimer

theorem CapEffect.of_same {s t : State} (planner : t.planner = s.planner) (chans : t.chans = s.chans) : CapEffect s t := by
  refine ⟨fun c => ?_, fun c _ => ?_, ?_, ?_, fun _ => ?_, ?_⟩ <;> rw [planner]
  · rw [chans]
    exact ⟨rfl, .inl ⟨rfl, rfl⟩⟩
  · rw [chans]
    exact ⟨rfl, rfl, rfl⟩
  · exact ⟨rfl, rfl, rfl⟩
  · exact ⟨rfl, rfl⟩

theorem CapEffect.replanned {s t : State} (effect : CapEffect s t) (store : t.store = s.store) (c : Channel) :
    isReplanned t c = isReplanned s c := by
  have chan := (effect.target c).1
  rw [isReplanned, isReplanned, feeds_congr store, chan]

theorem CapEffect.trans {s t u : State} (h : CapEffect s t) (k : CapEffect t u) (store : t.store = s.store) :
    CapEffect s u where
  target c := by
    obtain ⟨first, targets⟩ := h.target c
    obtain ⟨second, again⟩ := k.target c
    refine ⟨second.trans (by rw [first]), ?_⟩
    rcases again with ⟨target, entry⟩ | replans
    · rw [target, entry]
      exact targets
    · exact .inr replans
  others c out := by
    obtain ⟨chan, entry, excess⟩ := h.others c out
    obtain ⟨chan', entry', excess'⟩ := k.others c (out.imp (h.replanned store c).trans fun idle => by rw [h.idle idle, idle])
    exact ⟨chan'.trans chan, entry'.trans entry, excess'.trans excess⟩
  calciner := k.calciner.trans h.calciner
  main := ⟨k.main.1.trans h.main.1, k.main.2.1.trans h.main.2.1, k.main.2.2.trans h.main.2.2⟩
  idle idle := (k.idle (by rw [h.idle idle, idle])).trans (h.idle idle)
  kept := ⟨k.kept.1.trans h.kept.1, k.kept.2.trans h.kept.2⟩

theorem capEvent_effect (cap : Nat) (s : State) : CapEffect s (capEvent cap s) := by
  rcases Nat.lt_or_ge cap s.planner.demand.main.hApp with lowers | keeps
  · obtain ⟨-, demand, fuels, timer⟩ := capEvent_planner lowers
    have channel := capEvent_channel lowers
    have untouched := fun c (out : isReplanned s c = false) => capEvent_untouched cap out
    generalize capEvent cap s = t at *
    refine ⟨fun c => ?_, fun c out => untouched c (out.resolve_right (by omega)), by rw [demand], by rw [demand]; exact ⟨rfl, rfl, rfl⟩,
      fun none => absurd none (by omega), fuels, timer⟩
    by_cases planned : isReplanned s c = true
    · obtain ⟨-, -, chan⟩ := channel c
      rw [planned, if_pos rfl] at chan
      rw [chan]
      exact ⟨rfl, .inr rfl⟩
    · obtain ⟨chan, entry, -⟩ := untouched c ((Bool.not_eq_true _).mp planned)
      rw [chan]
      exact ⟨rfl, .inl ⟨rfl, entry⟩⟩
  · rw [capEvent_keeps keeps]
    exact ⟨fun c => ⟨rfl, .inl ⟨rfl, rfl⟩⟩, fun c _ => ⟨rfl, rfl, rfl⟩, rfl, ⟨rfl, rfl, rfl⟩, fun _ => rfl, ⟨rfl, rfl⟩⟩

/-! ## The entry to OVERLOAD and the exit (R105, R106) -/

/-- The common part of both: the cap event, the dampers of F1 to F3, and point 70. -/
def capTurned (o : Bool) (cap : Nat) (s : State) : State :=
  reportCond (pt 70) o (forEach hotFans computeDamper (capEvent cap (s.onCooler fun x => { x with overload := o, cap := cap })))

section
variable (o : Bool) (cap : Nat) (s : State)

theorem enterOverload_turned : enterOverload s =
    (capTurned true (overloadCap s) s).onCooler fun x => { x with clearCount := some 0 } := rfl

theorem leaveOverload_turned : leaveOverload s = (capTurned false 250000 s).onCooler fun x => { x with clearCount := none } := rfl

theorem capTurned_touches : Touches [.cooler, .planner, .chans, .alarm, .shift, .handed] s (capTurned o cap s) :=
  ((((onCooler_touches _ s).mono.trans (capEvent_touches _ _).mono).trans
    (Touches.each computeDamper_touches hotFans _).mono).trans (reportCond_touches _ _ _).mono)

theorem hotDampers_touches : Touches [.cooler] s (forEach hotFans computeDamper s) := .each computeDamper_touches hotFans s

theorem capTurned_cooler : (capTurned o cap s).cooler =
    ({ s.cooler with overload := o, cap := cap } : Cooler).hotDampered s := by
  let u : State := s.onCooler fun x => { x with overload := o, cap := cap }
  have capped := capEvent_touches cap u
  have cooler : (capEvent cap u).cooler = u.cooler := capped .cooler (by decide)
  have dampered : (forEach hotFans computeDamper (capEvent cap u)).cooler = u.cooler.hotDampered s := by
    rw [hotDampers_cooler, cooler]
    unfold Cooler.hotDampered
    simp only [FanRec.dampered_congr _ (capped .store (by decide)) (capped .floor (by decide))]
    rfl
  exact (reportCond_touches _ _ _ .cooler (by decide)).trans dampered

theorem capTurned_fan (f : Fan) : (capTurned o cap s).cooler.fans[f] =
    if isHot f then s.cooler.fans[f].dampered o s f else s.cooler.fans[f] := by
  rw [capTurned_cooler]
  exact Vector.getElem_ofFn _

theorem capTurned_planner : (capTurned o cap s).planner =
    (capEvent cap (s.onCooler fun x => { x with overload := o, cap := cap })).planner :=
  (reportCond_touches _ _ _ .planner (by decide)).trans (hotDampers_touches _ .planner (by decide))

theorem capTurned_chans : (capTurned o cap s).chans =
    (capEvent cap (s.onCooler fun x => { x with overload := o, cap := cap })).chans :=
  (reportCond_touches _ _ _ .chans (by decide)).trans (hotDampers_touches _ .chans (by decide))

theorem capTurned_effect : CapEffect s (capTurned o cap s) := by
  have planner := capTurned_planner o cap s
  have chans := capTurned_chans o cap s
  have effect := capEvent_effect cap (s.onCooler fun x => { x with overload := o, cap := cap })
  generalize capTurned o cap s = t at *
  obtain ⟨target, others, calciner, main, idle, kept⟩ := effect
  rw [← planner] at calciner main idle kept
  exact ⟨fun c => by rw [chans, planner]; exact target c, fun c out => by rw [chans, planner]; exact others c out, calciner, main,
    idle, kept⟩

theorem capTurned_demand : (capTurned o cap s).planner.hCap = cap
    ∧ (capTurned o cap s).planner.demand.main.hApp = min s.planner.demand.main.hApp cap := by
  rw [capTurned_planner]
  have demand := capEvent_demand cap (s.onCooler fun x => { x with overload := o, cap := cap })
  exact ⟨demand.1, demand.2.1⟩

theorem capTurned_alarm : (forEach hotFans computeDamper (capEvent cap
    (s.onCooler fun x => { x with overload := o, cap := cap }))).alarm = s.alarm :=
  (hotDampers_touches _ .alarm (by decide)).trans (capEvent_touches cap _ .alarm (by decide))

theorem capTurned_cond : (capTurned o cap s).alarm.points[pt 70].cond = o :=
  (cond_of_reportCond (pt 70) (pt 70) o _).trans (if_pos rfl)

theorem capTurned_points {p : Point} (ne : p ≠ pt 70) : (capTurned o cap s).alarm.points[p] = s.alarm.points[p] :=
  (reportCond_points_other o _ ne).trans (points_congr (capTurned_alarm o cap s) p)

theorem capTurned_totals : AlarmTotals s (capTurned o cap s) := by
  have before : Touches [.cooler, .planner, .chans] s (forEach hotFans computeDamper (capEvent cap
      (s.onCooler fun x => { x with overload := o, cap := cap }))) :=
    ((onCooler_touches _ s).mono.trans (capEvent_touches _ _).mono).trans (hotDampers_touches _).mono
  exact before.alarmTotals.trans (reportCond_alarmTotals (pt 70) o _)

/-- What the turn of OVERLOAD leaves at any clear time. -/
structure TurnEffect (s t : State) : Prop where
  touches : Touches [.cooler, .planner, .chans, .alarm, .shift, .handed] s t
  cap : CapEffect s t
  points : ∀ p : Point, p ≠ pt 70 → t.alarm.points[p] = s.alarm.points[p]
  totals : AlarmTotals s t

variable {s} {t u : State}

theorem TurnEffect.trans (h : TurnEffect s t) (k : TurnEffect t u) : TurnEffect s u where
  touches := h.touches.trans k.touches
  cap := h.cap.trans k.cap (h.touches .store (by decide))
  points p ne := (k.points p ne).trans (h.points p ne)
  totals := h.totals.trans k.totals

theorem onCooler_turnEffect (f : Cooler → Cooler) (s : State) : TurnEffect s (s.onCooler f) :=
  ⟨(onCooler_touches f s).mono, .of_same rfl rfl, fun _ _ => rfl, .of_shift rfl⟩

theorem capTurned_turnEffect (o : Bool) (cap : Nat) (s : State) : TurnEffect s (capTurned o cap s) :=
  ⟨capTurned_touches o cap s, capTurned_effect o cap s, fun _ ne => capTurned_points o cap s ne, capTurned_totals o cap s⟩

theorem TurnEffect.ite {p : Prop} [Decidable p] (h : TurnEffect s t) (k : TurnEffect s u) :
    TurnEffect s (if p then t else u) := by
  split <;> assumption

theorem enterOverload_turnEffect (s : State) : TurnEffect s (enterOverload s) := by
  rw [enterOverload_turned]
  exact (capTurned_turnEffect true _ s).trans (onCooler_turnEffect _ _)

theorem leaveOverload_turnEffect (s : State) : TurnEffect s (leaveOverload s) := by
  rw [leaveOverload_turned]
  exact (capTurned_turnEffect false 250000 s).trans (onCooler_turnEffect _ _)

theorem enteringEvent_turnEffect (s : State) : TurnEffect s (enteringEvent s) :=
  .ite (onCooler_turnEffect _ s) (enterOverload_turnEffect s)

theorem clearTest_turnEffect (s : State) : TurnEffect s (clearTest s) :=
  .ite (.ite ((onCooler_turnEffect _ s).trans (leaveOverload_turnEffect _)) (onCooler_turnEffect _ s)) (onCooler_turnEffect id s)

/-- The entry, the clear count and the exit. -/
theorem overloadTurned_turnEffect (newly : Bool) (s : State) : TurnEffect s (overloadTurned s newly) :=
  .trans (.ite (enteringEvent_turnEffect s) (onCooler_turnEffect id s)) (clearTest_turnEffect _)

/-- With a clear time of 0 no expiry leaves OVERLOAD in force. -/
theorem overloadTurned_zero (time : s.live.cooler.clearTime = 0) (newly : Bool) :
    (overloadTurned s newly).cooler.overload = false := by
  have start : TurnEffect s (if newly then enteringEvent s else s) :=
    .ite (enteringEvent_turnEffect s) (onCooler_turnEffect id s)
  have live : (if newly then enteringEvent s else s).live = s.live := congrArg Store.live (start.touches .store (by decide))
  unfold overloadTurned
  generalize (if newly then enteringEvent s else s) = v at *
  cases overload : v.cooler.overload with
  | false => rw [clearTest_out v overload, overload]
  | true =>
    have full : v.live.cooler.clearTime ≤ clearCounted v := by rw [live, time]; exact Nat.zero_le _
    rw [clearTest_in v overload]
    dsimp only
    rw [if_pos full, leaveOverload_turned]
    exact (congrArg Cooler.overload (capTurned_cooler false 250000 _) :)

end

end Sys2Proof.Machine
end

section
/-! PROOFS. The cooler's work of a plan-cycle expiry as one step (R99 to R106). -/

namespace Sys2Proof.Machine

-- One proof at a time: proofs that wait for one another hold a thread each, and the threads' memory is bounded.
set_option Elab.async false

/-! ## The turn of OVERLOAD (R104 to R106) -/

/-- Does the cooler leave OVERLOAD at its clear time? -/
def leavesNow (s : State) : Bool := s.cooler.overload && decide (s.live.cooler.clearTime ≤ clearCounted s)

/-- Is the cooler in OVERLOAD after the turn? -/
def overloadAfter (s : State) (newly : Bool) : Bool := (s.cooler.overload || newly) && !leavesNow s

/-- What the turn of OVERLOAD leaves. -/
structure Turned (s : State) (newly : Bool) (t : State) : Prop where
  kept : t.cooler.grates = s.cooler.grates ∧ t.cooler.window = s.cooler.window
    ∧ t.cooler.pressureCount = s.cooler.pressureCount ∧ t.cooler.pressureCond = s.cooler.pressureCond
  overload : t.cooler.overload = overloadAfter s newly
  clearCount : t.cooler.clearCount = if overloadAfter s newly then some (clearCounted s)
    else if s.cooler.overload then none else s.cooler.clearCount
  stays : overloadAfter s newly = s.cooler.overload →
    t.cooler.cap = s.cooler.cap ∧ t.planner = s.planner ∧ t.chans = s.chans
  leaves : leavesNow s = true → t.cooler.cap = 250000 ∧ t.planner.hCap = 250000
  enters : overloadAfter s newly = true → s.cooler.overload = false → t.cooler.cap = overloadCap s
    ∧ t.planner.hCap = overloadCap s ∧ t.planner.demand.main.hApp = min s.planner.demand.main.hApp (overloadCap s)
  fan : ∀ f : Fan, t.cooler.fans[f] = if overloadAfter s newly ≠ s.cooler.overload ∧ isHot f = true
    then s.cooler.fans[f].dampered (overloadAfter s newly) s f else s.cooler.fans[f]
  cond : t.alarm.points[pt 70].cond =
    if overloadAfter s newly = s.cooler.overload then s.alarm.points[pt 70].cond else overloadAfter s newly

section
variable {s : State} {newly : Bool}

/-- OVERLOAD stands, or stays out, and at most the clear count has moved. -/
theorem turned_stays {count : Option Nat} (stands : overloadAfter s newly = s.cooler.overload)
    (counts : count = if s.cooler.overload then some (clearCounted s) else s.cooler.clearCount) :
    Turned s newly (s.onCooler fun x => { x with clearCount := count }) where
  kept := ⟨rfl, rfl, rfl, rfl⟩
  overload := stands.symm
  clearCount := by
    rw [stands]
    cases overload : s.cooler.overload with
    | false => rw [overload] at counts; exact counts
    | true => rw [overload] at counts; exact counts
  stays _ := ⟨rfl, rfl, rfl⟩
  leaves left := by
    unfold overloadAfter at stands
    rw [left, Bool.not_true, Bool.and_false] at stands
    unfold leavesNow at left
    rw [← stands] at left
    exact absurd left Bool.false_ne_true
  enters inside outside := absurd (inside.symm.trans (stands.trans outside)) (Ne.symm Bool.false_ne_true)
  fan f := (if_neg fun moved => moved.1 stands).symm
  cond := (if_pos stands).symm

/-- A cap event with the dampers and point 70 turns OVERLOAD. -/
theorem turned_moves {cap : Nat} (counted : Option Nat) {count : Option Nat} (moves : overloadAfter s newly ≠ s.cooler.overload)
    (counts : count = if overloadAfter s newly then some (clearCounted s) else none)
    (enters : overloadAfter s newly = true → cap = overloadCap s) (leaves : overloadAfter s newly = false → cap = 250000) :
    Turned s newly ((capTurned (overloadAfter s newly) cap (s.onCooler fun x => { x with clearCount := counted })).onCooler
      fun x => { x with clearCount := count }) := by
  have cooler := capTurned_cooler (overloadAfter s newly) cap (s.onCooler fun x => { x with clearCount := counted })
  have fan := capTurned_fan (overloadAfter s newly) cap (s.onCooler fun x => { x with clearCount := counted })
  have demand := capTurned_demand (overloadAfter s newly) cap (s.onCooler fun x => { x with clearCount := counted })
  have cond := capTurned_cond (overloadAfter s newly) cap (s.onCooler fun x => { x with clearCount := counted })
  generalize capTurned (overloadAfter s newly) cap (s.onCooler fun x => { x with clearCount := counted }) = u at *
  have out : overloadAfter s newly = false → s.cooler.overload = true := fun is => by
    rw [is] at moves
    exact (Bool.not_eq_false _).mp (Ne.symm moves)
  have capped : u.cooler.cap = cap := (congrArg Cooler.cap cooler :)
  refine
    { kept := ⟨(congrArg Cooler.grates cooler :), (congrArg Cooler.window cooler :), (congrArg Cooler.pressureCount cooler :),
        (congrArg Cooler.pressureCond cooler :)⟩
      overload := (congrArg Cooler.overload cooler :)
      clearCount := ?_
      stays := fun same => absurd same moves
      leaves := fun left => ?_
      enters := fun inside _ => ?_
      fan := fun f => (fan f).trans (if_congr (and_iff_right moves).symm rfl rfl)
      cond := cond.trans (if_neg moves).symm }
  · refine Eq.trans (b := count) rfl (counts.trans ?_)
    cases after : overloadAfter s newly with
    | false => rw [out after]; rfl
    | true => rfl
  · have after : overloadAfter s newly = false := by rw [overloadAfter, left, Bool.not_true, Bool.and_false]
    exact ⟨capped.trans (leaves after), demand.1.trans (leaves after)⟩
  · rw [← enters inside]
    exact ⟨capped, demand⟩

theorem overloadTurned_turned (implied : newly = true → enteringNow s = true) (time : 1 ≤ s.live.cooler.clearTime) :
    Turned s newly (overloadTurned s newly) := by
  cases overload : s.cooler.overload with
  | true =>
    have turned := overloadTurned_in implied overload
    by_cases full : s.live.cooler.clearTime ≤ clearCounted s
    · have after : overloadAfter s newly = false := by
        rw [overloadAfter, leavesNow, overload, decide_eq_true full]
        exact Bool.and_false _
      dsimp only at turned
      rw [if_pos full] at turned
      have moved := turned_moves (s := s) (newly := newly) (cap := 250000) (some (clearCounted s)) (count := none)
        (by rw [after, overload]; exact Bool.false_ne_true) (by rw [after]; rfl)
        (fun inside => absurd (after.symm.trans inside) Bool.false_ne_true) (fun _ => rfl)
      rw [after, ← leaveOverload_turned] at moved
      rw [turned]
      exact moved
    · have after : overloadAfter s newly = true := by
        rw [overloadAfter, leavesNow, overload, decide_eq_false full]
        rfl
      dsimp only at turned
      rw [if_neg full] at turned
      rw [turned]
      exact turned_stays (after.trans overload.symm) (by rw [overload]; rfl)
  | false =>
    have stays : leavesNow s = false := by rw [leavesNow, overload, Bool.false_and]
    have after : overloadAfter s newly = newly := by rw [overloadAfter, stays, overload, Bool.false_or, Bool.not_false, Bool.and_true]
    cases is : newly with
    | false =>
      rw [overloadTurned_out overload rfl]
      rw [is] at after
      exact turned_stays (count := s.cooler.clearCount) (after.trans overload.symm) (by rw [overload]; rfl)
    | true =>
      rw [is] at after
      have count : clearCounted s = 0 := if_pos (implied is)
      have moved := turned_moves (s := s) (newly := true) (cap := overloadCap s) s.cooler.clearCount (count := some 0)
        (by rw [after, overload]; exact Ne.symm Bool.false_ne_true) (by rw [after, count]; rfl)
        (fun _ => rfl) (fun out => absurd (out.symm.trans after) Bool.false_ne_true)
      have same : (s.onCooler fun x => { x with clearCount := s.cooler.clearCount }) = s := rfl
      have once (u : State) : ((u.onCooler fun x => { x with clearCount := some 0 }).onCooler fun x =>
        { x with clearCount := some 0 }) = u.onCooler fun x => { x with clearCount := some 0 } := rfl
      rw [after, same] at moved
      rw [overloadTurned_enters (fun _ => implied is) overload rfl time, enterOverload_turned, once]
      exact moved

end

end Sys2Proof.Machine
end

section
/-! PROOFS. What the cooler's work of a plan-cycle expiry leaves of each fan and of the cooler, told by the state it starts from
(R99 to R106). -/

namespace Sys2Proof.Machine

-- One proof at a time: proofs that wait for one another hold a thread each, and the threads' memory is bounded.
set_option Elab.async false

section
variable (s : State) (f : Fan)

/-! ## A fan, told by the state that the expiry finds -/

/-- The flow of a fan as its input measures it. -/
def fanFlow : AnalogRec := s.scan.analog[flowInput f]

/-- Is the fan updated (R101)? -/
def fanUpdates : Bool := s.cooler.fans[f].on && decide (s.floor.mode = .normal ∨ s.floor.mode = .fallback)

/-- Is the fan judged by its flow (R101)? -/
def fanJudges : Bool := fanUpdates s f && decide ((fanFlow s f).quality = .good ∨ (fanFlow s f).quality = .forced)

/-- Is the flow below the failure level? -/
def fanLow : Bool := decide ((fanFlow s f).value < (s.live.fans[f].failLevel : Int))

/-- Does the damper stand open beyond 100? -/
def fanOpen : Bool := decide (100 < s.cooler.fans[f].damper)

/-- The failure count after the expiry. -/
def fanCount : Nat :=
  if fanJudges s f = false then s.cooler.fans[f].failCount
  else if fanLow s f && fanOpen s f then
    if s.cooler.fans[f].failCount < s.live.fans[f].failTime then s.cooler.fans[f].failCount + 1
    else s.cooler.fans[f].failCount
  else 0

/-- The failure condition after the expiry. -/
def fanFails : Bool :=
  if fanJudges s f = false then s.cooler.fans[f].failCond
  else fanLow s f && (s.cooler.fans[f].failCond || (fanOpen s f && decide (s.live.fans[f].failTime ≤ fanCount s f)))

/-- The trim after the expiry. -/
def fanTrim : Int :=
  if fanJudges s f = false then s.cooler.fans[f].trim
  else max (-100) (min 100 (s.cooler.fans[f].trim
    + Int.tdiv (((s.cooler.fans[f].effTarget : Int) - (fanFlow s f).value) * s.live.fans[f].gain) 1000))

/-- The record of the fan after the expiry, but for its effective target and damper. -/
def fanKept : FanRec :=
  { s.cooler.fans[f] with
    failCount := fanCount s f, failCond := fanFails s f, trim := fanTrim s f, table := s.live.fans[f].table }

variable {s f}

theorem fanKept_unjudged (unjudged : fanJudges s f = false) :
    fanKept s f = { s.cooler.fans[f] with table := s.live.fans[f].table } := by
  rw [fanKept, fanCount, if_pos unjudged, fanFails, if_pos unjudged, fanTrim, if_pos unjudged]

theorem fanKept_judged (judged : fanJudges s f = true) : fanKept s f =
    (({ s.cooler.fans[f] with table := s.live.fans[f].table } : FanRec).judged (fanFlow s f).value s.live.fans[f]).trimmed
      (fanFlow s f).value s.live.fans[f].gain := by
  have judges : ¬fanJudges s f = false := by rw [judged]; exact Ne.symm Bool.false_ne_true
  have trims : fanTrim s f = clampInt (-100) 100 (s.cooler.fans[f].trim
      + truncDiv (((s.cooler.fans[f].effTarget : Int) - (fanFlow s f).value) * s.live.fans[f].gain) 1000) := by
    rw [clampInt_eq _ _ _ (by omega), fanTrim, if_neg judges]
    rfl
  rw [fanKept, fanFails, if_neg judges, trims]
  by_cases low : (fanFlow s f).value < (s.live.fans[f].failLevel : Int)
  · have isLow : fanLow s f = true := decide_eq_true low
    by_cases moved : 100 < s.cooler.fans[f].damper
    · have isOpen : fanOpen s f = true := decide_eq_true moved
      have count : fanCount s f = if s.cooler.fans[f].failCount < s.live.fans[f].failTime then s.cooler.fans[f].failCount + 1
          else s.cooler.fans[f].failCount := by
        rw [fanCount, if_neg judges, isLow, isOpen]
        rfl
      rw [FanRec.judged, if_pos low, if_pos moved, isLow, isOpen, Bool.true_and, Bool.true_and, count]
      rfl
    · have isOpen : fanOpen s f = false := decide_eq_false moved
      have count : fanCount s f = 0 := by
        rw [fanCount, if_neg judges, isLow, isOpen]
        rfl
      rw [FanRec.judged, if_pos low, if_neg moved, isLow, isOpen, Bool.false_and, Bool.or_false, Bool.true_and, count]
      rfl
  · have isLow : fanLow s f = false := decide_eq_false low
    have count : fanCount s f = 0 := by
      rw [fanCount, if_neg judges, isLow]
      rfl
    rw [FanRec.judged, if_neg low, isLow, Bool.false_and, count]
    rfl

/-- The update of a fan, its table taken, is what the expiry's own record says. -/
theorem fan_updated : ({ s.cooler.fans[f] with table := s.live.fans[f].table } : FanRec).updated s f =
    if fanUpdates s f then (fanKept s f).dampered s.cooler.overload s f else fanKept s f := by
  have same : ({ s.cooler.fans[f] with table := s.live.fans[f].table } : FanRec).updates s = fanUpdates s f := rfl
  rw [FanRec.updated, same]
  cases updates : fanUpdates s f with
  | false =>
    rw [fanKept_unjudged (by rw [fanJudges, updates, Bool.false_and])]
    rfl
  | true =>
    have usable : (fanFlow s f).quality.usable = fanJudges s f := by rw [fanJudges, updates]; rfl
    have measured : ({ s.cooler.fans[f] with table := s.live.fans[f].table } : FanRec).measured s f = fanKept s f := by
      cases judges : fanJudges s f with
      | false =>
        rw [fanKept_unjudged judges]
        exact if_neg (by rw [judges] at usable; exact fun h => Bool.false_ne_true (usable.symm.trans h))
      | true =>
        rw [fanKept_judged judges]
        exact if_pos (usable.trans judges)
    rw [if_pos rfl, if_pos rfl, measured]

theorem fan_updated_failCond : (({ s.cooler.fans[f] with table := s.live.fans[f].table } : FanRec).updated s f).failCond
    = fanFails s f := by
  rw [fan_updated]
  split <;> rfl

end

end Sys2Proof.Machine
end

section
/-! PROOFS. The cooler's work of a plan-cycle expiry, told by the state it starts from (R99 to R106). -/

namespace Sys2Proof.Machine

-- One proof at a time: proofs that wait for one another hold a thread each, and the threads' memory is bounded.
set_option Elab.async false

/-! ## What the cooler measures (R99 to R101, R104) -/

/-- What the fans' part and the pressure test leave. -/
structure Measured (s t : State) : Prop where
  touches : Touches [.cooler, .alarm, .shift, .handed] s t
  fan : ∀ f : Fan, t.cooler.fans[f] = ({ s.cooler.fans[f] with table := s.live.fans[f].table } : FanRec).updated s f
  fanCond : ∀ f : Fan, t.alarm.points[fanPoint f].cond =
    if fanFails s f = s.cooler.fans[f].failCond then s.alarm.points[fanPoint f].cond else fanFails s f
  rest : t.cooler.grates = s.cooler.grates ∧ t.cooler.window = s.cooler.window ∧ t.cooler.overload = s.cooler.overload
    ∧ t.cooler.clearCount = s.cooler.clearCount ∧ t.cooler.cap = s.cooler.cap
  pressure : t.cooler.pressureCount = pressureCounted s ∧ t.cooler.pressureCond = pressureFound s
  points : ∀ p : Point, (∀ f, p ≠ fanPoint f) → t.alarm.points[p] = s.alarm.points[p]
  totals : AlarmTotals s t

theorem measured_of_cycled {s t : State} (h : FansCycled s t) : Measured s (pressureTest t) := by
  obtain ⟨grates, window, overload, -, -, clearCount, cap⟩ := besidesFans_overload h.rest
  rw [pressureTest_eq]
  exact
    { touches := h.touches.trans (onCooler_touches _ t).mono
      fan := h.fan
      fanCond := fun f => (h.cond f).trans (by rw [h.fan f, fan_updated_failCond])
      rest := ⟨grates, window, overload, clearCount, cap⟩
      pressure := pressure_congr h.rest (h.touches .store (by decide))
      points := h.points
      totals := h.totals.trans (onCooler_touches _ t).alarmTotals }

section
variable (s : State)

/-- Is a pressure or hot fan condition newly present? -/
def newlyFound : Bool := (pressureFound s && !s.cooler.pressureCond) || (fanFails s 0 && !s.cooler.fans[(0 : Fan)].failCond)
  || (fanFails s 1 && !s.cooler.fans[(1 : Fan)].failCond) || (fanFails s 2 && !s.cooler.fans[(2 : Fan)].failCond)

/-- Is an entering condition present after the measurements? -/
def enteringFound : Bool := pressureFound s || decide (s.cooler.grates[(0 : Grate)].state = .stalled) || fanFails s 0
  || fanFails s 1 || fanFails s 2 || !s.scan.discrete[(4 : DiscreteIn)].debounced

/-- The clear count after the expiry, in OVERLOAD. -/
def clearFound : Nat := if enteringFound s then 0 else s.cooler.clearCount.getD 0 + 1

/-- Does the cooler leave OVERLOAD? -/
def leavesFound : Bool := s.cooler.overload && decide (s.live.cooler.clearTime ≤ clearFound s)

/-- Is the cooler in OVERLOAD after the expiry? -/
def overloadFound : Bool := (s.cooler.overload || newlyFound s) && !leavesFound s

theorem newlyFound_entering (newly : newlyFound s = true) : enteringFound s = true := by
  simp only [newlyFound, Bool.or_eq_true, Bool.and_eq_true] at newly
  simp only [enteringFound, Bool.or_eq_true]
  rcases newly with ((⟨found, -⟩ | ⟨found, -⟩) | ⟨found, -⟩) | ⟨found, -⟩ <;> simp only [found, true_or, or_true]

variable {s} {t : State}

theorem Measured.failCond (h : Measured s t) (f : Fan) : t.cooler.fans[f].failCond = fanFails s f := by
  rw [h.fan f, fan_updated_failCond]

theorem Measured.entering (h : Measured s t) : enteringNow t = enteringFound s := by
  rw [enteringNow, h.failCond, h.failCond, h.failCond, h.pressure.2, h.rest.1, h.touches .scan (by decide), enteringFound]

theorem Measured.clear (h : Measured s t) : clearCounted t = clearFound s := by
  obtain ⟨-, -, -, clearCount, -⟩ := h.rest
  rw [clearCounted, h.entering, clearCount, clearFound]

theorem Measured.leaves (h : Measured s t) : leavesNow t = leavesFound s := by
  obtain ⟨-, -, overload, -, -⟩ := h.rest
  have live : t.live = s.live := congrArg Store.live (h.touches .store (by decide))
  rw [leavesNow, overload, live, h.clear, leavesFound]

theorem Measured.after (h : Measured s t) : overloadAfter t (newlyFound s) = overloadFound s := by
  obtain ⟨-, -, overload, -, -⟩ := h.rest
  rw [overloadAfter, overload, h.leaves, overloadFound]

/-- The overload second of an expiry that finds OVERLOAD (R106). -/
def overloadCounted (s : State) : State := if s.cooler.overload then addOverloadSecond s else s

/-- The cooler's work from the measurements on. -/
def coolerFinished (s t : State) : State :=
  let newHot := hotFans.any fun f => t.cooler.fans[f].failCond && !s.cooler.fans[f].failCond
  let newPressure := t.cooler.pressureCond && !s.cooler.pressureCond
  overloadCounted (overloadTurned t (newHot || newPressure))

theorem coolerCycle_eq (s : State) : coolerCycle s = coolerFinished s (pressureTest (fansCycled s)) := by
  unfold coolerCycle coolerFinished overloadCounted overloadTurned fansCycled
  dsimp only

theorem Measured.finished (h : Measured s t) : coolerFinished s t = overloadCounted (overloadTurned t (newlyFound s)) := by
  have newly : ((hotFans.any fun f => t.cooler.fans[f].failCond && !s.cooler.fans[f].failCond)
      || (t.cooler.pressureCond && !s.cooler.pressureCond)) = newlyFound s := by
    rw [h.pressure.2]
    simp only [hotFans, List.any_cons, List.any_nil, Bool.or_false, h.failCond, newlyFound]
    simp only [Bool.or_comm, Bool.or_assoc]
  rw [← newly]
  rfl

end

/-! ## All of the cooler's work -/

section
variable {s t u : State}

theorem CapEffect.of_start (effect : CapEffect t u) (planner : t.planner = s.planner) (chans : t.chans = s.chans)
    (store : t.store = s.store) : CapEffect s u := by
  have same (c : Channel) : isReplanned t c = isReplanned s c := by rw [isReplanned, isReplanned, feeds_congr store, chans]
  obtain ⟨target, others, calciner, main, idle, kept⟩ := effect
  rw [planner] at calciner main idle kept
  rw [chans, planner] at target
  refine ⟨target, fun c out => ?_, calciner, main, idle, kept⟩
  have other := others c (by rw [same, planner]; exact out)
  rw [planner, chans] at other
  exact other

/-- What the cooler's work of an expiry leaves. -/
structure CoolerCycled (s t : State) : Prop where
  kept : t.cooler.grates = s.cooler.grates ∧ t.cooler.window = s.cooler.window
    ∧ t.cooler.pressureCount = pressureCounted s ∧ t.cooler.pressureCond = pressureFound s
  overload : t.cooler.overload = overloadFound s
  clearCount : t.cooler.clearCount = if overloadFound s then some (clearFound s)
    else if s.cooler.overload then none else s.cooler.clearCount
  stays : overloadFound s = s.cooler.overload →
    t.cooler.cap = s.cooler.cap ∧ t.planner = s.planner ∧ t.chans = s.chans
  leaves : leavesFound s = true → t.cooler.cap = 250000 ∧ t.planner.hCap = 250000
  enters : overloadFound s = true → s.cooler.overload = false → t.cooler.cap = overloadCap s
    ∧ t.planner.hCap = overloadCap s ∧ t.planner.demand.main.hApp = min s.planner.demand.main.hApp (overloadCap s)
  fan : ∀ f : Fan, t.cooler.fans[f] =
    if overloadFound s ≠ s.cooler.overload ∧ isHot f = true then (fanKept s f).dampered (overloadFound s) s f
    else if fanUpdates s f then (fanKept s f).dampered s.cooler.overload s f else fanKept s f
  fanCond : ∀ f : Fan, t.alarm.points[fanPoint f].cond =
    if fanFails s f = s.cooler.fans[f].failCond then s.alarm.points[fanPoint f].cond else fanFails s f
  cond : t.alarm.points[pt 70].cond =
    if overloadFound s = s.cooler.overload then s.alarm.points[pt 70].cond else overloadFound s
  seconds : t.shift.totals.overload =
    if overloadFound s then min (s.shift.totals.overload + 1) 4294967295 else s.shift.totals.overload

theorem dampered_dampered (o p : Bool) (s : State) (f : Fan) (x : FanRec) :
    (x.dampered o s f).dampered p s f = x.dampered p s f := rfl

theorem fanPoint_ne_seventy (f : Fan) : fanPoint f ≠ pt 70 := fun same => by
  have value : 70 + f.val = 69 := congrArg Fin.val same
  omega

theorem seventy_ne_fanPoint (f : Fan) : pt 70 ≠ fanPoint f := Ne.symm (fanPoint_ne_seventy f)

/-- The measurements and the turn of OVERLOAD together. -/
theorem turned_cycled (measured : Measured s t) (effect : TurnEffect t u) (turned : Turned t (newlyFound s) u) : CoolerCycled s (overloadCounted u) := by
  obtain ⟨grates, window, overload, clearCount, cap⟩ := measured.rest
  have store : t.store = s.store := measured.touches .store (by decide)
  have planner : t.planner = s.planner := measured.touches .planner (by decide)
  have chans : t.chans = s.chans := measured.touches .chans (by decide)
  have share : overloadCap t = overloadCap s := overloadCap_congr planner (measured.touches .burns (by decide)) store
  have kept := turned.kept
  have after := turned.overload
  have counts := turned.clearCount
  have stays := turned.stays
  have leaves := turned.leaves
  have enters := turned.enters
  have cond := turned.cond
  have fan := turned.fan
  rw [measured.after] at after counts stays enters cond
  rw [measured.leaves] at leaves
  rw [measured.clear, overload, clearCount] at counts
  rw [overload] at cond enters
  rw [overload, cap, planner, chans] at stays
  rw [share, planner] at enters
  have totals := measured.totals.trans effect.totals
  have seconds : (overloadCounted u).shift.totals.overload =
      if overloadFound s then min (u.shift.totals.overload + 1) 4294967295 else u.shift.totals.overload := by
    rw [← after]
    unfold overloadCounted
    split <;> rfl
  have counted : Touches [.shift] u (overloadCounted u) := .ite (onTotals_touches _ u) (.refl _ u)
  have cooler : (overloadCounted u).cooler = u.cooler := counted .cooler (by decide)
  have plan : (overloadCounted u).planner = u.planner := counted .planner (by decide)
  have records : (overloadCounted u).chans = u.chans := counted .chans (by decide)
  have alarm : (overloadCounted u).alarm = u.alarm := counted .alarm (by decide)
  generalize overloadCounted u = w at *
  refine
    { kept := ?_, overload := cooler ▸ after, clearCount := cooler ▸ counts, stays := ?_, leaves := ?_, enters := ?_
      fan := fun f => ?_, fanCond := fun f => ?_, cond := ?_, seconds := ?_ }
  · rw [cooler, ← measured.pressure.1, ← measured.pressure.2, ← grates, ← window]
    exact kept
  · rw [cooler, plan, records]
    exact stays
  · rw [cooler, plan]
    exact leaves
  · rw [cooler, plan]
    exact enters
  · have floor : t.floor = s.floor := measured.touches .floor (by decide)
    rw [cooler, fan f, measured.after, overload, measured.fan f, fan_updated, FanRec.dampered_congr _ store floor]
    split
    · split
      · exact dampered_dampered _ _ _ _ _
      · rfl
    · rfl
  · rw [alarm, effect.points _ (fanPoint_ne_seventy f)]
    exact measured.fanCond f
  · rw [alarm, cond, measured.points _ seventy_ne_fanPoint]
  · rw [seconds, totals.overload]

/-- What the cooler's work leaves at any clear time. -/
structure CoolerEffect (s t : State) : Prop where
  touches : Touches [.cooler, .planner, .chans, .alarm, .shift, .handed] s t
  cap : CapEffect s t
  points : ∀ p : Point, p ≠ pt 70 → (∀ f, p ≠ fanPoint f) → t.alarm.points[p] = s.alarm.points[p]
  totals : t.shift.totals.chans = s.shift.totals.chans
  zero : s.live.cooler.clearTime = 0 → t.cooler.overload = false

theorem overloadCounted_effect (measured : Measured s t) (effect : TurnEffect t u)
    (zero : s.live.cooler.clearTime = 0 → u.cooler.overload = false) : CoolerEffect s (overloadCounted u) := by
  have start := effect.cap.of_start (measured.touches .planner (by decide)) (measured.touches .chans (by decide))
    (measured.touches .store (by decide))
  have totals := measured.totals.trans effect.totals
  have touches := measured.touches.mono.trans effect.touches
  have points (p : Point) (seventy : p ≠ pt 70) (fan : ∀ f, p ≠ fanPoint f) :=
    (effect.points p seventy).trans (measured.points p fan)
  unfold overloadCounted
  split
  · exact ⟨touches.trans (onTotals_touches _ u).mono, ⟨start.target, start.others, start.calciner, start.main, start.idle,
      start.kept⟩, points, totals.chans, zero⟩
  · exact ⟨touches, start, points, totals.chans, zero⟩

theorem coolerCycle_effect (s : State) : CoolerEffect s (coolerCycle s) := by
  have measured := measured_of_cycled (fansCycled_cycled s)
  rw [coolerCycle_eq]
  generalize pressureTest (fansCycled s) = t at *
  have live : t.live = s.live := congrArg Store.live (measured.touches .store (by decide))
  rw [measured.finished]
  exact overloadCounted_effect measured (overloadTurned_turnEffect _ t) fun time => overloadTurned_zero (by rw [live, time]) _

theorem coolerCycle_cycled (time : 1 ≤ s.live.cooler.clearTime) : CoolerCycled s (coolerCycle s) := by
  have measured := measured_of_cycled (fansCycled_cycled s)
  rw [coolerCycle_eq]
  generalize pressureTest (fansCycled s) = t at *
  have live : t.live = s.live := congrArg Store.live (measured.touches .store (by decide))
  rw [measured.finished]
  exact turned_cycled measured (overloadTurned_turnEffect _ t) (overloadTurned_turned
    (fun newly => measured.entering.trans (newlyFound_entering s newly)) (by rw [live]; exact time))

end

end Sys2Proof.Machine
end

section
/-! PROOFS. The plan-cycle expiry: the plans, the dosing, the seconds and the cooler together (R21). -/

namespace Sys2Proof.Machine

-- One proof at a time: proofs that wait for one another hold a thread each, and the threads' memory is bounded.
set_option Elab.async false

/-! ## The seconds that a plan-cycle expiry counts (R15, R74, R157) -/

/-- Of the totaliser, neither a channel's totals nor the overload seconds have changed, and nothing outside it. -/
structure SecondsCounted (s t : State) : Prop where
  touches : Touches [.shift] s t
  chans : t.shift.totals.chans = s.shift.totals.chans
  overload : t.shift.totals.overload = s.shift.totals.overload

section
variable {s t u : State}

theorem SecondsCounted.refl (s : State) : SecondsCounted s s := ⟨.refl _ s, rfl, rfl⟩

theorem SecondsCounted.trans (h : SecondsCounted s t) (k : SecondsCounted t u) : SecondsCounted s u :=
  ⟨h.touches.trans k.touches, k.chans.trans h.chans, k.overload.trans h.overload⟩

theorem SecondsCounted.ite {p : Prop} [Decidable p] (h : SecondsCounted s t) (k : SecondsCounted s u) :
    SecondsCounted s (if p then t else u) := by
  split <;> assumption

theorem onTotals_counted (f : Totals → Totals) (s : State) (chans : (f s.shift.totals).chans = s.shift.totals.chans)
    (overload : (f s.shift.totals).overload = s.shift.totals.overload) : SecondsCounted s (s.onTotals f) :=
  ⟨onTotals_touches f s, chans, overload⟩

theorem forcedSecond_counted (s : State) : SecondsCounted s (forcedSecond s) := .ite (onTotals_counted _ s rfl rfl) (.refl s)

theorem firingSeconds_counted (s : State) : SecondsCounted s (firingSeconds s) :=
  forEach_preserves (P := SecondsCounted s)
    (fun _ _ h => .ite (h.trans (onTotals_counted _ _ rfl rfl)) h) bothBurners (.refl s)

theorem modeSecond_counted (s : State) : SecondsCounted s (modeSecond s) := by
  unfold modeSecond
  split
  · exact .refl s
  · exact onTotals_counted _ s rfl rfl
  · exact onTotals_counted _ s rfl rfl
  · exact onTotals_counted _ s rfl rfl

end

/-! ## The plan entries and the dosing (R28, R37, R52) -/

section
variable (s : State)

/-- The plan entry that a plan-cycle expiry gives a channel. -/
def entryAt (c : Channel) : PlanEntry :=
  match burnerOf s c with
  | none => emptyEntry
  | some b => entryPlanned b s c

/-- The cycle work of a channel on the entry just planned. -/
def workedAt (c : Channel) : State := cycleWork c (s.onEntry c fun _ => entryAt s c)

/-- The state in which the expiry restarts its timer (R21). -/
def restarted : State := s.onPlanner fun x => { x with planTimer := some 1000 }

/-- The state after the dosing and its seconds, from which the cooler starts. -/
def dosedAt : State := firingSeconds (forcedSecond (forEach (List.finRange 6) cycleWork (plansOf (restarted s))))

theorem planCycle_eq : planCycle (restarted s) = modeSecond (coolerCycle (dosedAt s)) := by
  unfold planCycle planAndDose dosedAt plansOf
  dsimp only

variable {s} {p e : State}

theorem restarted_samePlan (b : Burner) : SamePlan b s (restarted s) := ⟨rfl, rfl, rfl, rfl, rfl, fun _ _ => rfl⟩

/-- The points that neither a plan nor a channel's work reports. -/
def AwayFromDosing (q : Point) : Prop :=
  (∀ b, q ≠ shortfallPoint b) ∧ ∀ c, q ≠ deviationPoint c ∧ q ≠ faultPoint c ∧ q ≠ holdPoint c

/-- What the work of all channels leaves. -/
structure WorksDone (p e : State) : Prop where
  touches : Touches [.scan, .chans, .alarm, .shift, .handed] p e
  analog : e.scan.analog = p.scan.analog
  discrete : e.scan.discrete = p.scan.discrete
  points : ∀ q : Point, (∀ c, q ≠ deviationPoint c ∧ q ≠ faultPoint c ∧ q ≠ holdPoint c) → e.alarm.points[q] = p.alarm.points[q]
  overload : e.shift.totals.overload = p.shift.totals.overload
  alike : ∀ c u, Alike c u p → Alike c (cycleWork c u) e

theorem WorksDone.each (l : List Channel) (p : State) :
    Touches [.scan, .chans, .alarm, .shift, .handed] p (forEach l cycleWork p)
    ∧ (forEach l cycleWork p).scan.analog = p.scan.analog ∧ (forEach l cycleWork p).scan.discrete = p.scan.discrete
    ∧ (forEach l cycleWork p).shift.totals.overload = p.shift.totals.overload
    ∧ ∀ q : Point, (∀ c, q ≠ deviationPoint c ∧ q ≠ faultPoint c ∧ q ≠ holdPoint c) →
      (forEach l cycleWork p).alarm.points[q] = p.alarm.points[q] :=
  ⟨.each (fun c t => (cycleWork_confined c t).touches) l p,
    forEach_keeps (f := cycleWork) (g := fun t => t.scan.analog) (fun c t => (cycleWork_confined c t).analog) l p,
    forEach_keeps (f := cycleWork) (g := fun t => t.scan.discrete) (fun c t => (cycleWork_confined c t).discrete) l p,
    forEach_keeps (f := cycleWork) (g := fun t => t.shift.totals.overload) (fun c t => (cycleWork_confined c t).overload) l p,
    fun q away => forEach_keeps (f := cycleWork) (g := fun t => t.alarm.points[q])
      (fun c t => (cycleWork_confined c t).points q (away c).1 (away c).2.1 (away c).2.2) l p⟩

theorem cycleWorks_done {l : List Channel} (once : l.Nodup) (all : ∀ c, c ∈ l) (p : State) :
    WorksDone p (forEach l cycleWork p) := by
  obtain ⟨touches, analog, discrete, overload, points⟩ := WorksDone.each l p
  exact ⟨touches, analog, discrete, points, overload, fun c _ => cycleWorks_alike once (all c)⟩

/-! ## The state from which the cooler starts -/

/-- What plans, dosing and seconds leave. -/
structure Dosed (s e : State) : Prop where
  touches : Touches [.planner, .scan, .chans, .alarm, .shift, .handed] s e
  analog : e.scan.analog = s.scan.analog
  discrete : e.scan.discrete = s.scan.discrete
  points : ∀ q : Point, AwayFromDosing q → e.alarm.points[q] = s.alarm.points[q]
  overload : e.shift.totals.overload = s.shift.totals.overload
  demand : ∀ b, e.planner.demand.get b = demandMade b s
  planTimer : e.planner.planTimer = some 1000
  fuels : ∀ c : Channel, e.planner.fuels[c] = fuelOf s c
  entry : ∀ c : Channel, e.planner.entries[c] = entryAt s c
  excess : ∀ b, fires s b = true → ∀ c : Channel, feeds s c b = true → e.planner.excesses[c] = excessOf (planMade s b) c
  cond : ∀ b, e.alarm.points[shortfallPoint b].cond =
    if (demandMade b s).shortfallCond = (s.planner.demand.get b).shortfallCond then s.alarm.points[shortfallPoint b].cond
    else (demandMade b s).shortfallCond
  worked : ∀ c, Alike c (workedAt s c) e
  taken : ∀ c : Channel, e.chans[c].awaitsPlan = false ∧ e.scan.pulse[c] =
    { s.scan.pulse[c] with count := 0, lastTaken := s.scan.pulse[c].force.getD s.scan.pulse[c].count }

variable {d : State}

theorem PlansMade.entryAt (made : PlansMade (restarted s) p) (c : Channel) : p.planner.entries[c] = entryAt s c := by
  have same : burnerOf (restarted s) c = burnerOf s c := rfl
  unfold Machine.entryAt
  cases burner : burnerOf s c with
  | none => exact made.unassigned c (same.trans burner)
  | some b =>
    have fed : feeds s c b = true := (feeds_iff s c b).mpr burner
    exact (made.entries b c ((feeds_congr (s := s) rfl c b).trans fed)).trans ((restarted_samePlan b).entry fed)

theorem shortfallPoint_own (b : Burner) (c : Channel) : shortfallPoint b ≠ deviationPoint c ∧ shortfallPoint b ≠ faultPoint c
    ∧ shortfallPoint b ≠ holdPoint c := by
  have value : (shortfallPoint b).val = 64 ∨ (shortfallPoint b).val = 65 := by cases b <;> decide
  refine ⟨fun e => ?_, fun e => ?_, fun e => ?_⟩
  all_goals
    have position := congrArg Fin.val e
    simp only [deviationPoint, faultPoint, holdPoint] at position
    omega

theorem PlansMade.alike (made : PlansMade (restarted s) p) (c : Channel) :
    Alike c (s.onEntry c fun _ => Machine.entryAt s c) p := by
  have scan : p.scan = s.scan := made.touches .scan (by decide)
  have chans : p.chans = s.chans := made.touches .chans (by decide)
  have stored : (s.onEntry c fun _ => Machine.entryAt s c).planner.entries[c] = Machine.entryAt s c :=
    upd_same s.planner.entries c _
  have deviation : ∀ b, deviationPoint c ≠ shortfallPoint b := fun b => (shortfallPoint_own b c).1.symm
  have fault : ∀ b, faultPoint c ≠ shortfallPoint b := fun b => (shortfallPoint_own b c).2.1.symm
  exact
    { store := made.touches .store (by decide)
      chan := by rw [chans]; rfl
      entry := (made.entryAt c).trans stored.symm
      pulse := by rw [scan]; rfl
      cell := by rw [cellOf, scan]; rfl
      total := (congrArg (fun v : Vector ChanTotal 6 => v[c]) made.totals.1 :)
      deviation := (congrArg PointRec.cond (made.points _ deviation) :)
      fault := (congrArg PointRec.cond (made.points _ fault) :) }

theorem SecondsCounted.alike (counted : SecondsCounted d e) (c : Channel) : Alike c d e := by
  have scan : e.scan = d.scan := counted.touches .scan (by decide)
  have alarm : e.alarm = d.alarm := counted.touches .alarm (by decide)
  exact ⟨counted.touches .store (by decide), by rw [counted.touches .chans (by decide)],
    by rw [counted.touches .planner (by decide)], by rw [scan], by rw [cellOf, scan, cellOf], by rw [counted.chans], by rw [alarm],
    by rw [alarm]⟩

theorem dosed_of_steps (made : PlansMade (restarted s) p) (done : WorksDone p d) (counted : SecondsCounted d e) :
    Dosed s e := by
  have planner : e.planner = p.planner :=
    (counted.touches .planner (by decide)).trans (done.touches .planner (by decide))
  have alarm : e.alarm = d.alarm := counted.touches .alarm (by decide)
  have scan : e.scan = d.scan := counted.touches .scan (by decide)
  have scanned : p.scan = s.scan := made.touches .scan (by decide)
  have restarts : Touches [.planner] s (restarted s) := onPlanner_touches _ s
  exact
    { touches := restarts.mono.trans (made.touches.mono.trans (done.touches.mono.trans counted.touches.mono))
      analog := by rw [scan, done.analog, scanned]
      discrete := by rw [scan, done.discrete, scanned]
      points := fun q away => by rw [alarm, done.points q away.2, made.points q away.1]; rfl
      overload := by rw [counted.overload, done.overload, made.totals.2]; rfl
      demand := fun b => by rw [planner, made.demand b, (restarted_samePlan b).made]
      planTimer := by rw [planner, made.planTimer]; rfl
      fuels := fun c => by rw [planner, made.fuels c]; rfl
      entry := fun c => by rw [planner, made.entryAt c]
      excess := fun b firing c fed => by
        rw [planner, made.excesses b ((fires_congr (s := s) rfl b).trans firing) c ((feeds_congr (s := s) rfl c b).trans fed),
          (restarted_samePlan b).plan]
      cond := fun b => by
        rw [alarm, done.points _ (shortfallPoint_own b), made.cond b, (restarted_samePlan b).made]
        rfl
      worked := fun c => (done.alike c _ (made.alike c)).trans (counted.alike c)
      taken := fun c => by
        have own := (done.alike c p ⟨rfl, rfl, rfl, rfl, rfl, rfl, rfl, rfl⟩).trans (counted.alike c)
        obtain ⟨awaits, pulse⟩ := cycleWork_taken c p
        rw [own.chan, own.pulse, awaits, pulse, scanned]
        exact ⟨rfl, rfl⟩ }

theorem dosedAt_dosed (s : State) : Dosed s (dosedAt s) := by
  have made := plansOf_made (restarted s)
  unfold dosedAt
  generalize plansOf (restarted s) = p at *
  have done := cycleWorks_done (List.nodup_finRange 6) List.mem_finRange p
  generalize forEach (List.finRange 6) cycleWork p = d at *
  exact dosed_of_steps made done ((forcedSecond_counted d).trans (firingSeconds_counted _))

end

end Sys2Proof.Machine
end

section
/-! PROOFS. The plan-cycle expiry, told by the state it finds (O13). -/

namespace Sys2Proof.Machine

-- One proof at a time: proofs that wait for one another hold a thread each, and the threads' memory is bounded.
set_option Elab.async false

/-! ## The cooler reads none of what plans and dosing change -/

section
variable {s e : State}

/-- Do two states give the cooler's work the same inputs? -/
structure SameCooler (s e : State) : Prop where
  cooler : e.cooler = s.cooler
  analog : e.scan.analog = s.scan.analog
  discrete : e.scan.discrete = s.scan.discrete
  store : e.store = s.store
  floor : e.floor = s.floor

theorem Dosed.sameCooler (dosed : Dosed s e) : SameCooler s e :=
  ⟨dosed.touches .cooler (by decide), dosed.analog, dosed.discrete, dosed.touches .store (by decide),
    dosed.touches .floor (by decide)⟩

theorem SameCooler.live (same : SameCooler s e) : e.live = s.live := congrArg Store.live same.store

theorem SameCooler.fan (same : SameCooler s e) (f : Fan) : fanUpdates e f = fanUpdates s f ∧ fanFails e f = fanFails s f
    ∧ fanKept e f = fanKept s f := by
  have flow : fanFlow e f = fanFlow s f := by rw [fanFlow, same.analog, fanFlow]
  have updates : fanUpdates e f = fanUpdates s f := by rw [fanUpdates, same.cooler, same.floor, fanUpdates]
  have judges : fanJudges e f = fanJudges s f := by rw [fanJudges, updates, flow, fanJudges]
  have low : fanLow e f = fanLow s f := by rw [fanLow, flow, same.live, fanLow]
  have isOpen : fanOpen e f = fanOpen s f := by rw [fanOpen, same.cooler, fanOpen]
  have count : fanCount e f = fanCount s f := by rw [fanCount, judges, low, isOpen, same.cooler, same.live, fanCount]
  have fails : fanFails e f = fanFails s f := by rw [fanFails, judges, low, isOpen, same.cooler, same.live, count, fanFails]
  have trim : fanTrim e f = fanTrim s f := by rw [fanTrim, judges, same.cooler, flow, same.live, fanTrim]
  exact ⟨updates, fails, by rw [fanKept, count, fails, trim, same.cooler, same.live, fanKept]⟩

theorem SameCooler.pressure (same : SameCooler s e) :
    pressureCounted e = pressureCounted s ∧ pressureFound e = pressureFound s :=
  pressure_congr (by rw [same.cooler]) same.store

theorem SameCooler.found (same : SameCooler s e) : overloadFound e = overloadFound s ∧ leavesFound e = leavesFound s
    ∧ clearFound e = clearFound s := by
  obtain ⟨-, pressure⟩ := same.pressure
  have fails (f : Fan) := (same.fan f).2.1
  have newly : newlyFound e = newlyFound s := by rw [newlyFound, pressure, fails, fails, fails, same.cooler, newlyFound]
  have entering : enteringFound e = enteringFound s := by
    rw [enteringFound, pressure, fails, fails, fails, same.cooler, same.discrete, enteringFound]
  have clear : clearFound e = clearFound s := by rw [clearFound, entering, same.cooler, clearFound]
  have leaves : leavesFound e = leavesFound s := by rw [leavesFound, same.cooler, same.live, clear, leavesFound]
  exact ⟨by rw [overloadFound, newly, leaves, same.cooler, overloadFound], leaves, clear⟩

end

/-! ## The cooler after the expiry (R99 to R106) -/

section
variable (s : State)

/-- The effective target of a fan after the expiry. -/
def effAfter (f : Fan) : Nat :=
  if overloadFound s = true ∧ f.val < 3 then min 1200 (s.cooler.fans[f].target + s.live.cooler.boost)
  else s.cooler.fans[f].target

variable {s}

theorem dampered_standing {f : Fan} (off : fanUpdates s f = false) : (fanKept s f).dampered (overloadFound s) s f =
    { fanKept s f with
      effTarget := effAfter s f, damper := if s.cooler.fans[f].on then s.live.fans[f].standby else 0 } := by
  have eff : (if overloadFound s && isHot f then min 1200 ((fanKept s f).target + s.live.cooler.boost)
      else (fanKept s f).target) = effAfter s f := by
    simp only [Bool.and_eq_true, isHot_iff]
    rfl
  unfold FanRec.dampered
  dsimp only
  rw [eff]
  have same : (fanKept s f).on = s.cooler.fans[f].on := rfl
  rw [same]
  cases on : s.cooler.fans[f].on with
  | false => rfl
  | true =>
    rw [fanUpdates, on, Bool.true_and, decide_eq_false_iff_not] at off
    have still : s.floor.mode = .standby ∨ s.floor.mode = .settle := by
      cases mode : s.floor.mode with
      | normal => exact absurd (.inl mode) off
      | fallback => exact absurd (.inr mode) off
      | standby => exact .inl rfl
      | settle => exact .inr rfl
    rw [if_pos rfl, if_pos rfl, if_pos still]

theorem dampered_updated {f : Fan} (updates : fanUpdates s f = true) : (fanKept s f).dampered (overloadFound s) s f =
    { fanKept s f with
      effTarget := effAfter s f
      damper := (clampInt 0 1000 (tablePosition s.live.fans[f].table (effAfter s f) + fanTrim s f)).toNat } := by
  have eff : (if overloadFound s && isHot f then min 1200 ((fanKept s f).target + s.live.cooler.boost)
      else (fanKept s f).target) = effAfter s f := by
    simp only [Bool.and_eq_true, isHot_iff]
    rfl
  unfold fanUpdates at updates
  obtain ⟨on, mode⟩ := (Bool.and_eq_true _ _).mp updates
  have moves : ¬(s.floor.mode = .standby ∨ s.floor.mode = .settle) := by
    rcases of_decide_eq_true mode with normal | fallback
    · rw [normal]; decide
    · rw [fallback]; decide
  have same : (fanKept s f).on = s.cooler.fans[f].on := rfl
  unfold FanRec.dampered
  dsimp only
  rw [eff, same, on, if_pos rfl, if_neg moves]
  rfl

theorem dampered_cold {f : Fan} (o p : Bool) (x : FanRec) (cold : isHot f = false) :
    x.dampered o s f = x.dampered p s f := by
  rw [FanRec.dampered, FanRec.dampered, cold, Bool.and_false, Bool.and_false]

/-- What the expiry leaves in the cooler. -/
theorem cooler_after {e k t : State} (dosed : Dosed s e) (cycled : CoolerCycled e k) (counted : SecondsCounted k t) :
    t.cooler.grates = s.cooler.grates ∧ t.cooler.window = s.cooler.window
    ∧ t.cooler.pressureCount = pressureCounted s ∧ t.cooler.pressureCond = pressureFound s
    ∧ t.cooler.overload = overloadFound s
    ∧ t.cooler.clearCount =
      (if overloadFound s then some (clearFound s) else if s.cooler.overload then none else s.cooler.clearCount)
    ∧ (overloadFound s = s.cooler.overload → t.cooler.cap = s.cooler.cap)
    ∧ (leavesFound s = true → t.cooler.cap = 250000 ∧ t.planner.hCap = 250000)
    ∧ (overloadFound s = true → s.cooler.overload = false →
      t.planner.hCap = t.cooler.cap ∧ (fires s .main = false → t.cooler.cap = 0))
    ∧ t.alarm.points[pt 70].cond =
      (if overloadFound s = s.cooler.overload then s.alarm.points[pt 70].cond else overloadFound s)
    ∧ t.shift.totals.overload =
      (if overloadFound s then min (s.shift.totals.overload + 1) 4294967295 else s.shift.totals.overload) := by
  have same := dosed.sameCooler
  obtain ⟨after, leaving, clear⟩ := same.found
  obtain ⟨count, found⟩ := same.pressure
  obtain ⟨grates, window, pressureCount, pressureCond⟩ := cycled.kept
  have overload := cycled.overload
  have clearCount := cycled.clearCount
  have stays := cycled.stays
  have leaves := cycled.leaves
  have enters := cycled.enters
  have cond := cycled.cond
  have seconds := cycled.seconds
  have cooler : t.cooler = k.cooler := counted.touches .cooler (by decide)
  have planner : t.planner = k.planner := counted.touches .planner (by decide)
  have alarm : t.alarm = k.alarm := counted.touches .alarm (by decide)
  have away : AwayFromDosing (pt 70) :=
    ⟨fun b => by cases b <;> decide, fun c => ⟨fun e => ?_, fun e => ?_, fun e => ?_⟩⟩
  rw [after, same.cooler] at stays enters cond clearCount
  rw [after] at overload seconds
  rw [clear] at clearCount
  rw [leaving] at leaves
  rw [count] at pressureCount
  rw [found] at pressureCond
  rw [same.cooler] at grates window
  rw [dosed.points _ away] at cond
  rw [dosed.overload] at seconds
  rw [cooler, planner, alarm, counted.overload]
  refine ⟨grates, window, pressureCount, pressureCond, overload, clearCount, fun stands => (stays stands).1, leaves,
    fun inside outside => ?_, cond, seconds⟩
  obtain ⟨cap, hCap, -⟩ := enters inside outside
  refine ⟨hCap.trans cap.symm, fun out => ?_⟩
  have none : fires e .main = false := (fires_congr (dosed.touches .burns (by decide)) .main).trans out
  rw [cap, overloadCap_eq, none]
  rfl
  all_goals
    have position := congrArg Fin.val e
    simp only [pt, deviationPoint, faultPoint, holdPoint] at position
    omega

theorem fanPoint_away (f : Fan) : AwayFromDosing (fanPoint f) := by
  refine ⟨fun b e => ?_, fun c => ⟨fun e => ?_, fun e => ?_, fun e => ?_⟩⟩
  · have value : (shortfallPoint b).val = 64 ∨ (shortfallPoint b).val = 65 := by cases b <;> decide
    have position : 70 + f.val = (shortfallPoint b).val := congrArg Fin.val e
    omega
  all_goals
    have position := congrArg Fin.val e
    simp only [fanPoint, deviationPoint, faultPoint, holdPoint] at position
    omega

/-- What the expiry leaves of a fan. -/
theorem fan_after {e k t : State} (dosed : Dosed s e) (cycled : CoolerCycled e k) (counted : SecondsCounted k t) (f : Fan) :
    (fanUpdates s f = true → t.cooler.fans[f] = { fanKept s f with
      effTarget := effAfter s f
      damper := (clampInt 0 1000 (tablePosition s.live.fans[f].table (effAfter s f) + fanTrim s f)).toNat })
    ∧ (fanUpdates s f = false → overloadFound s = s.cooler.overload ∨ 3 ≤ f.val → t.cooler.fans[f] = fanKept s f)
    ∧ (fanUpdates s f = false → overloadFound s ≠ s.cooler.overload → f.val < 3 → t.cooler.fans[f] = { fanKept s f with
      effTarget := effAfter s f, damper := if s.cooler.fans[f].on then s.live.fans[f].standby else 0 })
    ∧ t.alarm.points[fanPoint f].cond =
      (if fanFails s f = s.cooler.fans[f].failCond then s.alarm.points[fanPoint f].cond else fanFails s f) := by
  have same := dosed.sameCooler
  obtain ⟨after, -, -⟩ := same.found
  obtain ⟨updates, fails, kept⟩ := same.fan f
  have fan := cycled.fan f
  have cond := cycled.fanCond f
  rw [after, updates, kept, same.cooler, FanRec.dampered_congr _ same.store same.floor,
    FanRec.dampered_congr _ same.store same.floor] at fan
  rw [fails, same.cooler, dosed.points _ (fanPoint_away f)] at cond
  have cooler : t.cooler = k.cooler := counted.touches .cooler (by decide)
  have alarm : t.alarm = k.alarm := counted.touches .alarm (by decide)
  have hot : isHot f = true ↔ f.val < 3 := isHot_iff f
  rw [cooler, alarm]
  refine ⟨fun on => ?_, fun off stands => ?_, fun off moves low => ?_, cond⟩
  · have last : k.cooler.fans[f] = (fanKept s f).dampered (overloadFound s) s f := by
      rw [fan, on]
      split
      · rfl
      · next still =>
        rw [if_pos rfl]
        by_cases stands : overloadFound s = s.cooler.overload
        · rw [stands]
        · exact dampered_cold _ _ _ ((Bool.not_eq_true _).mp fun isHot => still ⟨stands, isHot⟩)
    rw [last, dampered_updated on]
  · have still : ¬(overloadFound s ≠ s.cooler.overload ∧ isHot f = true) := fun ⟨moves, isHot⟩ =>
      stands.elim moves fun cold => absurd (hot.mp isHot) (by omega)
    rw [fan, if_neg still, off]
    rfl
  · rw [fan, if_pos ⟨moves, hot.mpr low⟩, dampered_standing off]

end

end Sys2Proof.Machine
end

section
/-! PROOFS. Demands, entries and channels after a plan-cycle expiry, and O13 (R11, R21 to R37, R52, R105). -/

namespace Sys2Proof.Machine

-- One proof at a time: proofs that wait for one another hold a thread each, and the threads' memory is bounded.
set_option Elab.async false

/-! ## The demand records (R22, R24, R34, R35) -/

section
variable (b : Burner) (s : State)

theorem demandPlanned_shortfall : (demandPlanned b s).shortfall = shortMade s b := by
  unfold demandPlanned shortMade
  split <;> rfl

theorem demandMade_plan : (demandMade b s).hApp = (if fires s b then rampedHeat s b else 0)
    ∧ (demandMade b s).shortfall = shortMade s b
    ∧ (demandMade b s).surplus = (if fires s b then min 250000 (surplusOf (planMade s b)) else 0)
    ∧ (demandMade b s).hReq = (s.planner.demand.get b).hReq := by
  have checked (limit : Nat) (d : Demand) : (d.checked limit).hApp = d.hApp ∧ (d.checked limit).shortfall = d.shortfall
      ∧ (d.checked limit).surplus = d.surplus ∧ (d.checked limit).hReq = d.hReq := by
    unfold Demand.checked
    split <;> exact ⟨rfl, rfl, rfl, rfl⟩
  obtain ⟨hApp, shortfall, surplus, hReq⟩ := checked (s.live.burners.get b).shortfallLimit (demandPlanned b s)
  unfold demandMade
  rw [hApp, shortfall, surplus, hReq, demandPlanned_shortfall]
  unfold demandPlanned
  split <;> exact ⟨rfl, rfl, rfl, rfl⟩

theorem demandMade_checked :
    let beyond := decide ((s.live.burners.get b).shortfallLimit < shortMade s b)
    (demandMade b s).shortfallCount = (if beyond then min ((s.planner.demand.get b).shortfallCount + 1) 10 else 0)
    ∧ (demandMade b s).shortfallCond =
      (beyond && ((s.planner.demand.get b).shortfallCond || decide ((demandMade b s).shortfallCount = 10))) := by
  have kept : (demandPlanned b s).shortfallCount = (s.planner.demand.get b).shortfallCount
      ∧ (demandPlanned b s).shortfallCond = (s.planner.demand.get b).shortfallCond := by
    unfold demandPlanned
    split <;> exact ⟨rfl, rfl⟩
  unfold demandMade Demand.checked
  rw [demandPlanned_shortfall, kept.1, kept.2]
  by_cases beyond : (s.live.burners.get b).shortfallLimit < shortMade s b
  · rw [if_pos beyond, decide_eq_true beyond]
    exact ⟨rfl, rfl⟩
  · rw [if_neg beyond, decide_eq_false beyond]
    exact ⟨rfl, rfl⟩

/-- The entry that the plan of a FIRING burner gives a channel. -/
theorem entryOf_eq (plan : List Planned) (c : Channel) : entryOf s plan c =
    if s.chans[c].state = .hold then { s.planner.entries[c] with role := .held }
    else if s.chans[c].state = .dosing then
      ((plan.find? fun x => decide (x.chan = c)).map Planned.entry).getD ⟨0, 0, .zeroShare⟩
    else ⟨0, 0, .noRole⟩ := by
  unfold entryOf
  rw [dosingEntry_eq]
  generalize s.chans[c].state = state
  cases state <;> rfl

end

/-! ## From the cooler's start to the end of the expiry -/

/-- What the cooler's work and the mode's second leave, after the plans and the dosing. -/
structure Finished (s e t : State) : Prop where
  dosed : Dosed s e
  touches : Touches [.cooler, .planner, .chans, .alarm, .shift, .handed] e t
  cap : CapEffect e t
  points : ∀ p : Point, p ≠ pt 70 → (∀ f, p ≠ fanPoint f) → t.alarm.points[p] = e.alarm.points[p]
  totals : t.shift.totals.chans = e.shift.totals.chans
  entered : fires s .main = true → s.cooler.overload = false → t.cooler.overload = true →
    t.planner.hCap = overloadCap e ∧ t.planner.demand.main.hApp = min e.planner.demand.main.hApp (overloadCap e)
  stays : 1 ≤ s.live.cooler.clearTime → t.cooler.overload = s.cooler.overload → t.planner = e.planner ∧ t.chans = e.chans

theorem finished_of_cooler {s e k t : State} (dosed : Dosed s e) (effect : CoolerEffect e k)
    (cycled : 1 ≤ e.live.cooler.clearTime → CoolerCycled e k) (counted : SecondsCounted k t) : Finished s e t := by
  have same := dosed.sameCooler
  have planner : t.planner = k.planner := counted.touches .planner (by decide)
  have chans : t.chans = k.chans := counted.touches .chans (by decide)
  have alarm : t.alarm = k.alarm := counted.touches .alarm (by decide)
  have cooler : t.cooler = k.cooler := counted.touches .cooler (by decide)
  obtain ⟨target, others, calciner, main, idle, kept⟩ := effect.cap
  rw [← planner] at calciner main idle kept
  refine
    { dosed := dosed
      touches := effect.touches.trans counted.touches.mono
      cap := ⟨fun c => by rw [planner, chans]; exact target c, fun c out => by rw [planner, chans]; exact others c out, calciner,
        main, idle, kept⟩
      points := fun p seventy fan => by rw [alarm, effect.points p seventy fan]
      totals := by rw [counted.chans, effect.totals]
      entered := fun _ outside inside => ?_
      stays := fun time stands => ?_ }
  · rw [cooler] at inside
    rcases Nat.eq_zero_or_pos e.live.cooler.clearTime with zero | time
    · exact absurd ((effect.zero zero).symm.trans inside) Bool.false_ne_true
    · have turned := cycled time
      rw [planner]
      exact (turned.enters (turned.overload.symm.trans inside) (by rw [same.cooler]; exact outside)).2
  · have turned := cycled (by rw [same.live]; exact time)
    rw [cooler, turned.overload, ← same.cooler] at stands
    rw [planner, chans]
    exact (turned.stays stands).2

section
variable {s e t : State} (done : Finished s e t)
include done

theorem Finished.untouched {c : Channel} (out : feeds s c .main = false ∨ fires s .main = false) :
    t.chans[c] = e.chans[c] ∧ t.planner.entries[c] = e.planner.entries[c]
    ∧ t.planner.excesses[c] = e.planner.excesses[c] := by
  refine done.cap.others c (out.imp (fun other => ?_) fun off => ?_)
  · rw [isReplanned, feeds_congr (done.dosed.touches .store (by decide)), other, Bool.false_and, Bool.false_and]
  · have demand := congrArg Demand.hApp (done.dosed.demand .main)
    rw [(demandMade_plan .main s).1, off] at demand
    exact demand

/-- The demand of a burner that OVERLOAD's turn does not reach. -/
theorem Finished.demand_kept {b : Burner} (out : b = .calciner ∨ fires s b = false) :
    t.planner.demand.get b = demandMade b s := by
  cases b with
  | calciner => exact done.cap.calciner.trans (done.dosed.demand .calciner)
  | main =>
    have off := out.resolve_left (by decide)
    have made := done.dosed.demand .main
    refine (done.cap.idle ?_).trans made
    have demand := congrArg Demand.hApp made
    rw [(demandMade_plan .main s).1, off] at demand
    exact demand

/-- What every burner's demand keeps of its plan. -/
theorem Finished.demand (b : Burner) : (t.planner.demand.get b).hReq = (s.planner.demand.get b).hReq
    ∧ (t.planner.demand.get b).shortfallCount = (demandMade b s).shortfallCount
    ∧ (t.planner.demand.get b).shortfallCond = (demandMade b s).shortfallCond := by
  have hReq := (demandMade_plan b s).2.2.2
  rw [← hReq]
  cases b with
  | calciner =>
    rw [done.demand_kept (.inl rfl)]
    exact ⟨rfl, rfl, rfl⟩
  | main =>
    rw [← done.dosed.demand .main]
    exact done.cap.main

theorem Finished.idle {b : Burner} (off : fires s b = false) : (t.planner.demand.get b).hApp = 0
    ∧ (t.planner.demand.get b).shortfall = 0 ∧ (t.planner.demand.get b).surplus = 0
    ∧ ∀ c : Channel, feeds s c b = true → t.planner.entries[c] = ⟨0, 0, .noRole⟩ := by
  obtain ⟨hApp, shortfall, surplus, -⟩ := demandMade_plan b s
  rw [done.demand_kept (.inr off), hApp, shortfall, surplus, shortMade, off]
  refine ⟨rfl, rfl, rfl, fun c fed => ?_⟩
  have entry : entryAt s c = emptyEntry := by
    unfold entryAt
    rw [(feeds_iff s c b).mp fed]
    dsimp only
    rw [entryPlanned, off]
    rfl
  have out : feeds s c .main = false ∨ fires s .main = false := by
    cases b with
    | main => exact .inr off
    | calciner => exact .inl (feeds_other fed (by decide))
  exact (done.untouched out).2.1.trans ((done.dosed.entry c).trans entry)

theorem Finished.firing {b : Burner} (firing : fires s b = true)
    (kept : b = .calciner ∨ (1 ≤ s.live.cooler.clearTime ∧ t.cooler.overload = s.cooler.overload)) :
    (t.planner.demand.get b).hApp = rampedHeat s b ∧ (t.planner.demand.get b).shortfall = shortMade s b
    ∧ (t.planner.demand.get b).surplus = min 250000 ((planMade s b).map Planned.excess).sum
    ∧ ∀ c : Channel, feeds s c b = true →
      t.planner.entries[c] = entryOf s (planMade s b) c
      ∧ (s.chans[c].state = .dosing → t.planner.excesses[c] =
        (((planMade s b).find? fun x => decide (x.chan = c)).map Planned.excess).getD 0) := by
  obtain ⟨hApp, shortfall, surplus, -⟩ := demandMade_plan b s
  have demand : t.planner.demand.get b = demandMade b s := by
    rcases kept with calciner | ⟨time, stands⟩
    · exact done.demand_kept (.inl calciner)
    · rw [(done.stays time stands).1]
      exact done.dosed.demand b
  rw [demand, hApp, shortfall, surplus, firing]
  refine ⟨rfl, rfl, rfl, fun c fed => ?_⟩
  have entry : entryAt s c = entryOf s (planMade s b) c := by
    unfold entryAt
    rw [(feeds_iff s c b).mp fed]
    dsimp only
    rw [entryPlanned, firing]
    rfl
  have same : t.planner.entries[c] = e.planner.entries[c] ∧ t.planner.excesses[c] = e.planner.excesses[c] := by
    rcases kept with rfl | ⟨time, stands⟩
    · exact (done.untouched (.inl (feeds_other fed (by decide)))).2
    · rw [(done.stays time stands).1]
      exact ⟨rfl, rfl⟩
  exact ⟨same.1.trans ((done.dosed.entry c).trans entry), fun _ =>
    same.2.trans ((done.dosed.excess b firing c fed).trans (excessOf_eq _ c))⟩

theorem Finished.unassigned {c : Channel} (none : burnerOf s c = none) : t.planner.entries[c] = ⟨0, 0, .noRole⟩ := by
  have out : feeds s c .main = false := (Bool.not_eq_true _).mp fun fed => by
    rw [(feeds_iff s c .main).mp fed] at none
    cases none
  have entry : entryAt s c = emptyEntry := by
    unfold entryAt
    rw [none]
  exact (done.untouched (.inl out)).2.1.trans ((done.dosed.entry c).trans entry)

/-- A channel after the expiry: its own work, and at most a replan's target. -/
theorem Finished.channel (c : Channel) : t.chans[c] = { (workedAt s c).chans[c] with r := t.chans[c].r }
    ∧ (burnerOf s c ≠ some .main ∨ fires s .main = false
        ∨ (1 ≤ s.live.cooler.clearTime ∧ t.cooler.overload = s.cooler.overload) →
      t.chans[c].r = (workedAt s c).chans[c].r)
    ∧ (t.chans[c].r = (workedAt s c).chans[c].r ∨ t.chans[c].r = t.planner.entries[c].rate)
    ∧ t.shift.totals.chans[c] = (workedAt s c).shift.totals.chans[c]
    ∧ t.alarm.points[deviationPoint c].cond = (workedAt s c).alarm.points[deviationPoint c].cond
    ∧ t.alarm.points[faultPoint c].cond = (workedAt s c).alarm.points[faultPoint c].cond := by
  have worked := done.dosed.worked c
  obtain ⟨chan, targets⟩ := done.cap.target c
  have own (p : Point) (channel : p = deviationPoint c ∨ p = faultPoint c) : t.alarm.points[p] = e.alarm.points[p] := by
    have value : 44 ≤ p.val ∧ p.val < 56 := by
      rcases channel with rfl | rfl
      · exact ⟨Nat.le_add_right _ _, by show 44 + c.val < 56; omega⟩
      · exact ⟨by show 44 ≤ 50 + c.val; omega, by show 50 + c.val < 56; omega⟩
    refine done.points p (fun same => ?_) fun f same => ?_
    · have position : p.val = 69 := congrArg Fin.val same
      omega
    · have position : p.val = 70 + f.val := congrArg Fin.val same
      omega
  rw [← worked.chan, ← worked.total, ← worked.deviation, ← worked.fault, done.totals, own _ (.inl rfl), own _ (.inr rfl)]
  refine ⟨chan, fun out => ?_, targets.imp And.left id, rfl, rfl, rfl⟩
  rcases out with other | off | ⟨time, stands⟩
  · have away : feeds s c .main = false := (Bool.not_eq_true _).mp fun fed => other ((feeds_iff s c .main).mp fed)
    rw [(done.untouched (.inl away)).1]
  · rw [(done.untouched (.inr off)).1]
  · rw [(done.stays time stands).2]

theorem Finished.shortfall (b : Burner) :
    t.alarm.points[shortfallPoint b].cond =
      if (t.planner.demand.get b).shortfallCond = (s.planner.demand.get b).shortfallCond
      then s.alarm.points[shortfallPoint b].cond else (t.planner.demand.get b).shortfallCond := by
  have away : shortfallPoint b ≠ pt 70 := by cases b <;> decide
  rw [(done.demand b).2.2, done.points _ away fun f same => (fanPoint_away f).1 b same.symm, done.dosed.cond b]

/-- An entry to OVERLOAD caps MAIN by its share of the ramped heat (R105). -/
theorem Finished.entry (firing : fires s .main = true) (outside : s.cooler.overload = false)
    (inside : t.cooler.overload = true) :
    t.planner.hCap = min 249999 (rampedHeat s .main * s.live.cooler.capPercent / 100)
    ∧ t.planner.demand.main.hApp = min (rampedHeat s .main) t.planner.hCap := by
  obtain ⟨hCap, hApp⟩ := done.entered firing outside inside
  have fires : fires e .main = true := (fires_congr (done.dosed.touches .burns (by decide)) .main).trans firing
  have ramped : e.planner.demand.main.hApp = rampedHeat s .main := by
    have demand := congrArg Demand.hApp (done.dosed.demand .main)
    rw [(demandMade_plan .main s).1, firing] at demand
    exact demand
  have share : overloadCap e = min 249999 (rampedHeat s .main * s.live.cooler.capPercent / 100) := by
    rw [overloadCap_eq, fires, ramped, done.dosed.sameCooler.live]
    rfl
  rw [hCap, hApp, ramped, share]
  exact ⟨rfl, rfl⟩

theorem Finished.timer : t.planner.planTimer = some 1000
    ∧ ∀ c : Channel, t.chans[c].awaitsPlan = false ∧ t.planner.fuels[c] = fuelOf s c := by
  obtain ⟨fuels, timer⟩ := done.cap.kept
  rw [fuels, timer]
  refine ⟨done.dosed.planTimer, fun c => ⟨?_, done.dosed.fuels c⟩⟩
  rw [(done.cap.target c).1]
  exact (done.dosed.taken c).1

theorem Finished.pulse (i : PulseIn) : t.scan.pulse[i].count = 0
    ∧ t.scan.pulse[i].lastTaken = s.scan.pulse[i].force.getD s.scan.pulse[i].count := by
  have taken := (done.dosed.taken i).2
  rw [done.touches .scan (by decide), taken]
  exact ⟨rfl, rfl⟩

theorem Finished.frame : t.burns = s.burns ∧ t.floor = s.floor ∧ t.link = s.link ∧ t.store = s.store :=
  ⟨(done.touches .burns (by decide)).trans (done.dosed.touches .burns (by decide)),
    (done.touches .floor (by decide)).trans (done.dosed.touches .floor (by decide)),
    (done.touches .link (by decide)).trans (done.dosed.touches .link (by decide)),
    (done.touches .store (by decide)).trans (done.dosed.touches .store (by decide))⟩

end

/-! ## The expiry -/

theorem exec_planCycleExpiry {s : State} (run : s.phase = .running) (runs : s.planner.planTimer.isSome = true) :
    exec .planCycleExpiry s = .next (modeSecond (coolerCycle (dosedAt s))) := by
  rw [← planCycle_eq]
  exact congrArg Host.Outcome.next ((if_pos run).trans (if_pos runs))

theorem planCycle_finished (s : State) : Finished s (dosedAt s) (modeSecond (coolerCycle (dosedAt s))) :=
  finished_of_cooler (dosedAt_dosed s) (coolerCycle_effect _) coolerCycle_cycled (modeSecond_counted _)

end Sys2Proof.Machine
end

section
/-! PROOFS. O13: the plan-cycle expiry. -/

namespace Sys2Proof.Machine

-- One proof at a time: proofs that wait for one another hold a thread each, and the threads' memory is bounded.
set_option Elab.async false

/-- A plan-cycle expiry leaves what its plans, its dosing and its cooler leave. -/
theorem planCycle_plans (s : State) (run : s.phase = .running) (runs : s.planner.planTimer.isSome = true) :
    ∃ t, exec .planCycleExpiry s = .next t ∧ Finished s (dosedAt s) t :=
  ⟨_, exec_planCycleExpiry run runs, planCycle_finished s⟩

/-- Settles O13. -/
theorem planCycleExpiry : Obligations.PlanCycleExpiry := by
  refine ⟨fun s run runs => ?_, fun cap s => capEvent_spec cap s, fun s run runs time => ?_⟩
  · intro ramped plan short planned entry worked
    obtain ⟨t, command, done⟩ := planCycle_plans s run runs
    have isPlanned (b : Burner) (c : Channel) : planned b c = entryOf s (planMade s b) c := (entryOf_eq s _ c).symm
    have isEntry (c : Channel) : entry c = entryAt s c := by
      dsimp only [entry]
      unfold entryAt
      cases burnerOf s c with
      | none => rfl
      | some b =>
        dsimp only
        rw [isPlanned, entryPlanned]
        rfl
    have isWorked (c : Channel) : worked c = workedAt s c := by
      dsimp only [worked]
      rw [isEntry, workedAt]
    obtain ⟨timer, each⟩ := done.timer
    refine ⟨t, command, timer, done.pulse, fun b off => done.idle off, fun b firing kept => ?_, fun c => done.unassigned,
      fun c => ?_, done.entry, fun b => ?_, fun b => (done.demand b).1, each, done.frame⟩
    · obtain ⟨hApp, shortfall, surplus, entries⟩ := done.firing firing kept
      exact ⟨hApp, shortfall, surplus, fun c fed => ⟨(entries c fed).1.trans (isPlanned b c).symm, (entries c fed).2⟩⟩
    · rw [isWorked]
      exact done.channel c
    · obtain ⟨-, count, cond⟩ := done.demand b
      obtain ⟨counted, checked⟩ := demandMade_checked b s
      exact ⟨count.trans counted, by rw [cond, count]; exact checked, done.shortfall b⟩
  · have dosed := dosedAt_dosed s
    have cycled := coolerCycle_cycled (s := dosedAt s) (by rw [dosed.sameCooler.live]; exact time)
    have counted := modeSecond_counted (coolerCycle (dosedAt s))
    intro updates a judges low open100 count fails trim w met pcount pressure entering newly clear leaves inOver
    obtain ⟨grates, window, pressureCount, pressureCond, overload, clearCount, cap, left, entered, cond, seconds⟩ :=
      cooler_after dosed cycled counted
    exact ⟨_, exec_planCycleExpiry run runs, grates, window, pressureCount, pressureCond, overload, clearCount, cap, left, entered,
      cond, seconds, fan_after dosed cycled counted⟩

end Sys2Proof.Machine
end
